-- ==== Sys2Proof/Word.lean ====
section
/-!
DEFINITION. The word and byte types of the module: every CSR is 64 bits wide (R2), memory is bytes.
-/

namespace Sys2Proof

/-- A CSR, a core port or a bus beat: 64 bits (R2, R41). -/
abbrev Word := BitVec 64

/-- One byte of memory. -/
abbrev Byte := BitVec 8

/-- The word that a number is modulo 2^64. -/
abbrev Word.ofNat (n : Nat) : Word := BitVec.ofNat 64 n

end Sys2Proof
end

