-- ==== Sys2Proof/Machine/Table.lean ====
section
/-!
DEFINITION. Sparse tables keyed by number: an association list in which an unlisted key reads as a value the
reader names. State uses them wherever the spec has many like things by number.
-/

namespace Sys2Proof

/-- Entries by key, in rising key order when built by `Table.put`. -/
abbrev Table (α : Type) := List (Nat × α)

/-- The entry at a key, if the table lists one. -/
def Table.find {α : Type} : Table α → Nat → Option α
  | [], _ => none
  | (k, v) :: t, n => if k = n then some v else Table.find t n

/-- The entry at a key, or what an unlisted key reads as. -/
def Table.get {α : Type} (t : Table α) (d : α) (n : Nat) : α := (t.find n).getD d

/-- The table with the entry at a key set. -/
def Table.put {α : Type} : Table α → Nat → α → Table α
  | [], n, v => [(n, v)]
  | (k, w) :: t, n, v =>
    if n < k then (n, v) :: (k, w) :: t
    else if n = k then (n, v) :: t
    else (k, w) :: Table.put t n v

/-- The table without the entries of a key. -/
def Table.erase {α : Type} (t : Table α) (n : Nat) : Table α := t.filter (fun e => e.1 != n)

/-- The table with the entry at a key changed by a function of what it reads as. -/
def Table.modify {α : Type} (t : Table α) (d : α) (n : Nat) (f : α → α) : Table α :=
  t.put n (f (t.get d n))

/-- The values of the table, in key order. -/
def Table.values {α : Type} (t : Table α) : List α := t.map Prod.snd

/-- The keys of the table. -/
def Table.keys {α : Type} (t : Table α) : List Nat := t.map Prod.fst

/-- The table with a function applied to every value. -/
def Table.mapv {α : Type} (t : Table α) (f : α → α) : Table α := t.map (fun e => (e.1, f e.2))

/-- The keys rise strictly. -/
def Table.sorted {α : Type} : Table α → Bool
  | [] => true
  | [_] => true
  | (a, _) :: (b, w) :: t => decide (a < b) && Table.sorted ((b, w) :: t)

/-- A list of numbers with one put in, in rising order and without repeats. -/
def insertNat : List Nat → Nat → List Nat
  | [], n => [n]
  | k :: t, n => if n < k then n :: k :: t else if n = k then k :: t else k :: insertNat t n

/-- A list of numbers with one taken out. -/
def removeNat (l : List Nat) (n : Nat) : List Nat := l.filter (fun k => k != n)

/-- A list with the element at an index changed, if it has one. -/
def modifyNth {α : Type} : List α → Nat → (α → α) → List α
  | [], _, _ => []
  | a :: t, 0, f => f a :: t
  | a :: t, n + 1, f => a :: modifyNth t n f

end Sys2Proof
end

