-- ==== Sys2Proof/Machine/Bits.lean ====
section
/-!
DEFINITION. Bit fields of 64-bit words, sign extension and byte order.
-/

namespace Sys2Proof

/-- A field of a word: its least significant bit and its width (00, Notation). -/
structure Fld where
  lo : Nat
  w : Nat
deriving DecidableEq, Repr

/-- The number the field holds. -/
def Fld.get (f : Fld) (x : Word) : Nat := (x.toNat >>> f.lo) % 2 ^ f.w

/-- The bits of the field. -/
def Fld.mask (f : Fld) : Word := Word.ofNat ((2 ^ f.w - 1) <<< f.lo)

/-- The word with the field holding the low bits of a number. -/
def Fld.set (f : Fld) (x : Word) (v : Nat) : Word :=
  (x &&& ~~~ f.mask) ||| Word.ofNat ((v % 2 ^ f.w) <<< f.lo)

/-- The largest number the field holds. -/
def Fld.top (f : Fld) : Nat := 2 ^ f.w - 1

/-- Bits [lo + w - 1 : lo] of a number. -/
def bits (x : Nat) (lo w : Nat) : Nat := (x >>> lo) % 2 ^ w

/-- Bit n of a word. -/
def bit (x : Word) (n : Nat) : Bool := x.getLsbD n

/-- The word with bit n set to a value. -/
def setBit (x : Word) (n : Nat) (b : Bool) : Word :=
  if b then x ||| Word.ofNat (1 <<< n) else x &&& ~~~ Word.ofNat (1 <<< n)

/-- 1 for true, 0 for false. -/
def b2n (b : Bool) : Nat := if b then 1 else 0

/-- 1 for true, 0 for false, as a word. -/
def b2w (b : Bool) : Word := if b then 1 else 0

/-- The low w bits of a word, zero-extended. -/
def zextW (x : Word) (w : Nat) : Word := Word.ofNat (x.toNat % 2 ^ w)

/-- The low w bits of a word, sign-extended (w from 1 to 64). -/
def sextW (x : Word) (w : Nat) : Word :=
  BitVec.ofInt 64 (let n := x.toNat % 2 ^ w
    if n < 2 ^ (w - 1) then (n : Int) else (n : Int) - (2 ^ w : Int))

/-- The number that bytes spell, least significant byte first. -/
def leNat : List Byte → Nat
  | [] => 0
  | b :: t => b.toNat + 256 * leNat t

/-- The low n bytes of a number, least significant byte first. -/
def leBytes : Nat → Nat → List Byte
  | 0, _ => []
  | n + 1, x => BitVec.ofNat 8 x :: leBytes n (x / 256)

/-- The number that bytes spell, most significant byte first. -/
def beNat (l : List Byte) : Nat := leNat l.reverse

/-- The low n bytes of a number, most significant byte first. -/
def beBytes (n x : Nat) : List Byte := (leBytes n x).reverse

/-- n rounded down to a multiple of m. -/
def alignDown (n m : Nat) : Nat := n - n % m

/-- XOR of the 4-bit groups of a number, n of them from bit lo. -/
def xorNibbles : Nat → Nat → Nat → Nat
  | 0, _, _ => 0
  | n + 1, lo, x => bits x lo 4 ^^^ xorNibbles n (lo + 4) x

/-- Number of one bits among the low n bits. -/
def popcount : Nat → Nat → Nat
  | 0, _ => 0
  | n + 1, x => x % 2 + popcount n (x / 2)

/-- The least index below n at which a predicate holds. -/
def firstIdx (n : Nat) (p : Nat → Bool) : Option Nat := (List.range n).find? p

end Sys2Proof
end

