-- ==== Sys2Proof/Machine/Kinds.lean ====
section
/-!
DEFINITION. The kinds that commands and state name: operation selectors of the units, range classes, masters.
-/

namespace Sys2Proof

/-- A core by number: 0-79 the main cores, 80-83 the headworks cores 0-3 (R24, R83). -/
abbrev CoreId := Fin 84

/-- alu bitwise triggers (R72). -/
inductive AluBit where
  | and | or | xor | andn
deriving DecidableEq, Repr

/-- alu minimum and maximum triggers (R72). -/
inductive AluMin where
  | min | max | minu | maxu
deriving DecidableEq, Repr

/-- sh shift and rotate triggers (R72). -/
inductive ShOp where
  | shl | shr | sar | rol | ror
deriving DecidableEq, Repr

/-- sh counting triggers (R72). -/
inductive ShCount where
  | clz | ctz | pop | bswap
deriving DecidableEq, Repr

/-- cmp triggers (R72). -/
inductive CmpOp where
  | eq | ne | lt | le | ltu | leu | tst | ntst
deriving DecidableEq, Repr

/-- mul triggers without a flag (R72). -/
inductive MulOp where
  | lo | hs | hu
deriving DecidableEq, Repr

/-- Floating-point formats (R95): d is binary64, s is binary32. -/
inductive Fmt where
  | d | s
deriving DecidableEq, Repr

/-- fpu comparison triggers (R74). -/
inductive FpCmp where
  | eq | lt | le
deriving DecidableEq, Repr

/-- lsu load triggers (R75). -/
inductive LdOp where
  | ld8u | ld8s | ld16u | ld16s | ld32u | ld32s | ld64
deriving DecidableEq, Repr

/-- lsu store triggers (R75). -/
inductive StOp where
  | st8 | st16 | st32 | st64
deriving DecidableEq, Repr

/-- The kind of an access, as translation sees it (R187, R213); `iinv` is the access of cm.t.iinv, which needs no permission. -/
inductive AccKind where
  | read | write | fetch | probeR | probeW | pref | iinv
deriving DecidableEq, Repr

/-- The range classes of the physical map (R21). -/
inductive RangeClass where
  | normal | ledger | unmapped | scratch | strongroom | device
deriving DecidableEq, Repr

/-- Outcomes of an ECC read (R192, R228, R241): what the array's check finds. -/
inductive Ecc where
  | ok | corrected | uncorrectable
deriving DecidableEq, Repr

/-- What a read of the strongroom and the cipher's cross-check meet: the ECC of the key's read (R241), and where the sampled
block is computed differently how many of the two block cores fail their test (R358). -/
structure KeyRead where
  ecc : Ecc
  xchk : Option (Fin 3)
deriving DecidableEq, Repr

/-- A good read and no difference. -/
def KeyRead.good : KeyRead := ⟨.ok, none⟩

/-- An AES direction of a cipher request (R345, R351). -/
inductive CipOp where
  | enc | dec
deriving DecidableEq, Repr

/-- The owner of a control store that takes micro-traps (R130, R142): a main core, or sluice master A (false) or B. -/
inductive StoreUnit where
  | core (c : Fin 80)
  | sluice (b : Bool)
deriving DecidableEq, Repr

/-- What the BIST of a start finds failing (R403): island 16 or 17, island 8, 9 or 12 logic; a core; a core island; sluice
master A (false) or B; a cipher block core; a compression engine; a cistern or a DRAM row; island 13 logic. -/
inductive BistFail where
  | vital
  | core (c : Fin 80)
  | cluster (i : Fin 8)
  | master (b : Bool)
  | cipher
  | engine
  | cisternRow (bank : Fin 16) (row : Fin 1024)
  | dramRow (stack : Fin 8) (ch bank : Fin 16) (row : BitVec 17)
  | compression
deriving DecidableEq, Repr

/-- One lane's reading: its eye in mV, and the refreshes in a row that found it below the limit (R450). -/
structure LaneReading where
  lane : Fin 288
  eye : BitVec 8
  low : BitVec 16
deriving DecidableEq, Repr

/-- The readings of one evaluation: slowdowns in ppm of cores, islands, cipher block cores and compression engines, and the
lanes' eyes (R450). -/
structure WearReading where
  cores : List (Fin 80 × BitVec 17)
  islands : List (Fin 18 × BitVec 17)
  cipher : List (BitVec 9 × BitVec 17)
  engines : List (Fin 72 × BitVec 17)
  lanes : List LaneReading
deriving DecidableEq, Repr

/-- What a step of a start meets outside the model (R401-R411): whether the reference locks; what BIST finds; the channels
that fail base training (16 the spare); the stacks of which a channel fails both trainings of a warm start; ledger copies whose check
fails (false the primary); the patch image that the host supplies next (false CORE, true SLUICE); µs since the trigger. -/
structure StartOutcome where
  refLock : Bool
  bist : List BistFail
  baseFail : List (Fin 8 × Fin 17)
  dramFail : List (Fin 8)
  badCopies : List (BitVec 22 × Bool)
  patch : Option Bool
  us : BitVec 32
deriving DecidableEq, Repr

/-- A translation register of a core, as a performed write names it (R205). -/
inductive ReachReg where
  | greach (n : Fin 16)
  | hreach (n : Fin 16)
  | ctx
deriving DecidableEq, Repr

/-- The codes of R443: a source 0-44 with one of its variants. -/
def faultCodeOk (code : Nat) : Bool :=
  let v := code % 4
  match code / 4 with
  | 0 => decide (v ≤ 1) | 3 => true | 9 => decide (v ≤ 1) | 10 => decide (v ≤ 2) | 14 => decide (v ≤ 1)
  | 18 => decide (v ≤ 1) | 31 => decide (v ≤ 1) | 34 => decide (v ≤ 1) | 35 => decide (v ≤ 1) | 36 => true
  | 39 => true | 41 => decide (v ≤ 1) | 42 => decide (v ≤ 1)
  | n => decide (n ≤ 44) && v == 0

/-- Who makes a CSR access: host-class code of a core or a headworks core, or the headrace commands (R20). -/
inductive BusMaster where
  | core (c : CoreId)
  | hrc
deriving DecidableEq, Repr

/-- A headrace frame as it arrives (R425): its header but for LEN, which is the payload's length, whether its CRC is
good, and FLAGS bit 1, HOLDOVER. -/
structure HrFrame where
  typ : BitVec 8
  addr : BitVec 8
  hop : BitVec 8
  last : Bool
  tag : BitVec 16
  payload : List Byte
  crcGood : Bool
  holdover : Bool
deriving DecidableEq, Repr

/-- A CMD frame as it arrives, its OPCODE apart (R433): the payload after byte 0; whether 16 CMD frames wait already;
FLAGS bit 1, HOLDOVER. -/
structure HrCmd where
  addr : BitVec 8
  last : Bool
  tag : BitVec 16
  rest : List Byte
  crcGood : Bool
  full : Bool
  holdover : Bool
deriving DecidableEq, Repr

/-- The four auto-started roles of a repeat, fetch or data access in a fault record (R447, ACCESS). -/
abbrev Access := Nat

/-- The access codes of R447. -/
def accRead : Nat := 0
def accWrite : Nat := 1
def accFetch : Nat := 2
def accAtomic : Nat := 3
def accWalk : Nat := 4
def accDmaRead : Nat := 5
def accDmaWrite : Nat := 6
def accPatrol : Nat := 7
def accCsr : Nat := 8
def accNone : Nat := 15

/-- The master codes of R447 that are not cores or flumes. -/
def mstNone : Nat := 0x3FF
def mstHrc : Nat := 0x2F0
def mstCipher : Nat := 0x280
def mstCmp : Nat := 0x281
def mstDram : Nat := 0x282
def mstIoWalk : Nat := 0x283
def mstCisPatrol : Nat := 0x284

/-- The master code of a core: 0-79, and 0x80-0x83 for the headworks cores (R447). -/
def mstCore (c : Nat) : Nat := if c < 80 then c else 0x80 + (c - 80)

/-- The master code of a flume (R447). -/
def mstFlume (l : Nat) : Nat := 0x100 + l

end Sys2Proof
end

