-- ==== Sys2Proof/Syntax.lean ====
section
/-!
DEFINITION. The commands the module takes: one constructor for each row of the table, in its order. An operand names the unit
concerned (a core, link, bank, session), gives the data the command brings, or says what the world outside the model does at that
event.
-/

namespace Sys2Proof

/-- A command. Operands: c a core (headworks cores 80-83), u a unit of its kind in that core, b the word moved to a trigger, g a group
slot, i a member or a ledger record, l a link or (flume commands) a flume, n a session or a count, a an allotment; p the bytes
received; e what an ECC check finds, met what the copy of a row or channel meets in its sub-blocks, x what the read of a key does; w0-w3 a descriptor and fill the bytes a frame program put into the block buffer before it. -/
inductive Instr where
  /-- R36: A bundle issues: it reads every source, evaluates guards and writes its destinations as a whole or not at all. -/
  | bundleIssue (c : CoreId)
  /-- R45: A true-guarded move to pc redirects execution, or raises ALIGN for a misaligned target. -/
  | branch (c : CoreId) (v : Word) (imm : Bool)
  /-- R121: A move of 0xFFFF_FFFF_FFFF_FFE0 to pc restores the top frame of the current class and resumes at RESUME. -/
  | trapReturn (c : CoreId)
  /-- R47: A move to rpt latches rc[31:0] so that the next bundle runs that many times. -/
  | repeatPrefix (c : CoreId) (v : Word)
  /-- R91: alu t.add or t.sub computes a + b or a - b modulo 2^64. -/
  | aluAddSub (c : CoreId) (u : Fin 4) (sub : Bool) (b : Word)
  /-- R91: alu t.add.o or t.sub.o computes the wrapped sum or difference and sets OV on signed overflow. -/
  | aluAddSubO (c : CoreId) (u : Fin 4) (sub : Bool) (b : Word)
  /-- R72: alu t.and, t.or, t.xor or t.andn computes a bitwise result. -/
  | aluBitwise (c : CoreId) (u : Fin 4) (op : AluBit) (b : Word)
  /-- R72: alu t.min, t.max, t.minu or t.maxu computes a signed or unsigned minimum or maximum. -/
  | aluMinMax (c : CoreId) (u : Fin 4) (op : AluMin) (b : Word)
  /-- R72: alu t.mov copies b to the result. -/
  | aluMov (c : CoreId) (u : Fin 4) (b : Word)
  /-- R72: sh t.shl, t.shr, t.sar, t.rol or t.ror shifts or rotates a by b[5:0]. -/
  | shShift (c : CoreId) (op : ShOp) (b : Word)
  /-- R482: sh t.ext or t.exts extracts field f of b, zero-extended or sign-extended. -/
  | shExtract (c : CoreId) (signed : Bool) (b : Word)
  /-- R482: sh t.ins replaces field f of a with the low bits of b. -/
  | shInsert (c : CoreId) (b : Word)
  /-- R72: sh t.clz, t.ctz, t.pop or t.bswap counts bits of b or reverses its bytes. -/
  | shCount (c : CoreId) (op : ShCount) (b : Word)
  /-- R73: A cmp trigger compares a with b and writes cmp.res and optionally the predicate named by cmp.pd. -/
  | cmpCompare (c : CoreId) (op : CmpOp) (b : Word)
  /-- R91: mul.t, mul.t.hs or mul.t.hu computes the low or high 64 bits of a × b into the selected mx register. -/
  | mul (c : CoreId) (op : MulOp) (b : Word)
  /-- R91: mul.t.o computes the low 64 bits and sets OV if the signed product does not fit. -/
  | mulO (c : CoreId) (b : Word)
  /-- R92: div.t.s starts a signed division into dq and dm, abandoning any division in progress. -/
  | divS (c : CoreId) (b : Word)
  /-- R92: div.t.u starts an unsigned division into dq and dm, abandoning any division in progress. -/
  | divU (c : CoreId) (b : Word)
  /-- R95: An fpu add or sub trigger starts a correctly rounded addition or subtraction. -/
  | fpAddSub (c : CoreId) (u : Fin 2) (f : Fmt) (sub : Bool) (b : Word)
  /-- R95: An fpu mul trigger starts a correctly rounded multiplication. -/
  | fpMul (c : CoreId) (u : Fin 2) (f : Fmt) (b : Word)
  /-- R100: An fpu fma or fnma trigger starts a fused multiply-add with one rounding. -/
  | fpFma (c : CoreId) (u : Fin 2) (f : Fmt) (neg : Bool) (b : Word)
  /-- R105: An fpu div trigger starts a division on the non-pipelined divide path. -/
  | fpDiv (c : CoreId) (u : Fin 2) (f : Fmt) (b : Word)
  /-- R105: An fpu sqrt trigger starts a square root on the divide path. -/
  | fpSqrt (c : CoreId) (u : Fin 2) (f : Fmt) (b : Word)
  /-- R102: An fpu min or max trigger computes the IEEE 754-2019 minimum or maximum. -/
  | fpMinMax (c : CoreId) (u : Fin 2) (f : Fmt) (mx : Bool) (b : Word)
  /-- R102: An fpu cmpeq, cmplt or cmple trigger writes 1 or 0 to the selected fx register. -/
  | fpCompare (c : CoreId) (u : Fin 2) (f : Fmt) (op : FpCmp) (b : Word)
  /-- R103: An fpu cvti trigger converts a float to a signed 64-bit integer under RM. -/
  | fpCvti (c : CoreId) (u : Fin 2) (f : Fmt) (b : Word)
  /-- R96: An fpu cvtf trigger converts a signed 64-bit integer to a float. -/
  | fpCvtf (c : CoreId) (u : Fin 2) (f : Fmt) (b : Word)
  /-- R101: An fpu cvtx trigger converts between binary64 and binary32. -/
  | fpCvtx (c : CoreId) (u : Fin 2) (f : Fmt) (b : Word)
  /-- R108: dec.t.add or dec.t.sub starts a packed decimal addition or subtraction. -/
  | decAddSub (c : CoreId) (sub : Bool) (b : Word)
  /-- R109: dec.t.chk starts a validation of packed decimal operand b. -/
  | decChk (c : CoreId) (b : Word)
  /-- R65: A fixed-latency operation completes and writes its result register and flags. -/
  | operationComplete (c : CoreId)
  /-- R69: An enabled IEEE exception or a decimal data exception at completion raises a trap before the next bundle. -/
  | completionTrap (c : CoreId)
  /-- R75: An lsu load trigger starts a naturally aligned load into the selected v register. -/
  | lsuLoad (c : CoreId) (u : Fin 2) (op : LdOp) (b : Word)
  /-- R78: An lsu store trigger enters a store into the store buffer. -/
  | lsuStore (c : CoreId) (u : Fin 2) (op : StOp) (b : Word)
  /-- R78: A buffered store is performed and becomes visible to all masters in the single store order. -/
  | storePerformed (c : CoreId)
  /-- R70: The value of an interlocked result port arrives and releases a bundle stalled on it. -/
  | loadDataArrival (c : CoreId) (p : BitVec 12)
  /-- R483: A bundle stalled at issue finally issues and makes all its source reads. -/
  | issueStallEnd (c : CoreId) (n : BitVec 16)
  /-- R79: atom.t.cas64 performs an 8-byte compare-and-swap as a full fence. -/
  | atomCas64 (c : CoreId) (b : Word)
  /-- R79: atom.t.swp64 performs an atomic swap as a full fence. -/
  | atomSwp64 (c : CoreId) (b : Word)
  /-- R79: atom.t.add64 performs an atomic add as a full fence. -/
  | atomAdd64 (c : CoreId) (b : Word)
  /-- R79: atom.t.and64 performs an atomic AND as a full fence. -/
  | atomAnd64 (c : CoreId) (b : Word)
  /-- R79: atom.t.or64 performs an atomic OR as a full fence. -/
  | atomOr64 (c : CoreId) (b : Word)
  /-- R75: atom.t.cas128 performs a 16-byte compare-and-swap. -/
  | atomCas128 (c : CoreId) (b : Word)
  /-- R80: atom.t.fence starts a fence selected by the mask b. -/
  | atomFence (c : CoreId) (b : Word)
  /-- R80: A fence's conditions are met and triggers stalled behind it may issue. -/
  | fenceComplete (c : CoreId)
  /-- R218: xlt.t.probe.r translates b for read and reports the result in xlt.res. -/
  | xltProbeR (c : CoreId) (b : Word)
  /-- R218: xlt.t.probe.w translates b for write and reports the result in xlt.res. -/
  | xltProbeW (c : CoreId) (b : Word)
  /-- R219: xlt.t.inv.va invalidates every TLB entry of a tag that covers the address on every core. -/
  | xltInvVa (c : CoreId) (b : Word)
  /-- R219: xlt.t.inv.ctx invalidates every TLB entry of the host tag or of the allotment in xlt.ctx. -/
  | xltInvCtx (c : CoreId) (b : Word)
  /-- R219: xlt.t.inv.all invalidates every TLB entry of every core. -/
  | xltInvAll (c : CoreId) (b : Word)
  /-- R219: A TLB invalidation completes and xlt.res reads 0. -/
  | invalidationComplete (c : CoreId)
  /-- R213: A TLB miss in a TABLED reach walks the two-level table, sets marks by compare-and-swap and installs an entry. -/
  | tableWalk (c : CoreId) (fails : BitVec 7) (e : Ecc) (second : Bool)
  /-- R205: A write to a reach register or XLT_CTX takes effect at the core's next bundle boundary, or in a group at the point
  of R205. -/
  | reachWrite (c : Fin 80) (r : ReachReg) (v : Word)
  /-- R187: cm.t.clean writes every dirty copy of the line to DRAM and leaves copies clean. -/
  | cmClean (c : CoreId) (b : Word)
  /-- R187: cm.t.flush writes the line back and invalidates every copy. -/
  | cmFlush (c : CoreId) (b : Word)
  /-- R187: cm.t.inv invalidates every copy of the line and discards dirty data. -/
  | cmInv (c : CoreId) (b : Word)
  /-- R187: cm.t.zero installs the line zeroed in this core's L2 and L1D without reading memory. -/
  | cmZero (c : CoreId) (b : Word)
  /-- R187: cm.t.pref fetches the line's four sub-blocks into L1D, or is dropped. -/
  | cmPref (c : CoreId) (b : Word)
  /-- R187: cm.t.iinv invalidates this core's L1I copy of the line. -/
  | cmIinv (c : CoreId) (b : Word)
  /-- R188: A maintenance operation completes after every outstanding fill of its line has retired and cm.done returns to 1.
  -/
  | maintenanceComplete (c : CoreId) (pa : BitVec 39)
  /-- R188: Fill data returns to the requester and installs, or installs as I when maintenance met it. -/
  | fillReturn (c : Fin 80) (pa : BitVec 39) (icache l2only : Bool) (e : Ecc) (subs : BitVec 4)
  /-- R193: Every 4,096 hc the L2 scrubber reads the next line. -/
  | l2PatrolScrub (c : Fin 80) (e : Ecc) (subs : BitVec 4)
  /-- R193: Every 256 hc each reservoir slice scrubber reads the next line. -/
  | reservoirPatrolScrub (slice : Fin 16) (e : Ecc) (subs : BitVec 4)
  /-- R46: br.t.call writes lr with this bundle's address + 32 and redirects pc to b. -/
  | brCall (c : CoreId) (b : Word) (imm : Bool)
  /-- R46: br.t.rel redirects pc to this bundle's address + 32 × b. -/
  | brRel (c : CoreId) (b : Word) (imm : Bool)
  /-- R76: br.t.callrel writes lr and redirects pc relative to this bundle. -/
  | brCallrel (c : CoreId) (b : Word) (imm : Bool)
  /-- R345: cip.t.enc requests AES encryption of one block under a key slot. -/
  | cipEnc (c : CoreId) (b : Word) (x : KeyRead)
  /-- R345: cip.t.dec requests AES decryption of one block under a key slot. -/
  | cipDec (c : CoreId) (b : Word) (x : KeyRead)
  /-- R344: cip.t.gmul requests a GF(2^128) product of two factors. -/
  | cipGmul (c : CoreId) (b : Word)
  /-- R368: cmx.t.submit reads and checks a job descriptor and returns a job handle or a refusal. -/
  | cmxSubmit (c : CoreId) (b : Word)
  /-- R373: cmx.t.resume resumes a suspended compression job. -/
  | cmxResume (c : CoreId) (b : Word)
  /-- R368: cmx.t.status returns the state and output bytes of a job. -/
  | cmxStatus (c : CoreId) (b : Word)
  /-- R275: bell.t.ring appends a doorbell record to the named ring and signals both sluice masters, or reports a refusal in
  bell.res. -/
  | bellRing (c : CoreId) (b : Word)
  /-- R76: lat.t.fence completes when every earlier lateral write has been accepted by the die. -/
  | latFence (c : CoreId)
  /-- R60: A bundle's lateral writes are posted to the OEM die as one group in slot order. -/
  | lateralWrite (c : CoreId) (l : List (BitVec 8 × Word))
  /-- R60: A lateral read stalls the bundle until the die returns the value. -/
  | lateralRead (c : CoreId) (v : Word)
  /-- R60: No lateral value within 10 µs, or link loss, raises a LATERAL data-access exception. -/
  | lateralReadTimeout (c : CoreId)
  /-- R126: A move to ipi sets a line 2-9 on the target core, or is discarded as IPI-DROP. -/
  | ipi (c : CoreId) (v : Word)
  /-- R125: A source sets an interrupt line of a core through a culvert. -/
  | interruptLineSet (c : CoreId) (line : Fin 64)
  /-- R126: tmr0 or tmr1 reaches 0, sets its line and stops. -/
  | timerExpiry (c : CoreId) (n : Fin 2)
  /-- R117: After the wait of R82 the core pushes a 1 KiB frame and enters the chosen handler through its vector. -/
  | trapEntry (c : CoreId)
  /-- R449: A severe fault routed by the collector to a split core is taken as an ASYNC machine check. -/
  | asyncMachineCheck (c : CoreId)
  /-- R142: A patch entry with SAVE or an uncorrectable control-store word saves micro-state and runs a routine. -/
  | microTrap (u : StoreUnit) (mpc : BitVec 16) (cserr nest : Bool)
  /-- R142: The headworks restores a control-store word from its verified copy, or the core takes a CSTORE machine check. -/
  | cstoreWordRestore (u : StoreUnit) (ok : Bool)
  /-- R140: A CST_CPATCH write takes effect at the next bundle boundary, or at the group's next checkpoint. -/
  | cpatchWrite (c : Fin 80) (e : Fin 8) (v : Word)
  /-- R140: A CST_SPATCH write takes effect in both sluice masters at the same input step. -/
  | spatchWrite (e : Fin 16) (v : Word)
  /-- R141: GO in CST_LOAD verifies a run-time patch image and writes it to its store, or rejects it. -/
  | cstLoad
  /-- R147: A close condition holds at a bundle boundary and the member closes its interval at a checkpoint. -/
  | intervalClose (g : Fin 36) (i : Fin 3)
  /-- R150: The checker compares the members' signatures of an interval. -/
  | signatureCompare (g : Fin 36)
  /-- R148: The members receive the confirmation; the leading member releases its delay entries and trailing members discard
  theirs. -/
  | confirmation (g : Fin 36)
  /-- R159: The outvoted member receives the majority's shadow copy and rejoins as trailing member. -/
  | outvotedMemberRefresh (g : Fin 36)
  /-- R160: A delay-register parity error is handled as a miscompare of the interval holding the entry. -/
  | delayRegisterParityError (g : Fin 36) (n : Fin 64)
  /-- R156: After the interval closing before it is confirmed, the checker performs the boundary operation once for the group.
  -/
  | boundaryOperation (g : Fin 36) (die : Option Word)
  /-- R162: A checker's self-check fails; the group moves to a spare checker or runs UNGUARDED. -/
  | checkerFault (k : Fin 40)
  /-- R163: A member halts or takes a CSTORE machine check and is handled as failed. -/
  | memberHalt (c : Fin 80)
  /-- R163: A member delivers no signature within 4 µs and has failed. -/
  | signatureTimeout (g : Fin 36) (i : Fin 3)
  /-- R167: The spares manager joins the cluster spare into a group in place of a failed member. -/
  | spareJoin (g : Fin 36) (bad : Fin 3)
  /-- R166: TWN_CMD MERGE-TWIN forms a twin from a SPLIT lead and a PARKED core. -/
  | mergeTwin (bad : Fin 3)
  /-- R166: TWN_CMD MERGE-TRIAD adds a PARKED core to a GUARDED twin. -/
  | mergeTriad (bad : Fin 3)
  /-- R168: TWN_CMD SPLIT releases a member at ADDR in host class. -/
  | twnSplit
  /-- R166: TWN_CMD PARK stops a SPLIT core at its next bundle boundary. -/
  | twnPark
  /-- R166: TWN_CMD STOP halts a group at its next confirmed checkpoint. -/
  | twnStop
  /-- R166: TWN_CMD START resumes a STOPPED or DIVERGED group, or starts a PARKED core at ADDR. -/
  | twnStart
  /-- R165: TWN_CMD with OP 7 ends BAD-OP. -/
  | twnBadOp
  /-- R197: CAC_CCMD CLEAN-ALL writes every dirty line of a core's L1D, sump and L2 to DRAM. -/
  | cacCleanAll (c : Fin 80)
  /-- R197: CAC_CCMD FLUSH-ALL cleans and then invalidates a parked, halted or retired core's caches. -/
  | cacFlushAll (c : Fin 80)
  /-- R197: CAC_CCMD with OP 0b11 ends BAD-OP. -/
  | cacBadOp (c : Fin 80)
  /-- R198: CAC_RCMD CLEAN-ALL writes every dirty reservoir line to DRAM. -/
  | reservoirCleanAll
  /-- R198: CAC_RCMD FLUSH-ALL cleans the reservoir and back-invalidates every line. -/
  | reservoirFlushAll
  /-- R228: A DRAM read returns data, corrected data, or poison, and records the outcome. -/
  | dramRead (master : BitVec 10) (pa : BitVec 39) (pins : BitVec 144) (wide : Ecc) (dma : Bool)
  /-- R225: Each channel issues a refresh command every 3.9 µs. -/
  | dramRefresh (stack : Fin 8) (ch : Fin 17)
  /-- R230: The patrol scrubber reads and corrects the next sub-block, rewriting a bad ledger sub-block from its other copy.
  -/
  | dramScrub (stack : Fin 8) (e other : Ecc)
  /-- R231: A row reaching ROW_THRESH corrected errors is copied to a spare row and remapped. -/
  | rowSparing (stack : Fin 8) (ch bank : Fin 16) (row : BitVec 17) (met : List (BitVec 5 × Ecc))
  /-- R232: DRM_SCMD GO starts substitution of a channel by the stack's spare channel. -/
  | drmSubstitute (stack : Fin 8)
  /-- R232: At the refresh boundary after the copy, reads and writes move to the spare channel. -/
  | channelCopyComplete (stack : Fin 8) (met : List (BitVec 26 × Ecc))
  /-- R232: The spare fails during the copy; the substitution is abandoned and DRM-SPARE recorded. -/
  | spareChannelFailure (stack : Fin 8)
  /-- R235: DRM_COMMIT makes staged DRM fields take effect now. -/
  | drmCommit
  /-- R233: A ledger record write goes to both copies and is acknowledged when both channels accept it. -/
  | ledgerWrite (b mirror : Bool) (i : BitVec 22) (data : BitVec 512)
  /-- R233: A ledger read is served from the primary, falling back to the mirror or returning LOST. -/
  | ledgerRead (b : Bool) (i : BitVec 22) (e1 e2 : Ecc)
  /-- R238: A master's access to a cistern bank is granted round-robin or refused. -/
  | cisBankAccess (bank : Fin 16) (req : BitVec 13) (off : BitVec 23) (e : Ecc)
  /-- R239: Writing CIS_BCTL.STOP moves a bank towards stopped, or restarts it. -/
  | cisStop (b : Fin 16) (v : Bool)
  /-- R239: A stopping bank reaches stopped after its last granted access drains. -/
  | cisBankStopped (b : Fin 16)
  /-- R239: A CIS_BCTL.POWER or MASK write on a stopped bank moves it among stopped, retained, off and clearing. -/
  | cisPower (b : Fin 16) (mask : BitVec 13) (p : BitVec 2)
  /-- R240: CIS_BCTL.WIPE clears the named bank. -/
  | cisWipe (b : Fin 16)
  /-- R240: A bank clear ends after 57.0 µs and the bank reads stopped or retained. -/
  | cisClearComplete (b : Fin 16)
  /-- R241: The cistern patrol reads every bank once per second, correcting, poisoning and sparing rows. -/
  | cisPatrol (b : Fin 16) (off : BitVec 23) (e : Ecc)
  /-- R243: A tamper, life-cycle change or wake of island 8 starts or restarts a wipe of banks 8 and 9. -/
  | strongroomWipe (cause : Fin 3)
  /-- R243: The wipe's read-back completes, or a non-zero read-back raises fatal CIS-WIPE-VERIFY. -/
  | strongroomWipeEnd (zero : Bool)
  /-- R248: LNK_CTL.EN = 1 takes an OFF link to AN. -/
  | linkEnable (l : BitVec 8)
  /-- R268: LNK_CTL.EN = 0 takes the link to OFF, clearing retry and credit state. -/
  | linkDisable (l : BitVec 8)
  /-- R268: LNK_CTL.RETRAIN enters RETRAIN with DOWNCAUSE COMMAND. -/
  | linkRetrain (l : BitVec 8)
  /-- R253: LNK_CTL.MOVE starts a planned substitution onto a free serving spare lane. -/
  | linkMove (l : BitVec 8)
  /-- R249: Auto-negotiation completes and the link enters TRAIN. -/
  | autonegComplete (l : BitVec 8)
  /-- R249: Both receivers report trained and the link enters LOCK. -/
  | trainingComplete (l : BitVec 8)
  /-- R248: A training attempt fails; the link retrains or enters FAILED after RETRAIN_MAX. -/
  | trainingFailure (l : BitVec 8)
  /-- R249: PCS block lock and FEC alignment held for 1 ms take the link to INIT. -/
  | lockHeld (l : BitVec 8)
  /-- R248: No lock within 2 ms sends the link to RETRAIN. -/
  | lockTimeout (l : BitVec 8)
  /-- R248: No INIT handshake within 1 ms sends the link to RETRAIN. -/
  | initTimeout (l : BitVec 8)
  /-- R248: After 10 µs of electrical idle in RETRAIN the link proceeds as AN. -/
  | retrainIdleEnd (l : BitVec 8)
  /-- R250: Loss of signal, block lock or FEC alignment takes an UP link down with cause LOCK. -/
  | lossOfLock (l : BitVec 8)
  /-- R250: No good frame for LIVE_TO takes an UP link down with cause SILENT. -/
  | liveTimeout (l : BitVec 8)
  /-- R259: No ACKSEQ advance for REPLAY_TO replays from the oldest unacknowledged frame, or takes the link down after
  RETRY_MAX. -/
  | replayTimeout (l : BitVec 8)
  /-- R258: A DATA frame is accepted in order, or discarded with an ACK or NAK. -/
  | dataFrameRx (l : BitVec 8) (p : List Byte) (err recent : Bool) (corr uncorr : BitVec 16)
  /-- R257: A received ACKSEQ in the window releases retry-buffer frames. -/
  | ackFrameRx (l : BitVec 8) (p : List Byte) (recent : Bool)
  /-- R259: A NAK starts or restarts a replay from ACKSEQ + 1. -/
  | nakFrameRx (l : BitVec 8) (p : List Byte) (recent during : Bool)
  /-- R262: A HOLD frame keeps the link and its paths alive at the peer. -/
  | holdFrameRx (l : BitVec 8) (p : List Byte) (recent : Bool)
  /-- R256: A received INIT restores, replays or resets retry and credit state by its epoch rules, or takes an UP link down
  with cause PEER. -/
  | initFrameRx (l : BitVec 8) (p : List Byte) (recent : Bool)
  /-- R253: A MOVE frame advances the PREPARE, COMMIT or ABORT phase of a planned substitution. -/
  | moveFrameRx (l : BitVec 8) (p : List Byte) (recent : Bool)
  /-- R253: Both directions of the spare lane hold lock for 1 ms and the module sends MOVE COMMIT. -/
  | spareLaneLocked (l : BitVec 8)
  /-- R253: A planned substitution not ready within 1 s sends ABORT and records LNK-SPARE. -/
  | moveTimeout (l : BitVec 8)
  /-- R261: A received CRED advances the transmitter's freed count for its class. -/
  | creditReturn (l : BitVec 8) (cls : BitVec 2) (cred : BitVec 10)
  /-- R251: With nothing else to send for 156 hc, the transmitter sends an ACK or HOLD frame. -/
  | keepaliveTx (l : BitVec 8)
  /-- R256: In INIT, each side sends an INIT frame every 156 hc. -/
  | initTx (l : BitVec 8)
  /-- R267: The flume accepts frame work from the holder, checks its session against the link and transmits it as DATA frames.
  -/
  | frameWork (l : BitVec 8) (m : List Byte)
  /-- R274: SES_CMD OPEN writes the context and sends OPEN on every UP path. -/
  | sesOpen
  /-- R274: SES_CMD CLOSE refuses doorbells, waits for every transaction, then sends RESET CLOSED. -/
  | sesClose
  /-- R274: SES_CMD CLOSE-FORCE ends every unended transaction with reason ADMIN, then closes. -/
  | sesCloseForce
  /-- R274: SES_CMD PATHS replaces the session's paths from a descriptor. -/
  | sesPaths
  /-- R274: SES_CMD READ writes the descriptor and status block of a session. -/
  | sesRead
  /-- R272: SES_CMD with OP 6 or 7 ends BAD-OP. -/
  | sesBadOp
  /-- R271: When CTXBASE takes effect the holder writes all 262,144 entries as CLOSED contexts. -/
  | sesCtxbaseInit
  /-- R271: SES_CFG.RUN = 0 stops the SES block once every session is CLOSED and no command is busy. -/
  | sesStop
  /-- R274: Every 1 ms the module resends OPEN on each named UP path that has not answered. -/
  | openRetry (n : BitVec 18)
  /-- R274: No OPEN-ACK with RESULT 0 within 10 ms ends OPEN with NO-ANSWER. -/
  | openTimeout (n : BitVec 18)
  /-- R284: An OPEN-ACK opens the session, adds a path, refuses OPEN, or is a protocol error. -/
  | openAckRx
  /-- R292: A received RESET ends every unended transaction, breaks the session and is answered with RESET-ACK. -/
  | resetRx
  /-- R274: A received RESET-ACK completes a CLOSE. -/
  | resetAckRx
  /-- R274: Every 1 ms, up to 10 ms, CLOSE resends RESET. -/
  | closeRetry (n : BitVec 18) (last : Bool)
  /-- R285: A TACK makes the ledger record ACKED. -/
  | tackRx
  /-- R286: RDATA bytes are accepted by next offset, passed to buffer, basin or decompression, or make a protocol error. -/
  | rdataRx
  /-- R285: A TEND, with all announced data held, ends the transaction COMPLETED or FAILED. -/
  | tendRx
  /-- R291: An ATTN is recorded, written as one ATTENTION entry and acknowledged with ATTN-ACK. -/
  | attnRx
  /-- R277: The holder consumes a doorbell record, fetches and checks its furrow, and admits, refuses or rejects it. -/
  | doorbellRecord (n : BitVec 18)
  /-- R333: A deficit round-robin round issues ACCEPTED transactions across allotments. -/
  | drrRound
  /-- R303: After the ISSUED write is acknowledged, the holder emits the first CMD. -/
  | transactionIssue (i : BitVec 22)
  /-- R304: An ended record is assigned a tailrace slot and its entry is written, with its interrupt. -/
  | tailraceWrite
  /-- R279: The holder reads the consumer index word at least every 10 µs and retires records it has passed. -/
  | consumerIndexPoll (n : BitVec 18)
  /-- R288: After 10 µs idle with FLOOR advanced the module sends a FLOOR message. -/
  | floorTimeout (n : BitVec 18)
  /-- R295: Every 1 µs the holder evaluates paths for liveness and stall. -/
  | pathEvaluation (stalls clears : List (BitVec 8))
  /-- R295: With REVERT = 1 a session moves to a higher-priority path live for 1 s. -/
  | pathRevert (n : BitVec 18) (j : Fin 4)
  /-- R298: A session without a live path for NOPATH_MS breaks with reason PATH-LOST. -/
  | nopathTimeout (n : BitVec 18)
  /-- R307: Both sluice masters take one input in the same order and compute its outputs. -/
  | sluiceInput (n : BitVec 16)
  /-- R309: An output reaching the check gate is passed, suppressed, or discarded with failure by its OSEQ. -/
  | checkGateOutput (b : Bool) (oseq : Word)
  /-- R310: Every 156 hc the holder's lease engine sets the expiry to now + 938 hc. -/
  | leaseRenewal (b : Bool)
  /-- R310: Every 156 hc the ditch rider checks both heartbeat paths of both masters. -/
  | heartbeatCheck (ar as br bs : BitVec 16)
  /-- R311: The lease expires, the turn becomes unheld and the quiet period begins. -/
  | leaseExpiry
  /-- R311: After 312 hc the lease register grants the turn to the standby. -/
  | quietPeriodEnd
  /-- R315: SLU_CMD SWAP changes the water turn to the standby. -/
  | sluSwap
  /-- R315: After SWAP_HOURS a scheduled turn change is made or skipped. -/
  | scheduledSwap
  /-- R318: SLU_CMD REJOIN resets, reloads and state-copies a FAILED or OFF master to STANDBY. -/
  | sluRejoin (bistOk : Bool)
  /-- R320: SLU_CMD with OP 0b11 ends BAD-OP. -/
  | sluBadOp
  /-- R320: SLU_COMMIT makes staged SLU fields take effect now. -/
  | sluCommit
  /-- R321: LGR_RD GO copies a ledger record into LGR_RDATA0-7. -/
  | lgrRd (e1 e2 : Ecc)
  /-- R325: ALT_CMD CREATE loads a descriptor and makes a FREE allotment ACTIVE. -/
  | altCreate
  /-- R325: ALT_CMD QUIESCE makes an allotment QUIESCING and ends when it is QUIESCED. -/
  | altQuiesce
  /-- R322: A QUIESCING allotment's last transaction and DMA end and it becomes QUIESCED. -/
  | allotmentQuiesced (a : BitVec 12)
  /-- R325: ALT_CMD RESUME makes an allotment ACTIVE and consumes deferred doorbells. -/
  | altResume
  /-- R325: ALT_CMD DESTROY zeroes a QUIESCED allotment's context and makes it FREE. -/
  | altDestroy
  /-- R330: ALT_CMD IOINV-VA invalidates the allotment's I/O TLB entries covering ARG. -/
  | altIoinvVa
  /-- R330: ALT_CMD IOINV-ALLOT invalidates every I/O TLB entry of the allotment. -/
  | altIoinvAllot
  /-- R330: ALT_CMD IOINV-ALL invalidates every I/O TLB entry. -/
  | altIoinvAll
  /-- R323: ALT_CMD with OP 0x8-0xF ends BAD-OP. -/
  | altBadOp
  /-- R326: When ALT CTXBASE takes effect the block writes all 4,096 context image entries. -/
  | altCtxbaseInit
  /-- R329: The I/O walker translates a furrow fetch, admission check or DMA access through the allotment's I/O reaches. -/
  | ioTranslation (a : BitVec 12) (va : Word) (master : BitVec 10) (k : AccKind) (fails : BitVec 7)
  /-- R347: CIP_KCMD LOAD unwraps a key with AES-KW into an EMPTY slot. -/
  | cipLoad (e : Ecc)
  /-- R348: CIP_KCMD CLEAR empties a slot after earlier requests complete and increments GEN. -/
  | cipClear
  /-- R359: CIP_KCMD INFO reports a slot's metadata in CIP_KINFO. -/
  | cipInfo (e : Ecc)
  /-- R359: CIP_COMMIT makes staged CIP fields take effect now. -/
  | cipCommit
  /-- R351: A flume ENC descriptor encrypts NBLK blocks in the flume buffer. -/
  | flumeCipEnc (l : Fin 288) (w0 w1 w2 w3 : Word) (fill : List (BitVec 16 × Byte)) (x : KeyRead)
  /-- R351: A flume DEC descriptor decrypts NBLK blocks in the flume buffer. -/
  | flumeCipDec (l : Fin 288) (w0 w1 w2 w3 : Word) (fill : List (BitVec 16 × Byte)) (x : KeyRead)
  /-- R351: A flume GMUL descriptor computes GF(2^128) products. -/
  | flumeCipGmul (l : Fin 288) (w0 w1 w2 w3 : Word) (fill : List (BitVec 16 × Byte))
  /-- R351: A flume descriptor with an undefined OP ends BAD-OP. -/
  | flumeCipBadOp (op : Fin 11) (l : Fin 288) (w0 w1 w2 w3 : Word)
  /-- R356: BWRITE writes plaintext at the transaction's written extent in its basin reservation, or ends OVERRUN. -/
  | bwrite (l : Fin 288) (w0 w1 w2 w3 : Word) (fill : List (BitVec 16 × Byte))
  /-- R357: BCLOSE compares tags and releases the basin data, or wipes it. -/
  | bclose (l : Fin 288) (w0 w1 w2 w3 : Word) (fill : List (BitVec 16 × Byte))
  /-- R355: A sealed inbound transaction is granted granules in acceptance order before its CMD. -/
  | basinReservation
  /-- R357: The release engine finishes copying and frees the granules. -/
  | basinReleaseComplete (i : BitVec 22)
  /-- R357: A basin wipe ends and its granules are freed. -/
  | basinWipeComplete (i : BitVec 22)
  /-- R360: A free engine takes the next job from the session or core queue. -/
  | compressionJobStart
  /-- R370: A job ends, suspends, or hits the trash rack, and writes its completion record. -/
  | compressionJobEnd (n : Fin 72)
  /-- R375: A SQUEEZE outbound transaction reserves staging granules and is compressed before issue. -/
  | squeezeStaging
  /-- R377: A parity error retires an engine, brings in a spare and ends or reruns its job. -/
  | engineFault (n : Fin 72)
  /-- R397: CLK_ICTL GO requests an island's enables, source, divider and frequency. -/
  | clkGo (i : Fin 18)
  /-- R385: A waiting core-island change begins 50 µs after the previous one. -/
  | staggerWaitEnd
  /-- R384: Every 313 hc a ramping divider moves one step. -/
  | dividerStep (i : Fin 17)
  /-- R380: A PLL locks after a FREQ change or wake, or the change ends LOCK-FAIL. -/
  | pllLock (i : Fin 17) (ok : Bool)
  /-- R381: A waking island reaches its first cycle at /16. -/
  | wakeComplete (i : Fin 17)
  /-- R386: The last culvert of a draining island reaches idle and the gate closes. -/
  | drainComplete (i : Fin 17)
  /-- R386: A culvert still busy 4,096 hc after refusal began reopens the island with DRAIN-TIMEOUT. -/
  | drainTimeout (i : Fin 17) (far : Fin 18)
  /-- R380: Loss of the reference puts every PLL in holdover and records CLK-REF-LOST. -/
  | referenceLoss
  /-- R380: The reference returns and PLLs relock without a ramp. -/
  | referenceReturn
  /-- R380: The reference absent for 10 ms makes the fault fatal and the module enters fallow. -/
  | holdoverExpiry
  /-- R380: An island PLL loses lock and the island switches to REF. -/
  | pllLockLoss (i : Fin 17)
  /-- R388: A four-phase culvert handshake carries one transfer between islands. -/
  | culvertTransfer (a b : Fin 18) (errs : Fin 5)
  /-- R394: At the end of each 156-hc window the throttle level rises or falls. -/
  | fastLoopWindow (p : BitVec 12)
  /-- R395: Every 1 ms the slow loop lowers or raises one core island's cap. -/
  | slowLoopEvaluation (p : BitVec 12)
  /-- R396: A current clamp engages, sets throttle level 7 and records LEV-CLAMP. -/
  | clampEngage
  /-- R396: A clamp engaged for 100 µs raises a severe LEV-CLAMP fault. -/
  | clampSustained
  /-- R399: VIN rises into range with PWR_GOOD high and PRST_N released, beginning a cold start. -/
  | powerOn
  /-- R465: PRST_N asserted for 10 µs idles lanes, self-refreshes stacks, closes the bypass and clears the collector. -/
  | prstAssert
  /-- R399: PRST_N released after an assertion begins a cold start. -/
  | prstRelease
  /-- R465: PWR_GOOD low for 1 µs has the effect of a PRST_N assertion. -/
  | pwrGoodLow
  /-- R466: VIN below 44.0 V for 100 µs has the effect of a PRST_N assertion. -/
  | vinLow
  /-- R400: HWK_SCMD WARM requests a warm start, or is refused NOT-READY. -/
  | startWarm
  /-- R399: HWK_SCMD COLD requests a cold start. -/
  | startCold
  /-- R418: HWK_SCMD with OP 0b11 is refused BAD-OP. -/
  | startBadOp
  /-- R401: The cold start sequence runs from reference lock through trickle service. -/
  | coldStart (o : StartOutcome)
  /-- R407: The warm start sequence keeps DRAM, ledger and strongroom and reaches trickle service. -/
  | warmStart (o : StartOutcome)
  /-- R410: An image not supplied within 1 s of its request fails the start with IMAGE-TIMEOUT. -/
  | imageReqTimeout
  /-- R401: A lane's loopback test ends, passing or moving the link to a spare. -/
  | laneLoopbackEnd (lane : Fin 288) (pass : Bool)
  /-- R404: A channel is copied to the spare, trained at full rate and copied back. -/
  | fullRateTraining (n : Fin 8) (ch : Fin 17) (ok : Bool)
  /-- R413: Once loopback, training and HOLD_TRICKLE allow, the module moves from trickle to full service. -/
  | transition (bistOk : Bool) (us : BitVec 32)
  /-- R415: A start that misses its TRICKLE or FULL deadline fails with DEADLINE. -/
  | startDeadline
  /-- R416: A failed start idles lanes, records LASTFAIL and begins the next start as R417 decides. -/
  | startFail (code : BitVec 4) (step : BitVec 4)
  /-- R428: An ENUM frame assigns each module its address and is forwarded with HOP rewritten. -/
  | enumRx (f : HrFrame)
  /-- R431: A TIME frame sets or steps the module's rack time and is forwarded with DELAY rewritten. -/
  | timeRx (f : HrFrame)
  /-- R431: At each rack-time ms boundary the module at address 1 starts a TIME frame. -/
  | timeOriginate
  /-- R430: A PING from below is answered with an ECHO carrying the turnaround time. -/
  | pingRx (f : HrFrame) (spent : BitVec 32)
  /-- R430: ECHO replies to the 16 PINGs set UPDELAY. -/
  | echoRx (f : HrFrame) (trip : BitVec 32)
  /-- R427: A good up frame is forwarded towards the host in arrival order. -/
  | upFrameRx (f : HrFrame)
  /-- R433: CMD IDENT replies with HWK_ID, serial, LCS state and HWK_SSTAT. -/
  | ident (f : HrCmd)
  /-- R433: CMD CSR-READ reads a CSR as host-class master HRC. -/
  | csrRead (f : HrCmd)
  /-- R433: CMD CSR-WRITE writes a CSR as host-class master HRC. -/
  | csrWrite (f : HrCmd)
  /-- R433: CMD START requests a warm or cold start as HWK_SCMD does. -/
  | start (f : HrCmd)
  /-- R433: CMD CORE-MSG writes a core's HRC_MBOX and sets line 12, or replies BUSY. -/
  | coreMsg (f : HrCmd)
  /-- R435: CMD IMAGE-DATA stages image bytes at the expected offset, or triggers a repeated IMAGE-REQ. -/
  | imageData (f : HrCmd)
  /-- R432: CMD SET-TIME sets RACK_HC at the module at address 1. -/
  | setTime (f : HrCmd)
  /-- R433: A CMD with an unknown OPCODE is answered BAD-OP. -/
  | headraceBadOp (op : Byte) (f : HrCmd)
  /-- R424: 10 µs without valid HR_UP_IN makes the module the tail. -/
  | tailDetection
  /-- R423: After 100 µs of holdover the module switches to its spare receivers. -/
  | spareReceiverSwitch
  /-- R423: An output differing from intent for 16 hc switches to the spare driver set. -/
  | driverMonitorFault
  /-- R437: At a mark counters are latched and restarted, S fields commit and line 15 is set. -/
  | rotationMark
  /-- R436: A STA_ROT write installs a new rotation schedule or sets LATE. -/
  | staRotWrite (v : Word)
  /-- R442: The collector latches an error-line event, sets its bit, counts it, captures or merges it and drives FAULT_N. -/
  | faultEvent (code : BitVec 8) (master : BitVec 10) (access : BitVec 4) (addr : Word)
  /-- R444: A count window ends after WINDOW_MS and its count returns to 0. -/
  | faultWindowExpiry (n : Fin 45) (master : BitVec 10)
  /-- R445: A write of 1 to an FLT_STATUS bit clears the source, unless fatal. -/
  | fltStatusClear (v : Word)
  /-- R447: A write of 1 to FLT_CAP.VALID ends the handling of the first error. -/
  | fltCapClear (v : Word)
  /-- R450: Every second the spares manager evaluates wear signals and starts substitutions. -/
  | wearEvaluation (w : WearReading)
  /-- R452: SPR_CMD CONSENT retires the requested core and parks the cluster spare. -/
  | sprConsent
  /-- R452: SPR_CMD DEFER withdraws the consent request for 24 h. -/
  | sprDefer
  /-- R457: SPR_CMD with OP 0b11 ends BAD-OP. -/
  | sprBadOp
  /-- R452: After 24 h a deferred request is raised again if the need persists. -/
  | deferExpiry (c : Fin 80) (persists : Bool)
  /-- R467: TAMPER_N held low for 10 µs triggers a strongroom wipe and records TAMPER. -/
  | tamperAssert
  /-- R480: Junction or inlet temperature crossing a threshold moves THERM_N and the throttle floor. -/
  | thermalSense (tj tin tout : BitVec 8)
  /-- R480: A junction at 125 °C for 100 µs records fatal THERM-TRIP. -/
  | thermTrip
  /-- R471: LCS_CMD GO fuses a new life-cycle state and wipes the strongroom. -/
  | lcsStateChange
  /-- R472: LCS_FCMD OEM-HASH fuses the OEM key hash. -/
  | oemHash
  /-- R472: LCS_FCMD KIK fuses the key-import key and zeroes its argument area. -/
  | kik
  /-- R472: LCS_FCMD SVN raises the security-version floor for an image TYPE. -/
  | svn
  /-- R472: LCS_FCMD REVOKE revokes an image key. -/
  | revoke
  /-- R472: LCS_FCMD with OP 0b101-0b111 ends BAD-OP. -/
  | lcsFcmdBadOp
  /-- R470: TAP EXTEST loaded under reset enters scan hold with the boundary register driving pins. -/
  | extest
  /-- R470: TAP EXTEST_PULSE loaded under reset enters scan hold with IEEE 1149.6 pulses. -/
  | extestPulse
  /-- R470: TAP EXTEST_TRAIN loaded under reset enters scan hold with IEEE 1149.6 trains. -/
  | extestTrain
  /-- R470: TAP CLAMP loaded under reset enters scan hold with outputs held from the boundary register. -/
  | clamp
  /-- R470: TAP HIGHZ loaded under reset enters scan hold with outputs high-impedance. -/
  | highz
  /-- R468: TAP IDCODE selects the 0xB728_0A5F identification register. -/
  | idcode
  /-- R468: TAP SAMPLE/PRELOAD samples and preloads the boundary register. -/
  | samplePreload (pins preload : BitVec 587)
  /-- R468: TAP BYPASS, or any refused instruction, selects the bypass register. -/
  | bypass
  /-- R470: TRST_N or Test-Logic-Reset ends scan hold, beginning a cold start if allowed. -/
  | tapReset
  /-- R7: A write to a CSR without a row of its own applies each field by its update class. -/
  | csrRegisterWrite (m : BusMaster) (a : BitVec 32) (width : BitVec 5) (v : Word)
  /-- R465: PWR_GOOD returns high with VIN present and PRST_N released, and a cold start begins with the start counts cleared.
  -/
  | pwrGoodHigh
  /-- R466: VIN outside 48–60 V for 1 ms, while still above 44.0 V, records VIN-LOW or VIN-HIGH and the module keeps running.
  -/
  | vinOutsideRange (high : Bool)
  /-- R467: TAMPER_N returns to released, clearing LCS_STAT.TAMPER and ending the hold that makes LOAD end WIPING and slot
  requests end EMPTY. -/
  | tamperRelease
  /-- R396: An engaged current clamp disengages, CLAMPED clears and the 100 µs sustained-clamp count ends. -/
  | clampRelease
  /-- R434: When the 100 µs interval of a notice CODE ends, the latest held state of that CODE is sent up the chain. -/
  | noticeIntervalEnd (code : Byte)
  /-- R56: The UCIe die-to-die link to the lateral die drops, so lateral moves trap with LATERAL-ABSENT. -/
  | dieToDieLinkDown
  /-- R56: The die-to-die link to the lateral die comes up, so lateral moves are routed to the die again and lat.stat reads 1.
  -/
  | dieToDieLinkUp
  /-- R419: Data appears on HR_UP_IN and the up receiver aligns its phase within 10 µs, setting UPLOCK and ending tail
  operation. -/
  | upReceiverAligned
  /-- R423: An up receiver that loses alignment while a signal is present is switched to the spare receiver set. -/
  | upReceiverAlignmentLoss
  /-- R423: When lock does not return within 1 ms on the spare receivers, the module returns to the primary receivers and
  waits under R380. -/
  | primaryReceiverReturn
deriving DecidableEq, Repr

end Sys2Proof
end

