-- ==== Sys2Proof/Machine/Aes.lean ====
section
/-!
DEFINITION. The block functions of the cipher engine (14, R341, R347): AES of FIPS 197 for the three key sizes, the
GF(2^128) product of SP 800-38D, and the W inverse of SP 800-38F.
-/

namespace Sys2Proof.Machine
open Sys2Proof

/-- The S-box (FIPS 197, figure 7). -/
def aesSbox : List Nat :=
  [99, 124, 119, 123, 242, 107, 111, 197, 48, 1, 103, 43, 254, 215, 171, 118] ++
  [202, 130, 201, 125, 250, 89, 71, 240, 173, 212, 162, 175, 156, 164, 114, 192] ++
  [183, 253, 147, 38, 54, 63, 247, 204, 52, 165, 229, 241, 113, 216, 49, 21] ++
  [4, 199, 35, 195, 24, 150, 5, 154, 7, 18, 128, 226, 235, 39, 178, 117] ++
  [9, 131, 44, 26, 27, 110, 90, 160, 82, 59, 214, 179, 41, 227, 47, 132] ++
  [83, 209, 0, 237, 32, 252, 177, 91, 106, 203, 190, 57, 74, 76, 88, 207] ++
  [208, 239, 170, 251, 67, 77, 51, 133, 69, 249, 2, 127, 80, 60, 159, 168] ++
  [81, 163, 64, 143, 146, 157, 56, 245, 188, 182, 218, 33, 16, 255, 243, 210] ++
  [205, 12, 19, 236, 95, 151, 68, 23, 196, 167, 126, 61, 100, 93, 25, 115] ++
  [96, 129, 79, 220, 34, 42, 144, 136, 70, 238, 184, 20, 222, 94, 11, 219] ++
  [224, 50, 58, 10, 73, 6, 36, 92, 194, 211, 172, 98, 145, 149, 228, 121] ++
  [231, 200, 55, 109, 141, 213, 78, 169, 108, 86, 244, 234, 101, 122, 174, 8] ++
  [186, 120, 37, 46, 28, 166, 180, 198, 232, 221, 116, 31, 75, 189, 139, 138] ++
  [112, 62, 181, 102, 72, 3, 246, 14, 97, 53, 87, 185, 134, 193, 29, 158] ++
  [225, 248, 152, 17, 105, 217, 142, 148, 155, 30, 135, 233, 206, 85, 40, 223] ++
  [140, 161, 137, 13, 191, 230, 66, 104, 65, 153, 45, 15, 176, 84, 187, 22]

/-- A byte through the S-box. -/
def subByte (x : Nat) : Nat := aesSbox.getD x 0

/-- A byte through the inverse S-box. -/
def invSubByte (x : Nat) : Nat := aesSbox.findIdx (fun y => y == x)

/-- Multiplication by x in GF(2^8). -/
def xtime (x : Nat) : Nat := if x < 128 then 2 * x else (2 * x - 256) ^^^ 0x1B

/-- The product of a byte with a constant below 16 in GF(2^8). -/
def gf8 (k x : Nat) : Nat :=
  (if k.testBit 0 then x else 0) ^^^ (if k.testBit 1 then xtime x else 0) ^^^ (if k.testBit 2 then xtime (xtime x) else 0)
    ^^^ (if k.testBit 3 then xtime (xtime (xtime x)) else 0)

/-- XOR of two byte lists. -/
def xorBytes (a b : List Nat) : List Nat := List.zipWith (· ^^^ ·) a b

/-- Bytes of a list picked by index. -/
def pick (l : List Nat) (idx : List Nat) : List Nat := idx.map (fun i => l.getD i 0)

/-- ShiftRows and its inverse on the 16 bytes, column by column. -/
def shiftRows (l : List Nat) : List Nat := pick l [0, 5, 10, 15, 4, 9, 14, 3, 8, 13, 2, 7, 12, 1, 6, 11]
def invShiftRows (l : List Nat) : List Nat := pick l [0, 13, 10, 7, 4, 1, 14, 11, 8, 5, 2, 15, 12, 9, 6, 3]

/-- One column through a matrix given by its first row, rotated. -/
def mixColumn (k c : List Nat) : List Nat :=
  (List.range 4).map (fun r => (List.range 4).foldl (fun x j => x ^^^ gf8 (k.getD ((j + 4 - r) % 4) 0) (c.getD j 0)) 0)

/-- MixColumns with a matrix. -/
def mixColumns (k l : List Nat) : List Nat :=
  (List.range 4).flatMap (fun c => mixColumn k (pick l [4 * c, 4 * c + 1, 4 * c + 2, 4 * c + 3]))

/-- The rows of the matrices. -/
def mixFwd : List Nat := [2, 3, 1, 1]
def mixInv : List Nat := [14, 11, 13, 9]

/-- The round constants. -/
def aesRcon (i : Nat) : Nat := (List.range (i - 1)).foldl (fun x _ => xtime x) 1

/-- The next word of the key schedule: i of nk words, from the words so far, newest first. -/
def nextWord (nk i : Nat) (w : List (List Nat)) : List Nat :=
  let t := w.headD []
  let t := if i % nk = 0 then xorBytes ((pick t [1, 2, 3, 0]).map subByte) [aesRcon (i / nk), 0, 0, 0]
    else if decide (6 < nk) && i % nk == 4 then t.map subByte else t
  xorBytes (w.getD (nk - 1) []) t

/-- n more words of the schedule. -/
def expandMore (nk : Nat) : Nat → List (List Nat) → List (List Nat)
  | 0, w => w
  | n + 1, w => expandMore nk n (nextWord nk w.length w :: w)

/-- Rounds of a key of nk words. -/
def aesRounds (nk : Nat) : Nat := nk + 6

/-- The round keys of a key of 16, 24 or 32 bytes, 16 bytes each. -/
def roundKeys (key : List Nat) : List (List Nat) :=
  let nk := key.length / 4
  let w0 := ((List.range nk).map (fun i => pick key [4 * i, 4 * i + 1, 4 * i + 2, 4 * i + 3])).reverse
  let w := (expandMore nk (4 * (aesRounds nk + 1) - nk) w0).reverse
  (List.range (aesRounds nk + 1)).map (fun r =>
    w.getD (4 * r) [] ++ w.getD (4 * r + 1) [] ++ w.getD (4 * r + 2) [] ++ w.getD (4 * r + 3) [])

/-- The forward cipher on 16 bytes. -/
def aesEnc (key blk : List Nat) : List Nat :=
  let rk := roundKeys key
  let n := aesRounds (key.length / 4)
  let x := (List.range (n - 1)).foldl (fun x r =>
    xorBytes (mixColumns mixFwd (shiftRows (x.map subByte))) (rk.getD (r + 1) [])) (xorBytes blk (rk.headD []))
  xorBytes (shiftRows (x.map subByte)) (rk.getD n [])

/-- The inverse cipher on 16 bytes. -/
def aesDec (key blk : List Nat) : List Nat :=
  let rk := roundKeys key
  let n := aesRounds (key.length / 4)
  let x := (List.range (n - 1)).foldl (fun x r =>
    mixColumns mixInv (xorBytes ((invShiftRows x).map invSubByte) (rk.getD (n - 1 - r) [])))
    (xorBytes blk (rk.getD n []))
  xorBytes ((invShiftRows x).map invSubByte) (rk.headD [])

/-- A 128-bit number as 16 bytes, most significant first, and back: byte 0 in FIPS 197 order is the top byte (R344). -/
def block128 (x : Nat) : List Nat := (beBytes 16 x).map BitVec.toNat
def num128 (l : List Nat) : Nat := beNat (l.map (BitVec.ofNat 8))

/-- The product in GF(2^128) of SP 800-38D on 128-bit numbers whose top bit is block bit 0 (R344). -/
def ghashMul (x y : Nat) : Nat :=
  ((List.range 128).foldl (fun (zv : Nat × Nat) i =>
    (if x.testBit (127 - i) then zv.1 ^^^ zv.2 else zv.1,
     if zv.2.testBit 0 then (zv.2 / 2) ^^^ (0xE1 * 2 ^ 120) else zv.2 / 2)) (0, y)).1

/-- The pre-counter block of a 12-byte IV (SP 800-38D). -/
def gcmJ0 (iv : Nat) : Nat := iv * 2 ^ 32 + 1

/-- A block through the cipher, as a number. -/
def aesNum (key : List Nat) (x : Nat) : Nat := num128 (aesEnc key (block128 x))

/-- GCTR over data from the block after the pre-counter block: the same both ways. -/
def gcmCrypt (key : List Nat) (iv : Nat) (data : List Byte) : List Byte :=
  (List.range ((data.length + 15) / 16)).flatMap (fun i =>
    List.zipWith (· ^^^ ·) ((data.drop (16 * i)).take 16) (beBytes 16 (aesNum key (gcmJ0 iv + 1 + i))))

/-- GHASH over bytes padded with zeros to whole blocks. -/
def ghashBytes (h y : Nat) (l : List Byte) : Nat :=
  (List.range ((l.length + 15) / 16)).foldl (fun y i =>
    let b := (l.drop (16 * i)).take 16
    ghashMul (y ^^^ beNat (b ++ List.replicate (16 - b.length) 0)) h) y

/-- The tag of a ciphertext and its additional data. -/
def gcmTag (key : List Nat) (iv : Nat) (aad ct : List Byte) : Nat :=
  let h := aesNum key 0
  let y := ghashBytes h (ghashBytes h 0 aad) ct
  ghashMul (y ^^^ (8 * aad.length * 2 ^ 64 + 8 * ct.length)) h ^^^ aesNum key (gcmJ0 iv)

/-- AES-GCM encryption (SP 800-38D) with a 12-byte IV and 16 bytes of additional data: ciphertext, then the 16-byte tag
(R293, R352). -/
def gcmSeal (key : List Nat) (iv aad : Nat) (data : List Byte) : List Byte :=
  let ct := gcmCrypt key iv data
  ct ++ beBytes 16 (gcmTag key iv (beBytes 16 aad) ct)

/-- AES-GCM decryption: the plaintext, as long as the ciphertext, where the tag agrees. -/
def gcmOpen (key : List Nat) (iv : Nat) (aad ct : List Byte) (tag : Nat) : Option (List Byte) :=
  if gcmTag key iv aad ct = tag then some (gcmCrypt key iv ct) else none

/-- One step of the W inverse: t, with A and the semiblocks R1 to Rn. -/
def unwrapStep (key : List Nat) (n t : Nat) (ar : List Nat × List (List Nat)) : List Nat × List (List Nat) :=
  let i := (t - 1) % n
  let a := xorBytes ar.1 ((beBytes 8 t).map BitVec.toNat)
  let b := aesDec key (a ++ ar.2.getD i [])
  (b.take 8, modifyNth ar.2 i (fun _ => b.drop 8))

/-- AES-KW unwrap with the default initial value (R347): the key when the integrity value matches. -/
def aesUnwrap (kek wrapped : List Nat) : Option (List Nat) :=
  let n := wrapped.length / 8 - 1
  let r := (List.range n).map (fun i => (wrapped.drop (8 * i + 8)).take 8)
  let ar := (List.range (6 * n)).foldl (fun ar t => unwrapStep kek n (6 * n - t) ar) (wrapped.take 8, r)
  if ar.1.all (fun x => x == 0xA6) then some ar.2.flatten else none

end Sys2Proof.Machine
end

