-- ==== Sys2Proof/Config.lean ====
section
/-!
DEFINITION. What the spec leaves open, as opaque constants without a body, and the fixed sizes of the module.
Nothing in Lean can evaluate an opaque constant: a statement about one holds whatever its value (log entries 7 and 8).
-/

namespace Sys2Proof.Config

/-- A value the spec leaves open: a fresh one for each draw, by the counter the state holds (log entry 7). -/
opaque freeWord : Nat → Word

/-- The hash fused for Etdan's public key at manufacture (R135): its value is not in the spec (log entry 8). -/
opaque etdanKeyHash : Nat

/-- The fused 256-bit image keys 0-3, as numbers whose first key byte is the top one: not in the spec (R134, log entry 8). -/
opaque imageKey : Nat → BitVec 256

/-- What a compression engine chooses, which the spec does not fix (R360, R361, log entry 9), of DEFLATE or (true) of GSF: the matches and
literals of a block, each as length and distance or as byte and 0, after the bytes seen, newest first; how many bytes the next block or
frame takes of the data ahead, 0 for as many as it may; and the header bits of the dynamic codes for tokens. -/
opaque matchChoice : Bool → List Byte → List Byte → List (Nat × Nat)
opaque blockChoice : Bool → List Byte → List Byte → Nat
opaque codeChoice : Bool → List (Nat × Nat) → List Bool

/-- The fused baselines and other per-module measurements the spec does not give (log entry 8). -/
opaque moduleSerial : Word

/-- The entry of the in-service cores, and that of the headworks cores, that the words of the headworks image name: the
spec does not say where they stand in it (R401, log entry 8). -/
opaque imageEntry : List Nat → Word
opaque headworksEntry : List Nat → Word

end Sys2Proof.Config
end

