-- ==== Sys2Proof/Machine/Regs.lean ====
section
/-!
DEFINITION. The addresses and fields of every CSR the spec tables, as offsets from the CSR base
0xF000_0000_0000 (R3, the block map of 01), each field as its least significant bit and width.
-/

namespace Sys2Proof.Csr
open Sys2Proof

/-- HWK_ID (R1). -/
def HWK_ID : Nat := 0x0
abbrev HWK_ID.PART : Fld := ⟨0, 16⟩
abbrev HWK_ID.STEP : Fld := ⟨16, 8⟩
abbrev HWK_ID.LATERAL : Fld := ⟨24, 1⟩
/-- CST_CPATCH (R139). -/
def CST_CPATCH (i : Nat) (j : Nat) : Nat := 0xA001000 + i * 0x40 + j * 0x8
abbrev CST_CPATCH.MATCH : Fld := ⟨0, 14⟩
abbrev CST_CPATCH.TARGET : Fld := ⟨16, 14⟩
abbrev CST_CPATCH.SAVE : Fld := ⟨30, 1⟩
abbrev CST_CPATCH.EN : Fld := ⟨31, 1⟩
/-- CST_SPATCH (R139). -/
def CST_SPATCH (i : Nat) : Nat := 0xA003000 + i * 0x8
abbrev CST_SPATCH.MATCH : Fld := ⟨0, 16⟩
abbrev CST_SPATCH.TARGET : Fld := ⟨16, 16⟩
abbrev CST_SPATCH.SAVE : Fld := ⟨32, 1⟩
abbrev CST_SPATCH.EN : Fld := ⟨33, 1⟩
/-- CST_STATUS (R141). -/
def CST_STATUS : Nat := 0xA000000
abbrev CST_STATUS.RESULT : Fld := ⟨0, 8⟩
abbrev CST_STATUS.TYPE : Fld := ⟨8, 8⟩
abbrev CST_STATUS.BUSY : Fld := ⟨16, 1⟩
abbrev CST_STATUS.FENCED_WRITE : Fld := ⟨17, 1⟩
abbrev CST_STATUS.DONE : Fld := ⟨18, 1⟩
abbrev CST_STATUS.VERSION : Fld := ⟨32, 32⟩
/-- CST_LOAD (R141). -/
def CST_LOAD : Nat := 0xA000008
abbrev CST_LOAD.ADDR : Fld := ⟨5, 43⟩
abbrev CST_LOAD.GO : Fld := ⟨63, 1⟩
/-- TWN_CSTATE (R145). -/
def TWN_CSTATE (i : Nat) : Nat := 0x9000800 + i * 0x8
abbrev TWN_CSTATE.ROLE : Fld := ⟨0, 3⟩
abbrev TWN_CSTATE.GROUP : Fld := ⟨8, 6⟩
abbrev TWN_CSTATE.INDEX : Fld := ⟨14, 2⟩
/-- TWN_GCFG (R146). -/
def TWN_GCFG (i : Nat) : Nat := 0x9001000 + i * 0x40
abbrev TWN_GCFG.M0 : Fld := ⟨0, 7⟩
abbrev TWN_GCFG.M1 : Fld := ⟨8, 7⟩
abbrev TWN_GCFG.M2 : Fld := ⟨16, 7⟩
abbrev TWN_GCFG.MODE : Fld := ⟨24, 2⟩
abbrev TWN_GCFG.IXCH : Fld := ⟨26, 1⟩
abbrev TWN_GCFG.CHECKER : Fld := ⟨32, 8⟩
/-- TWN_CMD (R165). -/
def TWN_CMD : Nat := 0x9000000
abbrev TWN_CMD.GROUP : Fld := ⟨0, 6⟩
abbrev TWN_CMD.OP : Fld := ⟨8, 3⟩
abbrev TWN_CMD.CORE : Fld := ⟨12, 7⟩
abbrev TWN_CMD.LEAD : Fld := ⟨20, 7⟩
abbrev TWN_CMD.GO : Fld := ⟨63, 1⟩
/-- TWN_CMDARG (R165). -/
def TWN_CMDARG : Nat := 0x9000008
abbrev TWN_CMDARG.ADDR : Fld := ⟨0, 64⟩
/-- TWN_CMDSTAT (R165). -/
def TWN_CMDSTAT : Nat := 0x9000010
abbrev TWN_CMDSTAT.BUSY : Fld := ⟨0, 1⟩
abbrev TWN_CMDSTAT.DONE : Fld := ⟨1, 1⟩
abbrev TWN_CMDSTAT.FENCED_WRITE : Fld := ⟨2, 1⟩
abbrev TWN_CMDSTAT.RESULT : Fld := ⟨8, 8⟩
/-- TWN_CFG (R165). -/
def TWN_CFG : Nat := 0x9000018
abbrev TWN_CFG.NOTIFY : Fld := ⟨0, 7⟩
abbrev TWN_CFG.NOTIFY_EN : Fld := ⟨7, 1⟩
/-- TWN_GSTAT (R165). -/
def TWN_GSTAT (i : Nat) : Nat := 0x9001008 + i * 0x40
abbrev TWN_GSTAT.STATE : Fld := ⟨0, 3⟩
abbrev TWN_GSTAT.PINNED : Fld := ⟨3, 1⟩
abbrev TWN_GSTAT.EVENT : Fld := ⟨4, 1⟩
/-- TWN_GCNT (R165). -/
def TWN_GCNT (i : Nat) : Nat := 0x9001010 + i * 0x40
abbrev TWN_GCNT.MISCOMPARES : Fld := ⟨0, 16⟩
abbrev TWN_GCNT.INPUTDIV : Fld := ⟨16, 16⟩
abbrev TWN_GCNT.OUTVOTES : Fld := ⟨32, 16⟩
abbrev TWN_GCNT.FORWARDED : Fld := ⟨48, 16⟩
/-- CAC_CCFG (R197). -/
def CAC_CCFG (i : Nat) : Nat := 0xB000000 + i * 0x40
abbrev CAC_CCFG.PFMODE : Fld := ⟨0, 2⟩
abbrev CAC_CCFG.RUNAHEAD_EN : Fld := ⟨2, 1⟩
abbrev CAC_CCFG.PFDEPTH : Fld := ⟨8, 4⟩
/-- CAC_CSTAT (R197). -/
def CAC_CSTAT (i : Nat) : Nat := 0xB000008 + i * 0x40
abbrev CAC_CSTAT.BUSY : Fld := ⟨0, 1⟩
abbrev CAC_CSTAT.DONE : Fld := ⟨1, 1⟩
abbrev CAC_CSTAT.FENCED_WRITE : Fld := ⟨2, 1⟩
abbrev CAC_CSTAT.RESULT : Fld := ⟨8, 8⟩
/-- CAC_CCMD (R197). -/
def CAC_CCMD (i : Nat) : Nat := 0xB000010 + i * 0x40
abbrev CAC_CCMD.OP : Fld := ⟨0, 2⟩
abbrev CAC_CCMD.GO : Fld := ⟨63, 1⟩
/-- CAC_CCNT (R197). -/
def CAC_CCNT (i : Nat) : Nat := 0xB000018 + i * 0x40
abbrev CAC_CCNT.L1D_MISS : Fld := ⟨0, 32⟩
abbrev CAC_CCNT.RECALL : Fld := ⟨32, 16⟩
abbrev CAC_CCNT.PF_DROP : Fld := ⟨48, 16⟩
/-- CAC_RCFG (R198). -/
def CAC_RCFG : Nat := 0xB010000
abbrev CAC_RCFG.DMA_ALLOC : Fld := ⟨0, 1⟩
abbrev CAC_RCFG.DMA_WAYS : Fld := ⟨16, 16⟩
/-- CAC_RCMD (R198). -/
def CAC_RCMD : Nat := 0xB010008
abbrev CAC_RCMD.OP : Fld := ⟨0, 2⟩
abbrev CAC_RCMD.GO : Fld := ⟨63, 1⟩
/-- CAC_RSTAT (R198). -/
def CAC_RSTAT : Nat := 0xB010010
abbrev CAC_RSTAT.BUSY : Fld := ⟨0, 1⟩
abbrev CAC_RSTAT.DONE : Fld := ⟨1, 1⟩
abbrev CAC_RSTAT.FENCED_WRITE : Fld := ⟨2, 1⟩
/-- XLT_GREACH (R202). -/
def XLT_GREACH (i : Nat) (j : Nat) : Nat := 0xC000000 + i * 0x200 + j * 0x8
abbrev XLT_GREACH.TYPE : Fld := ⟨0, 2⟩
abbrev XLT_GREACH.SIZE : Fld := ⟨2, 6⟩
abbrev XLT_GREACH.BODY : Fld := ⟨8, 56⟩
/-- XLT_HREACH (R202). -/
def XLT_HREACH (i : Nat) (j : Nat) : Nat := 0xC000080 + i * 0x200 + j * 0x8
abbrev XLT_HREACH.TYPE : Fld := ⟨0, 2⟩
abbrev XLT_HREACH.SIZE : Fld := ⟨2, 6⟩
abbrev XLT_HREACH.BODY : Fld := ⟨8, 56⟩
/-- XLT_CTX (R224). -/
def XLT_CTX (i : Nat) : Nat := 0xC000100 + i * 0x200
abbrev XLT_CTX.HXEN : Fld := ⟨0, 1⟩
/-- XLT_STAT (R224). -/
def XLT_STAT (i : Nat) : Nat := 0xC000108 + i * 0x200
abbrev XLT_STAT.FENCED_WRITE : Fld := ⟨0, 1⟩
/-- XLT_CNT (R224). -/
def XLT_CNT (i : Nat) : Nat := 0xC000110 + i * 0x200
abbrev XLT_CNT.WALKS : Fld := ⟨0, 32⟩
abbrev XLT_CNT.REWALKS : Fld := ⟨32, 16⟩
abbrev XLT_CNT.CONFLICTS : Fld := ⟨48, 16⟩
/-- DRM_CFG (R235). -/
def DRM_CFG : Nat := 0xD000000
abbrev DRM_CFG.SCRUB_EN : Fld := ⟨0, 1⟩
abbrev DRM_CFG.SCRUB_HOURS : Fld := ⟨8, 16⟩
abbrev DRM_CFG.ROW_THRESH : Fld := ⟨24, 8⟩
/-- DRM_COMMIT (R235). -/
def DRM_COMMIT : Nat := 0xD000008
abbrev DRM_COMMIT.COMMIT : Fld := ⟨0, 1⟩
/-- DRM_STAT (R235). -/
def DRM_STAT : Nat := 0xD000010
abbrev DRM_STAT.FENCED_WRITE : Fld := ⟨0, 1⟩
abbrev DRM_STAT.STAGED : Fld := ⟨1, 1⟩
/-- DRM_SSTAT (R235). -/
def DRM_SSTAT (i : Nat) : Nat := 0xD000100 + i * 0x40
abbrev DRM_SSTAT.SPARED : Fld := ⟨0, 5⟩
abbrev DRM_SSTAT.COPYING : Fld := ⟨5, 1⟩
abbrev DRM_SSTAT.STATE : Fld := ⟨6, 2⟩
abbrev DRM_SSTAT.ROWS_LEFT : Fld := ⟨16, 15⟩
/-- DRM_SCMD (R235). -/
def DRM_SCMD (i : Nat) : Nat := 0xD000108 + i * 0x40
abbrev DRM_SCMD.CHANNEL : Fld := ⟨0, 4⟩
abbrev DRM_SCMD.GO : Fld := ⟨63, 1⟩
/-- DRM_SCNT (R235). -/
def DRM_SCNT (i : Nat) : Nat := 0xD000110 + i * 0x40
abbrev DRM_SCNT.CORRECTED : Fld := ⟨0, 32⟩
abbrev DRM_SCNT.UNCORR : Fld := ⟨32, 16⟩
abbrev DRM_SCNT.ROWS_SPARED : Fld := ⟨48, 16⟩
/-- CIS_BCTL (R244). -/
def CIS_BCTL (i : Nat) : Nat := 0xE000000 + i * 0x40
abbrev CIS_BCTL.MASK : Fld := ⟨0, 13⟩
abbrev CIS_BCTL.POWER : Fld := ⟨16, 2⟩
abbrev CIS_BCTL.STOP : Fld := ⟨18, 1⟩
abbrev CIS_BCTL.WIPE : Fld := ⟨19, 1⟩
/-- CIS_BSTAT (R244). -/
def CIS_BSTAT (i : Nat) : Nat := 0xE000008 + i * 0x40
abbrev CIS_BSTAT.STATE : Fld := ⟨0, 3⟩
abbrev CIS_BSTAT.FENCED_WRITE : Fld := ⟨3, 1⟩
abbrev CIS_BSTAT.ROWS_LEFT : Fld := ⟨4, 5⟩
/-- CIS_SRSTAT (R244). -/
def CIS_SRSTAT : Nat := 0xE001000
abbrev CIS_SRSTAT.WIPING : Fld := ⟨0, 1⟩
abbrev CIS_SRSTAT.CAUSE : Fld := ⟨1, 2⟩
abbrev CIS_SRSTAT.WIPES : Fld := ⟨16, 16⟩
/-- CIS_MCNT (R244). -/
def CIS_MCNT (i : Nat) : Nat := 0xE002000 + i * 0x8
abbrev CIS_MCNT.ACCESSES : Fld := ⟨0, 32⟩
abbrev CIS_MCNT.CONFLICTS : Fld := ⟨32, 32⟩
/-- LNK_CTL (R268). -/
def LNK_CTL (i : Nat) : Nat := 0x10000000 + i * 0x10000
abbrev LNK_CTL.EN : Fld := ⟨0, 1⟩
abbrev LNK_CTL.RETRAIN : Fld := ⟨1, 1⟩
abbrev LNK_CTL.MOVE : Fld := ⟨2, 1⟩
abbrev LNK_CTL.ENCAP : Fld := ⟨4, 1⟩
abbrev LNK_CTL.VLAN : Fld := ⟨5, 1⟩
abbrev LNK_CTL.ETHERTYPE : Fld := ⟨16, 16⟩
abbrev LNK_CTL.VID : Fld := ⟨32, 12⟩
abbrev LNK_CTL.PCP : Fld := ⟨44, 3⟩
/-- LNK_CFG (R268). -/
def LNK_CFG (i : Nat) : Nat := 0x10000008 + i * 0x10000
abbrev LNK_CFG.REPLAY_TO : Fld := ⟨0, 16⟩
abbrev LNK_CFG.LIVE_TO : Fld := ⟨16, 16⟩
abbrev LNK_CFG.RETRY_MAX : Fld := ⟨32, 4⟩
abbrev LNK_CFG.RETRAIN_MAX : Fld := ⟨36, 4⟩
/-- LNK_RXBUF (R268). -/
def LNK_RXBUF (i : Nat) : Nat := 0x10000010 + i * 0x10000
abbrev LNK_RXBUF.CTL : Fld := ⟨0, 16⟩
abbrev LNK_RXBUF.REQ : Fld := ⟨16, 16⟩
abbrev LNK_RXBUF.DATA : Fld := ⟨32, 16⟩
abbrev LNK_RXBUF.RSP : Fld := ⟨48, 16⟩
/-- LNK_DMAC (R268). -/
def LNK_DMAC (i : Nat) : Nat := 0x10000018 + i * 0x10000
abbrev LNK_DMAC.MAC : Fld := ⟨0, 48⟩
/-- LNK_SMAC (R268). -/
def LNK_SMAC (i : Nat) : Nat := 0x10000020 + i * 0x10000
abbrev LNK_SMAC.MAC : Fld := ⟨0, 48⟩
/-- LNK_STAT (R268). -/
def LNK_STAT (i : Nat) : Nat := 0x10000028 + i * 0x10000
abbrev LNK_STAT.STATE : Fld := ⟨0, 4⟩
abbrev LNK_STAT.HOLDING : Fld := ⟨4, 1⟩
abbrev LNK_STAT.FENCED_WRITE : Fld := ⟨5, 1⟩
abbrev LNK_STAT.EVENT : Fld := ⟨6, 1⟩
abbrev LNK_STAT.LANE : Fld := ⟨8, 9⟩
abbrev LNK_STAT.DOWNCAUSE : Fld := ⟨17, 3⟩
abbrev LNK_STAT.TRAINFAIL : Fld := ⟨20, 4⟩
abbrev LNK_STAT.PEER_LINK : Fld := ⟨24, 8⟩
abbrev LNK_STAT.PEER_EPOCH : Fld := ⟨32, 32⟩
/-- LNK_CNT0 (R268). -/
def LNK_CNT0 (i : Nat) : Nat := 0x10000030 + i * 0x10000
abbrev LNK_CNT0.TX_DATA : Fld := ⟨0, 32⟩
abbrev LNK_CNT0.RX_DATA : Fld := ⟨32, 32⟩
/-- LNK_CNT1 (R268). -/
def LNK_CNT1 (i : Nat) : Nat := 0x10000038 + i * 0x10000
abbrev LNK_CNT1.REPLAYS : Fld := ⟨0, 16⟩
abbrev LNK_CNT1.CRC_ERR : Fld := ⟨16, 16⟩
abbrev LNK_CNT1.DISCARDS : Fld := ⟨32, 16⟩
abbrev LNK_CNT1.DOWNS : Fld := ⟨48, 16⟩
/-- LNK_PSTAT of lane i: lanes 256-287 lie in window 0x0F (R269, R3). -/
def LNK_PSTAT (i : Nat) : Nat :=
  if i < 256 then 0x10000800 + i * 0x10000 else 0xF000800 + (i - 256) * 0x10000
abbrev LNK_PSTAT.MODE : Fld := ⟨0, 2⟩
abbrev LNK_PSTAT.LOCK : Fld := ⟨2, 1⟩
abbrev LNK_PSTAT.FENCED_WRITE : Fld := ⟨3, 1⟩
abbrev LNK_PSTAT.EYE_MV : Fld := ⟨8, 8⟩
abbrev LNK_PSTAT.CARRIES : Fld := ⟨16, 9⟩
/-- LNK_PCNT of lane i: lanes 256-287 lie in window 0x0F (R269, R3). -/
def LNK_PCNT (i : Nat) : Nat :=
  if i < 256 then 0x10000808 + i * 0x10000 else 0xF000808 + (i - 256) * 0x10000
abbrev LNK_PCNT.FEC_CORR : Fld := ⟨0, 32⟩
abbrev LNK_PCNT.FEC_UNCORR : Fld := ⟨32, 16⟩
abbrev LNK_PCNT.TRAINS : Fld := ⟨48, 16⟩
/-- LNK_SPCFG of spare lane 256 + i (R269). -/
def LNK_SPCFG (i : Nat) : Nat := 0xF000810 + i * 0x10000
abbrev LNK_SPCFG.SERVES : Fld := ⟨0, 8⟩
/-- SES_CMD (R272). -/
def SES_CMD : Nat := 0x13000000
abbrev SES_CMD.SESSION : Fld := ⟨0, 18⟩
abbrev SES_CMD.OP : Fld := ⟨20, 3⟩
abbrev SES_CMD.GO : Fld := ⟨63, 1⟩
/-- SES_CMDARG (R272). -/
def SES_CMDARG : Nat := 0x13000008
abbrev SES_CMDARG.ADDR : Fld := ⟨0, 48⟩
/-- SES_CMDSTAT (R272). -/
def SES_CMDSTAT : Nat := 0x13000010
abbrev SES_CMDSTAT.BUSY : Fld := ⟨0, 1⟩
abbrev SES_CMDSTAT.DONE : Fld := ⟨1, 1⟩
abbrev SES_CMDSTAT.RESULT : Fld := ⟨8, 8⟩
/-- SES_CFG (R272). -/
def SES_CFG : Nat := 0x13000018
abbrev SES_CFG.RUN : Fld := ⟨0, 1⟩
abbrev SES_CFG.REVERT : Fld := ⟨1, 1⟩
abbrev SES_CFG.PATH_STALL : Fld := ⟨8, 16⟩
abbrev SES_CFG.NOPATH_MS : Fld := ⟨24, 8⟩
abbrev SES_CFG.CTXBASE : Fld := ⟨34, 23⟩
/-- SES_STAT (R272). -/
def SES_STAT : Nat := 0x13000020
abbrev SES_STAT.RUNNING : Fld := ⟨0, 1⟩
abbrev SES_STAT.FENCED_WRITE : Fld := ⟨1, 1⟩
abbrev SES_STAT.CTXERR : Fld := ⟨2, 1⟩
abbrev SES_STAT.OPEN : Fld := ⟨32, 19⟩
/-- SES_CNT (R272). -/
def SES_CNT : Nat := 0x13000028
abbrev SES_CNT.RESETS_RX : Fld := ⟨0, 16⟩
abbrev SES_CNT.RESETS_TX : Fld := ⟨16, 16⟩
abbrev SES_CNT.RESUMES : Fld := ⟨32, 16⟩
abbrev SES_CNT.FURROW_ERR : Fld := ⟨48, 16⟩
/-- SES_LCNT (R272). -/
def SES_LCNT (i : Nat) : Nat := 0x13001000 + i * 0x8
abbrev SES_LCNT.NAMED : Fld := ⟨0, 13⟩
abbrev SES_LCNT.ACTIVE : Fld := ⟨16, 13⟩
abbrev SES_LCNT.FAILOVERS : Fld := ⟨32, 16⟩
/-- SLU_CFG (R320). -/
def SLU_CFG : Nat := 0x11000000
abbrev SLU_CFG.SWAP_EN : Fld := ⟨0, 1⟩
abbrev SLU_CFG.SWAP_HOURS : Fld := ⟨8, 8⟩
/-- SLU_COMMIT (R320). -/
def SLU_COMMIT : Nat := 0x11000008
abbrev SLU_COMMIT.COMMIT : Fld := ⟨0, 1⟩
/-- SLU_CMD (R320). -/
def SLU_CMD : Nat := 0x11000010
abbrev SLU_CMD.OP : Fld := ⟨0, 2⟩
abbrev SLU_CMD.GO : Fld := ⟨63, 1⟩
/-- SLU_STAT (R320). -/
def SLU_STAT : Nat := 0x11000018
abbrev SLU_STAT.HOLDER : Fld := ⟨0, 2⟩
abbrev SLU_STAT.ASTATE : Fld := ⟨2, 3⟩
abbrev SLU_STAT.BSTATE : Fld := ⟨5, 3⟩
abbrev SLU_STAT.BUSY : Fld := ⟨8, 1⟩
abbrev SLU_STAT.DONE : Fld := ⟨9, 1⟩
abbrev SLU_STAT.FENCED_WRITE : Fld := ⟨10, 1⟩
abbrev SLU_STAT.STAGED : Fld := ⟨11, 1⟩
abbrev SLU_STAT.PATHFLT : Fld := ⟨12, 4⟩
abbrev SLU_STAT.RESULT : Fld := ⟨16, 8⟩
abbrev SLU_STAT.SWAP_LEFT : Fld := ⟨24, 16⟩
/-- SLU_LEASE (R320). -/
def SLU_LEASE : Nat := 0x11000020
abbrev SLU_LEASE.REMAIN : Fld := ⟨0, 10⟩
abbrev SLU_LEASE.QUIET : Fld := ⟨10, 1⟩
abbrev SLU_LEASE.FENCE_A : Fld := ⟨11, 1⟩
abbrev SLU_LEASE.FENCE_B : Fld := ⟨12, 1⟩
/-- SLU_OSEQ (R320). -/
def SLU_OSEQ : Nat := 0x11000028
abbrev SLU_OSEQ.EMITTED : Fld := ⟨0, 64⟩
/-- SLU_CNT (R320). -/
def SLU_CNT : Nat := 0x11000030
abbrev SLU_CNT.SWITCHOVERS : Fld := ⟨0, 16⟩
abbrev SLU_CNT.SWAPS : Fld := ⟨16, 16⟩
abbrev SLU_CNT.PATHFAULTS : Fld := ⟨32, 16⟩
abbrev SLU_CNT.SKIPPED : Fld := ⟨48, 16⟩
/-- SLU_SUPP (R320). -/
def SLU_SUPP : Nat := 0x11000038
abbrev SLU_SUPP.SUPPRESSED : Fld := ⟨0, 32⟩
/-- LGR_CFG (R321). -/
def LGR_CFG : Nat := 0x12000000
abbrev LGR_CFG.LOWMARK : Fld := ⟨0, 23⟩
/-- LGR_STAT (R321). -/
def LGR_STAT : Nat := 0x12000008
abbrev LGR_STAT.FREE : Fld := ⟨0, 23⟩
abbrev LGR_STAT.FENCED_WRITE : Fld := ⟨23, 1⟩
abbrev LGR_STAT.STATE : Fld := ⟨24, 2⟩
abbrev LGR_STAT.LOW : Fld := ⟨26, 1⟩
/-- LGR_CNT0 (R321). -/
def LGR_CNT0 : Nat := 0x12000010
abbrev LGR_CNT0.ACCEPTED : Fld := ⟨0, 32⟩
abbrev LGR_CNT0.ENDED : Fld := ⟨32, 32⟩
/-- LGR_CNT1 (R321). -/
def LGR_CNT1 : Nat := 0x12000018
abbrev LGR_CNT1.RETIRED : Fld := ⟨0, 32⟩
abbrev LGR_CNT1.REFUSED_FULL : Fld := ⟨32, 16⟩
abbrev LGR_CNT1.MIRROR_FIX : Fld := ⟨48, 16⟩
/-- LGR_RD (R321). -/
def LGR_RD : Nat := 0x12000100
abbrev LGR_RD.INDEX : Fld := ⟨0, 22⟩
abbrev LGR_RD.GO : Fld := ⟨63, 1⟩
/-- LGR_RDSTAT (R321). -/
def LGR_RDSTAT : Nat := 0x12000108
abbrev LGR_RDSTAT.BUSY : Fld := ⟨0, 1⟩
abbrev LGR_RDSTAT.DONE : Fld := ⟨1, 1⟩
abbrev LGR_RDSTAT.SRC : Fld := ⟨2, 2⟩
/-- LGR_RDATA (R321). -/
def LGR_RDATA (i : Nat) : Nat := 0x12000140 + i * 0x8
abbrev LGR_RDATA.WORD : Fld := ⟨0, 64⟩
/-- ALT_CMD (R323). -/
def ALT_CMD : Nat := 0x14000000
abbrev ALT_CMD.ALLOT : Fld := ⟨0, 12⟩
abbrev ALT_CMD.OP : Fld := ⟨12, 4⟩
abbrev ALT_CMD.GO : Fld := ⟨63, 1⟩
/-- ALT_CMDARG (R323). -/
def ALT_CMDARG : Nat := 0x14000008
abbrev ALT_CMDARG.ARG : Fld := ⟨0, 64⟩
/-- ALT_CMDSTAT (R323). -/
def ALT_CMDSTAT : Nat := 0x14000010
abbrev ALT_CMDSTAT.BUSY : Fld := ⟨0, 1⟩
abbrev ALT_CMDSTAT.DONE : Fld := ⟨1, 1⟩
abbrev ALT_CMDSTAT.RESULT : Fld := ⟨8, 8⟩
/-- ALT_CFG (R326). -/
def ALT_CFG : Nat := 0x14000018
abbrev ALT_CFG.CTXBASE : Fld := ⟨21, 27⟩
/-- ALT_STAT (R326). -/
def ALT_STAT : Nat := 0x14000020
abbrev ALT_STAT.FENCED_WRITE : Fld := ⟨0, 1⟩
abbrev ALT_STAT.CTXERR : Fld := ⟨1, 1⟩
abbrev ALT_STAT.ACTIVE : Fld := ⟨16, 13⟩
/-- ALT_ASTAT (R340). -/
def ALT_ASTAT (i : Nat) : Nat := 0x14400000 + i * 0x200
abbrev ALT_ASTAT.STATE : Fld := ⟨0, 2⟩
abbrev ALT_ASTAT.FENCED_WRITE : Fld := ⟨2, 1⟩
abbrev ALT_ASTAT.OVER_ALLOTMENT : Fld := ⟨3, 1⟩
abbrev ALT_ASTAT.CTXLOST : Fld := ⟨4, 1⟩
abbrev ALT_ASTAT.QUEUED : Fld := ⟨16, 23⟩
/-- ALT_SHARE (R340). -/
def ALT_SHARE (i : Nat) : Nat := 0x14400008 + i * 0x200
abbrev ALT_SHARE.WEIGHT : Fld := ⟨0, 10⟩
abbrev ALT_SHARE.QLIMIT : Fld := ⟨16, 23⟩
/-- ALT_ACTL (R340). -/
def ALT_ACTL (i : Nat) : Nat := 0x14400010 + i * 0x200
abbrev ALT_ACTL.LGRANT : Fld := ⟨0, 1⟩
abbrev ALT_ACTL.LOGDIRTY : Fld := ⟨1, 1⟩
/-- ALT_IOREACH (R340). -/
def ALT_IOREACH (i : Nat) (j : Nat) : Nat := 0x14400080 + i * 0x200 + j * 0x8
abbrev ALT_IOREACH.TYPE : Fld := ⟨0, 2⟩
abbrev ALT_IOREACH.SIZE : Fld := ⟨2, 6⟩
abbrev ALT_IOREACH.BODY : Fld := ⟨8, 56⟩
/-- ALT_SIPHON (R340). -/
def ALT_SIPHON (i : Nat) : Nat := 0x14400100 + i * 0x200
abbrev ALT_SIPHON.SLOG2 : Fld := ⟨0, 5⟩
abbrev ALT_SIPHON.SBASE : Fld := ⟨12, 36⟩
/-- ALT_SIRQ (R340). -/
def ALT_SIRQ (i : Nat) : Nat := 0x14400108 + i * 0x200
abbrev ALT_SIRQ.CORE : Fld := ⟨0, 7⟩
abbrev ALT_SIRQ.IRQ_EN : Fld := ⟨7, 1⟩
abbrev ALT_SIRQ.LINE : Fld := ⟨8, 6⟩
abbrev ALT_SIRQ.THRESH : Fld := ⟨16, 21⟩
/-- ALT_SPROD (R340). -/
def ALT_SPROD (i : Nat) : Nat := 0x14400110 + i * 0x200
abbrev ALT_SPROD.PROD : Fld := ⟨0, 32⟩
abbrev ALT_SPROD.DROPPED : Fld := ⟨32, 16⟩
abbrev ALT_SPROD.OVERFLOW : Fld := ⟨48, 1⟩
/-- ALT_SCONS (R340). -/
def ALT_SCONS (i : Nat) : Nat := 0x14400118 + i * 0x200
abbrev ALT_SCONS.CONS : Fld := ⟨0, 32⟩
/-- ALT_IOFAULT (R340). -/
def ALT_IOFAULT (i : Nat) : Nat := 0x14400120 + i * 0x200
abbrev ALT_IOFAULT.DETAIL : Fld := ⟨0, 64⟩
/-- ALT_IOFVA (R340). -/
def ALT_IOFVA (i : Nat) : Nat := 0x14400128 + i * 0x200
abbrev ALT_IOFVA.VA : Fld := ⟨0, 64⟩
/-- ALT_ACNT (R340). -/
def ALT_ACNT (i : Nat) : Nat := 0x14400130 + i * 0x200
abbrev ALT_ACNT.ADMITTED : Fld := ⟨0, 32⟩
abbrev ALT_ACNT.REFUSED : Fld := ⟨32, 16⟩
abbrev ALT_ACNT.IOFAULTS : Fld := ⟨48, 16⟩
/-- CIP_CFG (R359). -/
def CIP_CFG : Nat := 0x15000000
abbrev CIP_CFG.HARDEN : Fld := ⟨0, 2⟩
abbrev CIP_CFG.XCHK_EN : Fld := ⟨2, 1⟩
/-- CIP_COMMIT (R359). -/
def CIP_COMMIT : Nat := 0x15000008
abbrev CIP_COMMIT.COMMIT : Fld := ⟨0, 1⟩
/-- CIP_STAT (R359). -/
def CIP_STAT : Nat := 0x15000010
abbrev CIP_STAT.FENCED_WRITE : Fld := ⟨0, 1⟩
abbrev CIP_STAT.STAGED : Fld := ⟨1, 1⟩
abbrev CIP_STAT.SPARES_LEFT : Fld := ⟨8, 8⟩
abbrev CIP_STAT.ACTIVE : Fld := ⟨16, 9⟩
/-- CIP_KCMD (R359). -/
def CIP_KCMD : Nat := 0x15000020
abbrev CIP_KCMD.SLOT : Fld := ⟨0, 18⟩
abbrev CIP_KCMD.OP : Fld := ⟨20, 2⟩
abbrev CIP_KCMD.GO : Fld := ⟨63, 1⟩
/-- CIP_KARG (R359). -/
def CIP_KARG : Nat := 0x15000028
abbrev CIP_KARG.ADDR : Fld := ⟨0, 48⟩
/-- CIP_KSTAT (R359). -/
def CIP_KSTAT : Nat := 0x15000030
abbrev CIP_KSTAT.BUSY : Fld := ⟨0, 1⟩
abbrev CIP_KSTAT.DONE : Fld := ⟨1, 1⟩
abbrev CIP_KSTAT.RESULT : Fld := ⟨8, 8⟩
/-- CIP_KINFO (R359). -/
def CIP_KINFO : Nat := 0x15000038
abbrev CIP_KINFO.STATE : Fld := ⟨0, 2⟩
abbrev CIP_KINFO.KSIZE : Fld := ⟨2, 2⟩
abbrev CIP_KINFO.OWNER : Fld := ⟨4, 12⟩
abbrev CIP_KINFO.USE : Fld := ⟨16, 5⟩
abbrev CIP_KINFO.HMIN : Fld := ⟨21, 2⟩
abbrev CIP_KINFO.GEN : Fld := ⟨32, 32⟩
/-- CIP_BSTAT (R359). -/
def CIP_BSTAT : Nat := 0x15000040
abbrev CIP_BSTAT.FREE : Fld := ⟨0, 7⟩
abbrev CIP_BSTAT.WAITING : Fld := ⟨16, 23⟩
/-- CIP_CNT0 (R359). -/
def CIP_CNT0 : Nat := 0x15000048
abbrev CIP_CNT0.BLOCKS : Fld := ⟨0, 48⟩
abbrev CIP_CNT0.REFUSED : Fld := ⟨48, 16⟩
/-- CIP_CNT1 (R359). -/
def CIP_CNT1 : Nat := 0x15000050
abbrev CIP_CNT1.TAGFAIL : Fld := ⟨0, 16⟩
abbrev CIP_CNT1.OVERRUN : Fld := ⟨16, 16⟩
abbrev CIP_CNT1.XCHK_FAIL : Fld := ⟨32, 16⟩
abbrev CIP_CNT1.KW_FAIL : Fld := ⟨48, 16⟩
/-- CIP_CFAIL (R359). -/
def CIP_CFAIL (i : Nat) : Nat := 0x15001000 + i * 0x8
abbrev CIP_CFAIL.STATUS : Fld := ⟨0, 8⟩
abbrev CIP_CFAIL.OP : Fld := ⟨8, 2⟩
abbrev CIP_CFAIL.SLOT : Fld := ⟨16, 18⟩
abbrev CIP_CFAIL.VALID : Fld := ⟨63, 1⟩
/-- CMP_CFG (R378). -/
def CMP_CFG : Nat := 0x16000000
abbrev CMP_CFG.RATIO : Fld := ⟨0, 16⟩
abbrev CMP_CFG.ABSLIM_MIB : Fld := ⟨16, 16⟩
/-- CMP_STAGE (R378). -/
def CMP_STAGE : Nat := 0x16000008
abbrev CMP_STAGE.BASE : Fld := ⟨20, 28⟩
abbrev CMP_STAGE.SIZE : Fld := ⟨48, 16⟩
/-- CMP_STAT (R378). -/
def CMP_STAT : Nat := 0x16000010
abbrev CMP_STAT.FENCED_WRITE : Fld := ⟨0, 1⟩
abbrev CMP_STAT.STOPPED : Fld := ⟨1, 1⟩
abbrev CMP_STAT.ACTIVE : Fld := ⟨8, 8⟩
abbrev CMP_STAT.SPARES_LEFT : Fld := ⟨16, 8⟩
abbrev CMP_STAT.JOBS : Fld := ⟨24, 13⟩
abbrev CMP_STAT.STAGE_FREE : Fld := ⟨37, 13⟩
/-- CMP_DICTA (R378). -/
def CMP_DICTA (i : Nat) : Nat := 0x16000100 + i * 0x10
abbrev CMP_DICTA.ID : Fld := ⟨0, 32⟩
abbrev CMP_DICTA.LEN : Fld := ⟨32, 17⟩
/-- CMP_DICTB (R378). -/
def CMP_DICTB (i : Nat) : Nat := 0x16000108 + i * 0x10
abbrev CMP_DICTB.ADDR : Fld := ⟨0, 48⟩
abbrev CMP_DICTB.REFS : Fld := ⟨48, 16⟩
/-- CMP_AJOB (R378). -/
def CMP_AJOB (i : Nat) : Nat := 0x16010000 + i * 0x8
abbrev CMP_AJOB.CORE : Fld := ⟨0, 7⟩
abbrev CMP_AJOB.IRQ_EN : Fld := ⟨7, 1⟩
abbrev CMP_AJOB.LINE : Fld := ⟨8, 6⟩
abbrev CMP_AJOB.JOBMAX : Fld := ⟨16, 13⟩
abbrev CMP_AJOB.JOBS : Fld := ⟨32, 13⟩
/-- CMP_CNT0 (R378). -/
def CMP_CNT0 : Nat := 0x16000020
abbrev CMP_CNT0.BYTES_IN : Fld := ⟨0, 48⟩
abbrev CMP_CNT0.TRASHRACK : Fld := ⟨48, 16⟩
/-- CMP_CNT1 (R378). -/
def CMP_CNT1 : Nat := 0x16000028
abbrev CMP_CNT1.BYTES_OUT : Fld := ⟨0, 48⟩
abbrev CMP_CNT1.SUSPENDS : Fld := ⟨48, 16⟩
/-- CLK_ICTL (R397). -/
def CLK_ICTL (i : Nat) : Nat := 0x1000000 + i * 0x40
abbrev CLK_ICTL.RUN_EN : Fld := ⟨0, 1⟩
abbrev CLK_ICTL.SLEEP_EN : Fld := ⟨1, 1⟩
abbrev CLK_ICTL.DEEP_EN : Fld := ⟨2, 1⟩
abbrev CLK_ICTL.SRC : Fld := ⟨3, 1⟩
abbrev CLK_ICTL.DIV : Fld := ⟨4, 3⟩
abbrev CLK_ICTL.FREQ : Fld := ⟨8, 16⟩
abbrev CLK_ICTL.GO : Fld := ⟨63, 1⟩
/-- CLK_ISTAT (R397). -/
def CLK_ISTAT (i : Nat) : Nat := 0x1000008 + i * 0x40
abbrev CLK_ISTAT.STATE : Fld := ⟨0, 3⟩
abbrev CLK_ISTAT.DIV : Fld := ⟨3, 3⟩
abbrev CLK_ISTAT.SRC : Fld := ⟨6, 1⟩
abbrev CLK_ISTAT.LOCK : Fld := ⟨7, 1⟩
abbrev CLK_ISTAT.BUSY : Fld := ⟨8, 1⟩
abbrev CLK_ISTAT.DONE : Fld := ⟨9, 1⟩
abbrev CLK_ISTAT.FENCED_WRITE : Fld := ⟨10, 1⟩
abbrev CLK_ISTAT.RESULT : Fld := ⟨16, 8⟩
abbrev CLK_ISTAT.DRAINFAR : Fld := ⟨24, 5⟩
abbrev CLK_ISTAT.CAPDIV : Fld := ⟨32, 3⟩
/-- CLK_ICNT (R397). -/
def CLK_ICNT (i : Nat) : Nat := 0x1000010 + i * 0x40
abbrev CLK_ICNT.CHANGES : Fld := ⟨0, 16⟩
abbrev CLK_ICNT.DRAINFAIL : Fld := ⟨16, 16⟩
abbrev CLK_ICNT.LOCKLOSS : Fld := ⟨32, 16⟩
/-- CLK_REFSTAT (R397). -/
def CLK_REFSTAT : Nat := 0x1001000
abbrev CLK_REFSTAT.REFLOCK : Fld := ⟨0, 1⟩
abbrev CLK_REFSTAT.HOLDOVER : Fld := ⟨1, 1⟩
abbrev CLK_REFSTAT.REFLOSS : Fld := ⟨16, 16⟩
/-- LEV_PCEIL (R398). -/
def LEV_PCEIL : Nat := 0x5000100
abbrev LEV_PCEIL.CEIL_W : Fld := ⟨0, 12⟩
/-- LEV_PLIMIT (R398). -/
def LEV_PLIMIT : Nat := 0x5000108
abbrev LEV_PLIMIT.LIMIT_W : Fld := ⟨0, 12⟩
/-- LEV_PSTAT (R398). -/
def LEV_PSTAT : Nat := 0x5000110
abbrev LEV_PSTAT.INPUT_W : Fld := ⟨0, 12⟩
abbrev LEV_PSTAT.PEAK_W : Fld := ⟨12, 12⟩
abbrev LEV_PSTAT.THROTTLE : Fld := ⟨24, 3⟩
abbrev LEV_PSTAT.CLAMPED : Fld := ⟨27, 1⟩
abbrev LEV_PSTAT.VIN_DV : Fld := ⟨32, 10⟩
/-- LEV_PCNT (R398). -/
def LEV_PCNT : Nat := 0x5000118
abbrev LEV_PCNT.THROTTLED : Fld := ⟨0, 32⟩
abbrev LEV_PCNT.LOOP_STEPS : Fld := ⟨32, 16⟩
abbrev LEV_PCNT.CLAMPS : Fld := ⟨48, 16⟩
/-- HWK_SSTAT (R418). -/
def HWK_SSTAT : Nat := 0x100
abbrev HWK_SSTAT.PHASE : Fld := ⟨0, 3⟩
abbrev HWK_SSTAT.KIND : Fld := ⟨3, 1⟩
abbrev HWK_SSTAT.FORCED : Fld := ⟨4, 1⟩
abbrev HWK_SSTAT.FENCED_WRITE : Fld := ⟨5, 1⟩
abbrev HWK_SSTAT.LASTFAIL : Fld := ⟨8, 4⟩
abbrev HWK_SSTAT.FAILSTEP : Fld := ⟨12, 4⟩
abbrev HWK_SSTAT.WARMFAIL : Fld := ⟨16, 2⟩
abbrev HWK_SSTAT.COLDFAIL : Fld := ⟨18, 2⟩
abbrev HWK_SSTAT.BASEMASK : Fld := ⟨24, 8⟩
abbrev HWK_SSTAT.RESULT : Fld := ⟨32, 8⟩
/-- HWK_STIME (R418). -/
def HWK_STIME : Nat := 0x108
abbrev HWK_STIME.TRICKLE_AT : Fld := ⟨0, 32⟩
abbrev HWK_STIME.FULL_AT : Fld := ⟨32, 32⟩
/-- HWK_SCMD (R418). -/
def HWK_SCMD : Nat := 0x110
abbrev HWK_SCMD.OP : Fld := ⟨0, 2⟩
abbrev HWK_SCMD.GO : Fld := ⟨63, 1⟩
/-- HWK_SCFG (R418). -/
def HWK_SCFG : Nat := 0x118
abbrev HWK_SCFG.HOLD_TRICKLE : Fld := ⟨0, 1⟩
/-- HWK_LMASK (R418). -/
def HWK_LMASK (i : Nat) : Nat := 0x120 + i * 0x8
abbrev HWK_LMASK.LINKS : Fld := ⟨0, 64⟩
/-- HRC_STAT (R440). -/
def HRC_STAT : Nat := 0x2000000
abbrev HRC_STAT.TIMEVALID : Fld := ⟨0, 1⟩
abbrev HRC_STAT.TAIL : Fld := ⟨1, 1⟩
abbrev HRC_STAT.HOLDOVER : Fld := ⟨2, 1⟩
abbrev HRC_STAT.FENCED_WRITE : Fld := ⟨3, 1⟩
abbrev HRC_STAT.SPARE_RX : Fld := ⟨4, 1⟩
abbrev HRC_STAT.SPARE_TX : Fld := ⟨5, 1⟩
abbrev HRC_STAT.UPLOCK : Fld := ⟨6, 1⟩
/-- HRC_ENUM (R440). -/
def HRC_ENUM : Nat := 0x2000040
abbrev HRC_ENUM.ADDR : Fld := ⟨0, 8⟩
abbrev HRC_ENUM.OVER : Fld := ⟨8, 1⟩
abbrev HRC_ENUM.MOVED : Fld := ⟨9, 1⟩
abbrev HRC_ENUM.ENUMOK : Fld := ⟨10, 1⟩
abbrev HRC_ENUM.CAND : Fld := ⟨16, 8⟩
abbrev HRC_ENUM.UPDELAY : Fld := ⟨32, 32⟩
/-- HRC_TIME (R440). -/
def HRC_TIME : Nat := 0x2000048
abbrev HRC_TIME.RACK_HC : Fld := ⟨0, 64⟩
/-- HRC_CNT (R440). -/
def HRC_CNT : Nat := 0x2000050
abbrev HRC_CNT.CRC_ERR : Fld := ⟨0, 16⟩
abbrev HRC_CNT.DISCARDS : Fld := ⟨16, 16⟩
abbrev HRC_CNT.TIMESTEPS : Fld := ⟨32, 16⟩
abbrev HRC_CNT.SPARESW : Fld := ⟨48, 16⟩
/-- HRC_MBOX (R440). -/
def HRC_MBOX (i : Nat) : Nat := 0x2001000 + i * 0x8
abbrev HRC_MBOX.MSG : Fld := ⟨0, 56⟩
abbrev HRC_MBOX.FULL : Fld := ⟨63, 1⟩
/-- STA_ROT (R441). -/
def STA_ROT : Nat := 0x7000000
abbrev STA_ROT.PERIOD_MS : Fld := ⟨0, 22⟩
abbrev STA_ROT.AT_MS : Fld := ⟨24, 40⟩
/-- STA_STAT (R441). -/
def STA_STAT : Nat := 0x7000008
abbrev STA_STAT.SEQ : Fld := ⟨0, 32⟩
abbrev STA_STAT.PARTIAL : Fld := ⟨32, 1⟩
abbrev STA_STAT.LATE : Fld := ⟨33, 1⟩
abbrev STA_STAT.FENCED_WRITE : Fld := ⟨34, 1⟩
/-- STA_MARK (R441). -/
def STA_MARK : Nat := 0x7000010
abbrev STA_MARK.MARK_HC : Fld := ⟨0, 64⟩
/-- FLT_STATUS (R456). -/
def FLT_STATUS : Nat := 0x3000000
abbrev FLT_STATUS.SRC : Fld := ⟨0, 45⟩
/-- FLT_SUMMARY (R456). -/
def FLT_SUMMARY : Nat := 0x3000008
abbrev FLT_SUMMARY.WORST : Fld := ⟨0, 3⟩
abbrev FLT_SUMMARY.PIN : Fld := ⟨3, 1⟩
abbrev FLT_SUMMARY.FENCED_WRITE : Fld := ⟨4, 1⟩
/-- FLT_CFG (R456). -/
def FLT_CFG : Nat := 0x3000010
abbrev FLT_CFG.CORE : Fld := ⟨0, 7⟩
abbrev FLT_CFG.NOTIFY_EN : Fld := ⟨7, 1⟩
abbrev FLT_CFG.NOTIFY_CE : Fld := ⟨8, 1⟩
abbrev FLT_CFG.ASYNC_EN : Fld := ⟨9, 1⟩
abbrev FLT_CFG.CAP_CE : Fld := ⟨10, 1⟩
/-- FLT_CAP (R456). -/
def FLT_CAP : Nat := 0x3000020
abbrev FLT_CAP.VALID : Fld := ⟨0, 1⟩
abbrev FLT_CAP.MERGED : Fld := ⟨1, 1⟩
abbrev FLT_CAP.CLASS : Fld := ⟨8, 3⟩
abbrev FLT_CAP.CODE : Fld := ⟨16, 8⟩
abbrev FLT_CAP.MASTER : Fld := ⟨24, 10⟩
abbrev FLT_CAP.ACCESS : Fld := ⟨34, 4⟩
abbrev FLT_CAP.MERGECNT : Fld := ⟨48, 16⟩
/-- FLT_CAPADDR (R456). -/
def FLT_CAPADDR : Nat := 0x3000028
abbrev FLT_CAPADDR.ADDR : Fld := ⟨0, 64⟩
/-- FLT_CAPTIME (R456). -/
def FLT_CAPTIME : Nat := 0x3000030
abbrev FLT_CAPTIME.HC : Fld := ⟨0, 64⟩
/-- FLT_SRC (R456). -/
def FLT_SRC (i : Nat) : Nat := 0x3001000 + i * 0x10
abbrev FLT_SRC.CLASS : Fld := ⟨0, 3⟩
abbrev FLT_SRC.THRESH_N : Fld := ⟨3, 13⟩
abbrev FLT_SRC.WINDOW_MS : Fld := ⟨16, 16⟩
abbrev FLT_SRC.COUNT : Fld := ⟨32, 16⟩
abbrev FLT_SRC.LASTMASTER : Fld := ⟨48, 10⟩
/-- FLT_SRCADDR (R456). -/
def FLT_SRCADDR (i : Nat) : Nat := 0x3001008 + i * 0x10
abbrev FLT_SRCADDR.ADDR : Fld := ⟨0, 64⟩
/-- SPR_CFG (R457). -/
def SPR_CFG : Nat := 0x4000000
abbrev SPR_CFG.RO_LIMIT_PPM : Fld := ⟨0, 17⟩
abbrev SPR_CFG.EYE_MIN_MV : Fld := ⟨24, 8⟩
abbrev SPR_CFG.CH_ROWS : Fld := ⟨32, 11⟩
abbrev SPR_CFG.CORE : Fld := ⟨48, 7⟩
abbrev SPR_CFG.NOTIFY_EN : Fld := ⟨55, 1⟩
/-- SPR_REQ (R457). -/
def SPR_REQ : Nat := 0x4000008
abbrev SPR_REQ.VALID : Fld := ⟨0, 1⟩
abbrev SPR_REQ.CORE : Fld := ⟨1, 7⟩
abbrev SPR_REQ.REASON : Fld := ⟨8, 3⟩
/-- SPR_CMD (R457). -/
def SPR_CMD : Nat := 0x4000010
abbrev SPR_CMD.OP : Fld := ⟨0, 2⟩
abbrev SPR_CMD.CORE : Fld := ⟨2, 7⟩
abbrev SPR_CMD.GO : Fld := ⟨63, 1⟩
/-- SPR_STAT (R457). -/
def SPR_STAT : Nat := 0x4000018
abbrev SPR_STAT.BUSY : Fld := ⟨0, 1⟩
abbrev SPR_STAT.DONE : Fld := ⟨1, 1⟩
abbrev SPR_STAT.FENCED_WRITE : Fld := ⟨2, 1⟩
abbrev SPR_STAT.RESULT : Fld := ⟨8, 8⟩
/-- SPR_LEFT (R457). -/
def SPR_LEFT : Nat := 0x4000020
abbrev SPR_LEFT.CORES : Fld := ⟨0, 8⟩
abbrev SPR_LEFT.LANES : Fld := ⟨8, 6⟩
abbrev SPR_LEFT.CHECKERS : Fld := ⟨14, 3⟩
abbrev SPR_LEFT.CIPHER : Fld := ⟨17, 6⟩
abbrev SPR_LEFT.CMP : Fld := ⟨23, 4⟩
abbrev SPR_LEFT.CHANNELS : Fld := ⟨27, 8⟩
abbrev SPR_LEFT.HR_RX : Fld := ⟨35, 1⟩
abbrev SPR_LEFT.HR_TX : Fld := ⟨36, 1⟩
/-- SPR_RSTAT (R457). -/
def SPR_RSTAT : Nat := 0x4000028
abbrev SPR_RSTAT.RECORDS : Fld := ⟨0, 19⟩
abbrev SPR_RSTAT.FULL : Fld := ⟨19, 1⟩
/-- SPR_CWEAR (R457). -/
def SPR_CWEAR (i : Nat) : Nat := 0x4000400 + i * 0x8
abbrev SPR_CWEAR.SLOW_PPM : Fld := ⟨0, 17⟩
abbrev SPR_CWEAR.WARN : Fld := ⟨17, 1⟩
/-- SPR_IWEAR (R457). -/
def SPR_IWEAR (i : Nat) : Nat := 0x4000800 + i * 0x8
abbrev SPR_IWEAR.SLOW_PPM : Fld := ⟨0, 17⟩
abbrev SPR_IWEAR.WARN : Fld := ⟨17, 1⟩
/-- LCS_STAT (R471). -/
def LCS_STAT : Nat := 0x6000000
abbrev LCS_STAT.STATE : Fld := ⟨0, 3⟩
abbrev LCS_STAT.TAMPER : Fld := ⟨3, 1⟩
abbrev LCS_STAT.BUSY : Fld := ⟨4, 1⟩
abbrev LCS_STAT.DONE : Fld := ⟨5, 1⟩
abbrev LCS_STAT.FENCED_WRITE : Fld := ⟨6, 1⟩
abbrev LCS_STAT.RESULT : Fld := ⟨8, 8⟩
/-- LCS_CMD (R471). -/
def LCS_CMD : Nat := 0x6000008
abbrev LCS_CMD.TARGET : Fld := ⟨0, 3⟩
abbrev LCS_CMD.GO : Fld := ⟨63, 1⟩
/-- LCS_FCMD (R472). -/
def LCS_FCMD : Nat := 0x6000010
abbrev LCS_FCMD.OP : Fld := ⟨0, 3⟩
abbrev LCS_FCMD.TYPE : Fld := ⟨8, 3⟩
abbrev LCS_FCMD.KEYIDX : Fld := ⟨16, 2⟩
abbrev LCS_FCMD.SVN : Fld := ⟨32, 16⟩
abbrev LCS_FCMD.GO : Fld := ⟨63, 1⟩
/-- LCS_FARG (R472). -/
def LCS_FARG : Nat := 0x6000018
abbrev LCS_FARG.ADDR : Fld := ⟨6, 42⟩
/-- LCS_FSTAT (R472). -/
def LCS_FSTAT : Nat := 0x6000020
abbrev LCS_FSTAT.OEMHASH : Fld := ⟨0, 1⟩
abbrev LCS_FSTAT.KIK : Fld := ⟨1, 1⟩
abbrev LCS_FSTAT.REVOKED : Fld := ⟨2, 4⟩
abbrev LCS_FSTAT.BUSY : Fld := ⟨6, 1⟩
abbrev LCS_FSTAT.DONE : Fld := ⟨7, 1⟩
abbrev LCS_FSTAT.RESULT : Fld := ⟨8, 8⟩
/-- LCS_SVN (R472). -/
def LCS_SVN : Nat := 0x6000028
abbrev LCS_SVN.CORE : Fld := ⟨0, 16⟩
abbrev LCS_SVN.SLUICE : Fld := ⟨16, 16⟩
abbrev LCS_SVN.HEADWORKS : Fld := ⟨32, 16⟩
abbrev LCS_SVN.FLUME : Fld := ⟨48, 16⟩
/-- LEV_TSTAT (R480). -/
def LEV_TSTAT : Nat := 0x5000200
abbrev LEV_TSTAT.TJ_MAX : Fld := ⟨0, 8⟩
abbrev LEV_TSTAT.T_IN : Fld := ⟨8, 8⟩
abbrev LEV_TSTAT.T_OUT : Fld := ⟨16, 8⟩
abbrev LEV_TSTAT.HIGH : Fld := ⟨24, 1⟩
/-- CST_MSAVE (R142). -/
def CST_MSAVE (i : Nat) (j : Nat) : Nat := 0xA008000 + i * 0x100 + j * 0x8
abbrev CST_MSAVE.WORD : Fld := ⟨0, 64⟩
/-- CST_SMSAVE (R142). -/
def CST_SMSAVE (i : Nat) (j : Nat) : Nat := 0xA00E000 + i * 0x200 + j * 0x8
abbrev CST_SMSAVE.WORD : Fld := ⟨0, 64⟩
/-- STA_LATCH (R438). -/
def STA_LATCH (i : Nat) (j : Nat) (k : Nat) : Nat := 0x7400000 + i * 0x80000 + j * 0x20 + k * 0x8
abbrev STA_LATCH.WORD : Fld := ⟨0, 64⟩
/-! The body of a reach register by TYPE (R202). -/
abbrev REACH_FLAT.R : Fld := ⟨8, 1⟩
abbrev REACH_FLAT.W : Fld := ⟨9, 1⟩
abbrev REACH_FLAT.X : Fld := ⟨10, 1⟩
abbrev REACH_FLAT.VBASE : Fld := ⟨12, 24⟩
abbrev REACH_FLAT.PBASE : Fld := ⟨36, 24⟩
abbrev REACH_TABLED.VBASE : Fld := ⟨8, 19⟩
abbrev REACH_TABLED.ROOT : Fld := ⟨27, 32⟩

end Sys2Proof.Csr
end

