-- ==== Sys2Proof/Machine/CsrTable.lean ====
section
/-!
DEFINITION. The table of the spec's CSRs: where each lies, its fields with access code, update class, reset value and
accepted values (R4, R7), and what an unwritten CSR reads as (its reset value).
-/

namespace Sys2Proof.Machine
open Sys2Proof

/-- Access codes of a register field (R4). -/
inductive Acc where
  | ro | rw | wo | w1c | w1s
deriving DecidableEq, Repr

/-- Update classes (R7); `none` where the Class column shows a dash. -/
inductive UpdClass where
  | none | live | staged | fenced
deriving DecidableEq, Repr

/-- One field of a register table. -/
structure FieldDef where
  lo : Nat
  w : Nat
  acc : Acc
  cls : UpdClass
  reset : Nat
  /-- Ranges of accepted values; empty where every value is accepted. -/
  ok : List (Nat × Nat)
deriving DecidableEq, Repr

/-- One register table: its first address, the strides and counts of its instances, its fields. -/
structure RegDef where
  name : String
  base : Nat
  dims : List (Nat × Nat)
  fields : List FieldDef
deriving DecidableEq, Repr

/-- The field's position. -/
def FieldDef.fld (f : FieldDef) : Fld := ⟨f.lo, f.w⟩

/-- The value is one the field accepts. -/
def FieldDef.accepts (f : FieldDef) (v : Nat) : Bool :=
  f.ok.isEmpty || f.ok.any (fun p => decide (p.1 ≤ v) && decide (v ≤ p.2))

/-- The ALT registers of the spec. -/
def regTableALT : List RegDef := [
  ⟨"ALT_CMD", 0x14000000, [], [⟨0, 12, .rw, .live, 0, []⟩, ⟨12, 4, .rw, .live, 0, []⟩, ⟨63, 1, .wo, .live, 0, []⟩]⟩,
  ⟨"ALT_CMDARG", 0x14000008, [], [⟨0, 64, .rw, .live, 0, []⟩]⟩,
  ⟨"ALT_CMDSTAT", 0x14000010, [], [⟨0, 1, .ro, .none, 0, []⟩, ⟨1, 1, .w1c, .none, 0, []⟩, ⟨8, 8, .ro, .none, 0, []⟩]⟩,
  ⟨"ALT_CFG", 0x14000018, [], [⟨21, 27, .rw, .fenced, 0, []⟩]⟩,
  ⟨"ALT_STAT", 0x14000020, [], [⟨0, 1, .w1c, .none, 0, []⟩, ⟨1, 1, .w1c, .none, 0, []⟩, ⟨16, 13, .ro, .none, 1, []⟩]⟩,
  ⟨"ALT_ASTAT", 0x14400000, [(0x200, 4096)], [⟨0, 2, .ro, .none, 0, []⟩, ⟨2, 1, .w1c, .none, 0, []⟩, ⟨3, 1, .ro, .none, 0, []⟩, ⟨4, 1, .w1c, .none, 0, []⟩, ⟨16, 23, .ro, .none, 0, []⟩]⟩,
  ⟨"ALT_SHARE", 0x14400008, [(0x200, 4096)], [⟨0, 10, .rw, .live, 0, [(1, 1023)]⟩, ⟨16, 23, .rw, .live, 0, [(0, 4194304)]⟩]⟩,
  ⟨"ALT_ACTL", 0x14400010, [(0x200, 4096)], [⟨0, 1, .rw, .live, 0, []⟩, ⟨1, 1, .rw, .live, 0, []⟩]⟩,
  ⟨"ALT_IOREACH", 0x14400080, [(0x200, 4096), (0x8, 16)], [⟨0, 2, .rw, .live, 0, []⟩, ⟨2, 6, .rw, .live, 0, []⟩, ⟨8, 56, .rw, .live, 0, []⟩]⟩,
  ⟨"ALT_SIPHON", 0x14400100, [(0x200, 4096)], [⟨0, 5, .rw, .fenced, 0, [(0, 0), (9, 20)]⟩, ⟨12, 36, .rw, .fenced, 0, []⟩]⟩,
  ⟨"ALT_SIRQ", 0x14400108, [(0x200, 4096)], [⟨0, 7, .rw, .live, 0, []⟩, ⟨7, 1, .rw, .live, 0, []⟩, ⟨8, 6, .rw, .live, 0, [(16, 63)]⟩, ⟨16, 21, .rw, .live, 0, []⟩]⟩,
  ⟨"ALT_SPROD", 0x14400110, [(0x200, 4096)], [⟨0, 32, .ro, .none, 0, []⟩, ⟨32, 16, .ro, .none, 0, []⟩, ⟨48, 1, .w1c, .none, 0, []⟩]⟩,
  ⟨"ALT_SCONS", 0x14400118, [(0x200, 4096)], [⟨0, 32, .rw, .live, 0, []⟩]⟩,
  ⟨"ALT_IOFAULT", 0x14400120, [(0x200, 4096)], [⟨0, 64, .ro, .none, 0, []⟩]⟩,
  ⟨"ALT_IOFVA", 0x14400128, [(0x200, 4096)], [⟨0, 64, .ro, .none, 0, []⟩]⟩,
  ⟨"ALT_ACNT", 0x14400130, [(0x200, 4096)], [⟨0, 32, .ro, .none, 0, []⟩, ⟨32, 16, .ro, .none, 0, []⟩, ⟨48, 16, .ro, .none, 0, []⟩]⟩]

/-- The CAC registers of the spec. CAC_CCMD.OP keeps 0b11 as written, which ends BAD-OP: R197 does not say whether "not accepted" is of the
value or of the command (DESIGN CHOICE; log entry 88); CAC_RCMD.OP keeps its old value (R198). -/
def regTableCAC : List RegDef := [
  ⟨"CAC_CCFG", 0xB000000, [(0x40, 80)], [⟨0, 2, .rw, .live, 0, [(0, 2)]⟩, ⟨2, 1, .rw, .live, 1, []⟩, ⟨8, 4, .rw, .live, 2, [(1, 8)]⟩]⟩,
  ⟨"CAC_CSTAT", 0xB000008, [(0x40, 80)], [⟨0, 1, .ro, .none, 0, []⟩, ⟨1, 1, .w1c, .none, 0, []⟩, ⟨2, 1, .w1c, .none, 0, []⟩, ⟨8, 8, .ro, .none, 0, []⟩]⟩,
  ⟨"CAC_CCMD", 0xB000010, [(0x40, 80)], [⟨0, 2, .rw, .live, 0, []⟩, ⟨63, 1, .wo, .live, 0, []⟩]⟩,
  ⟨"CAC_CCNT", 0xB000018, [(0x40, 80)], [⟨0, 32, .ro, .none, 0, []⟩, ⟨32, 16, .ro, .none, 0, []⟩, ⟨48, 16, .ro, .none, 0, []⟩]⟩,
  ⟨"CAC_RCFG", 0xB010000, [], [⟨0, 1, .rw, .live, 1, []⟩, ⟨16, 16, .rw, .live, 65535, []⟩]⟩,
  ⟨"CAC_RCMD", 0xB010008, [], [⟨0, 2, .rw, .live, 0, [(0, 2)]⟩, ⟨63, 1, .wo, .live, 0, []⟩]⟩,
  ⟨"CAC_RSTAT", 0xB010010, [], [⟨0, 1, .ro, .none, 0, []⟩, ⟨1, 1, .w1c, .none, 0, []⟩, ⟨2, 1, .w1c, .none, 0, []⟩]⟩]

/-- The CIP registers of the spec. -/
def regTableCIP : List RegDef := [
  ⟨"CIP_CFG", 0x15000000, [], [⟨0, 2, .rw, .staged, 2, []⟩, ⟨2, 1, .rw, .live, 1, []⟩]⟩,
  ⟨"CIP_COMMIT", 0x15000008, [], [⟨0, 1, .wo, .live, 0, []⟩]⟩,
  ⟨"CIP_STAT", 0x15000010, [], [⟨0, 1, .w1c, .none, 0, []⟩, ⟨1, 1, .ro, .none, 0, []⟩, ⟨8, 8, .ro, .none, 32, []⟩, ⟨16, 9, .ro, .none, 480, []⟩]⟩,
  ⟨"CIP_KCMD", 0x15000020, [], [⟨0, 18, .rw, .live, 0, []⟩, ⟨20, 2, .rw, .live, 0, []⟩, ⟨63, 1, .wo, .live, 0, []⟩]⟩,
  ⟨"CIP_KARG", 0x15000028, [], [⟨0, 48, .rw, .live, 0, []⟩]⟩,
  ⟨"CIP_KSTAT", 0x15000030, [], [⟨0, 1, .ro, .none, 0, []⟩, ⟨1, 1, .w1c, .none, 0, []⟩, ⟨8, 8, .ro, .none, 0, []⟩]⟩,
  ⟨"CIP_KINFO", 0x15000038, [], [⟨0, 2, .ro, .none, 0, []⟩, ⟨2, 2, .ro, .none, 0, []⟩, ⟨4, 12, .ro, .none, 0, []⟩, ⟨16, 5, .ro, .none, 0, []⟩, ⟨21, 2, .ro, .none, 0, []⟩, ⟨32, 32, .ro, .none, 0, []⟩]⟩,
  ⟨"CIP_BSTAT", 0x15000040, [], [⟨0, 7, .ro, .none, 64, []⟩, ⟨16, 23, .ro, .none, 0, []⟩]⟩,
  ⟨"CIP_CNT0", 0x15000048, [], [⟨0, 48, .ro, .none, 0, []⟩, ⟨48, 16, .ro, .none, 0, []⟩]⟩,
  ⟨"CIP_CNT1", 0x15000050, [], [⟨0, 16, .ro, .none, 0, []⟩, ⟨16, 16, .ro, .none, 0, []⟩, ⟨32, 16, .ro, .none, 0, []⟩, ⟨48, 16, .ro, .none, 0, []⟩]⟩,
  ⟨"CIP_CFAIL", 0x15001000, [(0x8, 80)], [⟨0, 8, .ro, .none, 0, []⟩, ⟨8, 2, .ro, .none, 0, []⟩, ⟨16, 18, .ro, .none, 0, []⟩, ⟨63, 1, .w1c, .none, 0, []⟩]⟩]

/-- The CIS registers of the spec. -/
def regTableCIS : List RegDef := [
  ⟨"CIS_BCTL", 0xE000000, [(0x40, 16)], [⟨0, 13, .rw, .fenced, 0, []⟩, ⟨16, 2, .rw, .fenced, 0, [(0, 2)]⟩, ⟨18, 1, .rw, .live, 0, []⟩, ⟨19, 1, .wo, .fenced, 0, []⟩]⟩,
  ⟨"CIS_BSTAT", 0xE000008, [(0x40, 16)], [⟨0, 3, .ro, .none, 4, []⟩, ⟨3, 1, .w1c, .none, 0, []⟩, ⟨4, 5, .ro, .none, 16, []⟩]⟩,
  ⟨"CIS_SRSTAT", 0xE001000, [], [⟨0, 1, .ro, .none, 0, []⟩, ⟨1, 2, .ro, .none, 0, []⟩, ⟨16, 16, .ro, .none, 0, []⟩]⟩,
  ⟨"CIS_MCNT", 0xE002000, [(0x8, 13)], [⟨0, 32, .ro, .none, 0, []⟩, ⟨32, 32, .ro, .none, 0, []⟩]⟩]

/-- The CLK registers of the spec. -/
def regTableCLK : List RegDef := [
  ⟨"CLK_ICTL", 0x1000000, [(0x40, 18)], [⟨0, 1, .rw, .live, 1, []⟩, ⟨1, 1, .rw, .live, 0, []⟩, ⟨2, 1, .rw, .live, 0, []⟩, ⟨3, 1, .rw, .live, 0, []⟩, ⟨4, 3, .rw, .live, 0, []⟩, ⟨8, 16, .rw, .live, 0, []⟩, ⟨63, 1, .wo, .live, 0, []⟩]⟩,
  ⟨"CLK_ISTAT", 0x1000008, [(0x40, 18)], [⟨0, 3, .ro, .none, 0, []⟩, ⟨3, 3, .ro, .none, 0, []⟩, ⟨6, 1, .ro, .none, 0, []⟩, ⟨7, 1, .ro, .none, 1, []⟩, ⟨8, 1, .ro, .none, 0, []⟩, ⟨9, 1, .w1c, .none, 0, []⟩, ⟨10, 1, .w1c, .none, 0, []⟩, ⟨16, 8, .ro, .none, 0, []⟩, ⟨24, 5, .ro, .none, 31, []⟩, ⟨32, 3, .ro, .none, 0, []⟩]⟩,
  ⟨"CLK_ICNT", 0x1000010, [(0x40, 18)], [⟨0, 16, .ro, .none, 0, []⟩, ⟨16, 16, .ro, .none, 0, []⟩, ⟨32, 16, .ro, .none, 0, []⟩]⟩,
  ⟨"CLK_REFSTAT", 0x1001000, [], [⟨0, 1, .ro, .none, 0, []⟩, ⟨1, 1, .ro, .none, 0, []⟩, ⟨16, 16, .ro, .none, 0, []⟩]⟩]

/-- The CMP registers of the spec. -/
def regTableCMP : List RegDef := [
  ⟨"CMP_CFG", 0x16000000, [], [⟨0, 16, .rw, .live, 1032, [(1, 65535)]⟩, ⟨16, 16, .rw, .live, 1024, [(1, 65535)]⟩]⟩,
  ⟨"CMP_STAGE", 0x16000008, [], [⟨20, 28, .rw, .fenced, 0, []⟩, ⟨48, 16, .rw, .fenced, 0, [(0, 0), (128, 4096)]⟩]⟩,
  ⟨"CMP_STAT", 0x16000010, [], [⟨0, 1, .w1c, .none, 0, []⟩, ⟨1, 1, .ro, .none, 1, []⟩, ⟨8, 8, .ro, .none, 64, []⟩, ⟨16, 8, .ro, .none, 8, []⟩, ⟨24, 13, .ro, .none, 0, []⟩, ⟨37, 13, .ro, .none, 0, []⟩]⟩,
  ⟨"CMP_DICTA", 0x16000100, [(0x10, 256)], [⟨0, 32, .rw, .fenced, 0, []⟩, ⟨32, 17, .rw, .fenced, 0, [(0, 65536)]⟩]⟩,
  ⟨"CMP_DICTB", 0x16000108, [(0x10, 256)], [⟨0, 48, .rw, .fenced, 0, []⟩, ⟨48, 16, .ro, .none, 0, []⟩]⟩,
  ⟨"CMP_AJOB", 0x16010000, [(0x8, 4096)], [⟨0, 7, .rw, .live, 0, []⟩, ⟨7, 1, .rw, .live, 0, []⟩, ⟨8, 6, .rw, .live, 0, [(16, 63)]⟩, ⟨16, 13, .rw, .live, 16, [(0, 4096)]⟩, ⟨32, 13, .ro, .none, 0, []⟩]⟩,
  ⟨"CMP_CNT0", 0x16000020, [], [⟨0, 48, .ro, .none, 0, []⟩, ⟨48, 16, .ro, .none, 0, []⟩]⟩,
  ⟨"CMP_CNT1", 0x16000028, [], [⟨0, 48, .ro, .none, 0, []⟩, ⟨48, 16, .ro, .none, 0, []⟩]⟩]

/-- The CST registers of the spec. -/
def regTableCST : List RegDef := [
  ⟨"CST_CPATCH", 0xA001000, [(0x40, 80), (0x8, 8)], [⟨0, 14, .rw, .live, 0, []⟩, ⟨16, 14, .rw, .live, 0, []⟩, ⟨30, 1, .rw, .live, 0, []⟩, ⟨31, 1, .rw, .live, 0, []⟩]⟩,
  ⟨"CST_SPATCH", 0xA003000, [(0x8, 16)], [⟨0, 16, .rw, .live, 0, []⟩, ⟨16, 16, .rw, .live, 0, []⟩, ⟨32, 1, .rw, .live, 0, []⟩, ⟨33, 1, .rw, .live, 0, []⟩]⟩,
  ⟨"CST_STATUS", 0xA000000, [], [⟨0, 8, .ro, .none, 0, []⟩, ⟨8, 8, .ro, .none, 0, []⟩, ⟨16, 1, .ro, .none, 0, []⟩, ⟨17, 1, .w1c, .none, 0, []⟩, ⟨18, 1, .w1c, .none, 0, []⟩, ⟨32, 32, .ro, .none, 0, []⟩]⟩,
  ⟨"CST_LOAD", 0xA000008, [], [⟨5, 43, .rw, .live, 0, []⟩, ⟨63, 1, .wo, .live, 0, []⟩]⟩,
  ⟨"CST_MSAVE", 0xA008000, [(0x100, 80), (0x8, 18)], [⟨0, 64, .ro, .none, 0, []⟩]⟩,
  ⟨"CST_SMSAVE", 0xA00E000, [(0x200, 2), (0x8, 34)], [⟨0, 64, .ro, .none, 0, []⟩]⟩]

/-- The DRM registers of the spec. -/
def regTableDRM : List RegDef := [
  ⟨"DRM_CFG", 0xD000000, [], [⟨0, 1, .rw, .live, 1, []⟩, ⟨8, 16, .rw, .staged, 24, [(1, 720)]⟩, ⟨24, 8, .rw, .live, 16, []⟩]⟩,
  ⟨"DRM_COMMIT", 0xD000008, [], [⟨0, 1, .wo, .live, 0, []⟩]⟩,
  ⟨"DRM_STAT", 0xD000010, [], [⟨0, 1, .w1c, .none, 0, []⟩, ⟨1, 1, .ro, .none, 0, []⟩]⟩,
  ⟨"DRM_SSTAT", 0xD000100, [(0x40, 8)], [⟨0, 5, .ro, .none, 31, []⟩, ⟨5, 1, .ro, .none, 0, []⟩, ⟨6, 2, .ro, .none, 2, []⟩, ⟨16, 15, .ro, .none, 16384, []⟩]⟩,
  ⟨"DRM_SCMD", 0xD000108, [(0x40, 8)], [⟨0, 4, .rw, .live, 0, []⟩, ⟨63, 1, .wo, .live, 0, []⟩]⟩,
  ⟨"DRM_SCNT", 0xD000110, [(0x40, 8)], [⟨0, 32, .ro, .none, 0, []⟩, ⟨32, 16, .ro, .none, 0, []⟩, ⟨48, 16, .ro, .none, 0, []⟩]⟩]

/-- The FLT registers of the spec. -/
def regTableFLT : List RegDef := [
  ⟨"FLT_STATUS", 0x3000000, [], [⟨0, 45, .w1c, .none, 0, []⟩]⟩,
  ⟨"FLT_SUMMARY", 0x3000008, [], [⟨0, 3, .ro, .none, 0, []⟩, ⟨3, 1, .ro, .none, 0, []⟩, ⟨4, 1, .w1c, .none, 0, []⟩]⟩,
  ⟨"FLT_CFG", 0x3000010, [], [⟨0, 7, .rw, .live, 0, []⟩, ⟨7, 1, .rw, .live, 0, []⟩, ⟨8, 1, .rw, .live, 0, []⟩, ⟨9, 1, .rw, .live, 0, []⟩, ⟨10, 1, .rw, .live, 0, []⟩]⟩,
  ⟨"FLT_CAP", 0x3000020, [], [⟨0, 1, .w1c, .none, 0, []⟩, ⟨1, 1, .ro, .none, 0, []⟩, ⟨8, 3, .ro, .none, 0, []⟩, ⟨16, 8, .ro, .none, 0, []⟩, ⟨24, 10, .ro, .none, 1023, []⟩, ⟨34, 4, .ro, .none, 15, []⟩, ⟨48, 16, .ro, .none, 0, []⟩]⟩,
  ⟨"FLT_CAPADDR", 0x3000028, [], [⟨0, 64, .ro, .none, 0, []⟩]⟩,
  ⟨"FLT_CAPTIME", 0x3000030, [], [⟨0, 64, .ro, .none, 0, []⟩]⟩,
  ⟨"FLT_SRC", 0x3001000, [(0x10, 45)], [⟨0, 3, .ro, .none, 0, []⟩, ⟨3, 13, .rw, .live, 0, []⟩, ⟨16, 16, .rw, .live, 0, [(1, 65535)]⟩, ⟨32, 16, .ro, .none, 0, []⟩, ⟨48, 10, .ro, .none, 1023, []⟩]⟩,
  ⟨"FLT_SRCADDR", 0x3001008, [(0x10, 45)], [⟨0, 64, .ro, .none, 0, []⟩]⟩]

/-- The HRC registers of the spec. -/
def regTableHRC : List RegDef := [
  ⟨"HRC_STAT", 0x2000000, [], [⟨0, 1, .ro, .none, 0, []⟩, ⟨1, 1, .ro, .none, 0, []⟩, ⟨2, 1, .ro, .none, 0, []⟩, ⟨3, 1, .w1c, .none, 0, []⟩, ⟨4, 1, .ro, .none, 0, []⟩, ⟨5, 1, .ro, .none, 0, []⟩, ⟨6, 1, .ro, .none, 0, []⟩]⟩,
  ⟨"HRC_ENUM", 0x2000040, [], [⟨0, 8, .ro, .none, 0, []⟩, ⟨8, 1, .ro, .none, 0, []⟩, ⟨9, 1, .ro, .none, 0, []⟩, ⟨10, 1, .ro, .none, 0, []⟩, ⟨16, 8, .ro, .none, 0, []⟩, ⟨32, 32, .ro, .none, 0, []⟩]⟩,
  ⟨"HRC_TIME", 0x2000048, [], [⟨0, 64, .ro, .none, 0, []⟩]⟩,
  ⟨"HRC_CNT", 0x2000050, [], [⟨0, 16, .ro, .none, 0, []⟩, ⟨16, 16, .ro, .none, 0, []⟩, ⟨32, 16, .ro, .none, 0, []⟩, ⟨48, 16, .ro, .none, 0, []⟩]⟩,
  ⟨"HRC_MBOX", 0x2001000, [(0x8, 80)], [⟨0, 56, .ro, .none, 0, []⟩, ⟨63, 1, .w1c, .none, 0, []⟩]⟩]

/-- The HWK registers of the spec. -/
def regTableHWK : List RegDef := [
  ⟨"HWK_ID", 0x0, [], [⟨0, 16, .ro, .none, 29312, []⟩, ⟨16, 8, .ro, .none, 176, []⟩, ⟨24, 1, .ro, .none, 0, []⟩]⟩,
  ⟨"HWK_SSTAT", 0x100, [], [⟨0, 3, .ro, .none, 0, []⟩, ⟨3, 1, .ro, .none, 0, []⟩, ⟨4, 1, .ro, .none, 0, []⟩, ⟨5, 1, .w1c, .none, 0, []⟩, ⟨8, 4, .ro, .none, 0, []⟩, ⟨12, 4, .ro, .none, 0, []⟩, ⟨16, 2, .ro, .none, 0, []⟩, ⟨18, 2, .ro, .none, 0, []⟩, ⟨24, 8, .ro, .none, 255, []⟩, ⟨32, 8, .ro, .none, 0, []⟩]⟩,
  ⟨"HWK_STIME", 0x108, [], [⟨0, 32, .ro, .none, 0, []⟩, ⟨32, 32, .ro, .none, 0, []⟩]⟩,
  ⟨"HWK_SCMD", 0x110, [], [⟨0, 2, .rw, .live, 0, []⟩, ⟨63, 1, .wo, .live, 0, []⟩]⟩,
  ⟨"HWK_SCFG", 0x118, [], [⟨0, 1, .rw, .live, 0, []⟩]⟩,
  ⟨"HWK_LMASK", 0x120, [(0x8, 4)], [⟨0, 64, .rw, .live, 0xFFFFFFFFFFFFFFFF, []⟩]⟩]

/-- The LCS registers of the spec. -/
def regTableLCS : List RegDef := [
  ⟨"LCS_STAT", 0x6000000, [], [⟨0, 3, .ro, .none, 0, []⟩, ⟨3, 1, .ro, .none, 0, []⟩, ⟨4, 1, .ro, .none, 0, []⟩, ⟨5, 1, .w1c, .none, 0, []⟩, ⟨6, 1, .w1c, .none, 0, []⟩, ⟨8, 8, .ro, .none, 0, []⟩]⟩,
  ⟨"LCS_CMD", 0x6000008, [], [⟨0, 3, .rw, .live, 0, []⟩, ⟨63, 1, .wo, .live, 0, []⟩]⟩,
  ⟨"LCS_FCMD", 0x6000010, [], [⟨0, 3, .rw, .live, 0, []⟩, ⟨8, 3, .rw, .live, 0, []⟩, ⟨16, 2, .rw, .live, 0, []⟩, ⟨32, 16, .rw, .live, 0, []⟩, ⟨63, 1, .wo, .live, 0, []⟩]⟩,
  ⟨"LCS_FARG", 0x6000018, [], [⟨6, 42, .rw, .live, 0, []⟩]⟩,
  ⟨"LCS_FSTAT", 0x6000020, [], [⟨0, 1, .ro, .none, 0, []⟩, ⟨1, 1, .ro, .none, 0, []⟩, ⟨2, 4, .ro, .none, 0, []⟩, ⟨6, 1, .ro, .none, 0, []⟩, ⟨7, 1, .w1c, .none, 0, []⟩, ⟨8, 8, .ro, .none, 0, []⟩]⟩,
  ⟨"LCS_SVN", 0x6000028, [], [⟨0, 16, .ro, .none, 0, []⟩, ⟨16, 16, .ro, .none, 0, []⟩, ⟨32, 16, .ro, .none, 0, []⟩, ⟨48, 16, .ro, .none, 0, []⟩]⟩]

/-- The LEV registers of the spec. -/
def regTableLEV : List RegDef := [
  ⟨"LEV_PCEIL", 0x5000100, [], [⟨0, 12, .ro, .none, 2200, []⟩]⟩,
  ⟨"LEV_PLIMIT", 0x5000108, [], [⟨0, 12, .rw, .live, 2200, []⟩]⟩,
  ⟨"LEV_PSTAT", 0x5000110, [], [⟨0, 12, .ro, .none, 0, []⟩, ⟨12, 12, .ro, .none, 0, []⟩, ⟨24, 3, .ro, .none, 0, []⟩, ⟨27, 1, .ro, .none, 0, []⟩, ⟨32, 10, .ro, .none, 0, []⟩]⟩,
  ⟨"LEV_PCNT", 0x5000118, [], [⟨0, 32, .ro, .none, 0, []⟩, ⟨32, 16, .ro, .none, 0, []⟩, ⟨48, 16, .ro, .none, 0, []⟩]⟩,
  ⟨"LEV_TSTAT", 0x5000200, [], [⟨0, 8, .ro, .none, 0, []⟩, ⟨8, 8, .ro, .none, 0, []⟩, ⟨16, 8, .ro, .none, 0, []⟩, ⟨24, 1, .ro, .none, 0, []⟩]⟩]

/-- The LGR registers of the spec. -/
def regTableLGR : List RegDef := [
  ⟨"LGR_CFG", 0x12000000, [], [⟨0, 23, .rw, .live, 65536, []⟩]⟩,
  ⟨"LGR_STAT", 0x12000008, [], [⟨0, 23, .ro, .none, 0, []⟩, ⟨23, 1, .w1c, .none, 0, []⟩, ⟨24, 2, .ro, .none, 0, []⟩, ⟨26, 1, .ro, .none, 0, []⟩]⟩,
  ⟨"LGR_CNT0", 0x12000010, [], [⟨0, 32, .ro, .none, 0, []⟩, ⟨32, 32, .ro, .none, 0, []⟩]⟩,
  ⟨"LGR_CNT1", 0x12000018, [], [⟨0, 32, .ro, .none, 0, []⟩, ⟨32, 16, .ro, .none, 0, []⟩, ⟨48, 16, .ro, .none, 0, []⟩]⟩,
  ⟨"LGR_RD", 0x12000100, [], [⟨0, 22, .rw, .live, 0, []⟩, ⟨63, 1, .wo, .live, 0, []⟩]⟩,
  ⟨"LGR_RDSTAT", 0x12000108, [], [⟨0, 1, .ro, .none, 0, []⟩, ⟨1, 1, .w1c, .none, 0, []⟩, ⟨2, 2, .ro, .none, 0, []⟩]⟩,
  ⟨"LGR_RDATA", 0x12000140, [(0x8, 8)], [⟨0, 64, .ro, .none, 0, []⟩]⟩]

/-- The LNK registers of the spec. -/
def regTableLNK : List RegDef := [
  ⟨"LNK_CTL", 0x10000000, [(0x10000, 256)], [⟨0, 1, .rw, .live, 0, []⟩, ⟨1, 1, .wo, .live, 0, []⟩, ⟨2, 1, .wo, .live, 0, []⟩, ⟨4, 1, .rw, .fenced, 0, []⟩, ⟨5, 1, .rw, .fenced, 0, []⟩, ⟨16, 16, .rw, .fenced, 34998, [(1536, 65535)]⟩, ⟨32, 12, .rw, .fenced, 0, []⟩, ⟨44, 3, .rw, .fenced, 0, []⟩]⟩,
  ⟨"LNK_CFG", 0x10000008, [(0x10000, 256)], [⟨0, 16, .rw, .live, 1250, [(1, 65535)]⟩, ⟨16, 16, .rw, .live, 625, [(313, 65535)]⟩, ⟨32, 4, .rw, .live, 8, [(1, 15)]⟩, ⟨36, 4, .rw, .live, 3, [(1, 15)]⟩]⟩,
  ⟨"LNK_RXBUF", 0x10000010, [(0x10000, 256)], [⟨0, 16, .rw, .fenced, 64, []⟩, ⟨16, 16, .rw, .fenced, 256, []⟩, ⟨32, 16, .rw, .fenced, 512, []⟩, ⟨48, 16, .rw, .fenced, 192, []⟩]⟩,
  ⟨"LNK_DMAC", 0x10000018, [(0x10000, 256)], [⟨0, 48, .rw, .fenced, 0, []⟩]⟩,
  ⟨"LNK_SMAC", 0x10000020, [(0x10000, 256)], [⟨0, 48, .rw, .fenced, 0, []⟩]⟩,
  ⟨"LNK_STAT", 0x10000028, [(0x10000, 256)], [⟨0, 4, .ro, .none, 0, []⟩, ⟨4, 1, .ro, .none, 0, []⟩, ⟨5, 1, .w1c, .none, 0, []⟩, ⟨6, 1, .w1c, .none, 0, []⟩, ⟨8, 9, .ro, .none, 0, []⟩, ⟨17, 3, .ro, .none, 0, []⟩, ⟨20, 4, .ro, .none, 0, []⟩, ⟨24, 8, .ro, .none, 0, []⟩, ⟨32, 32, .ro, .none, 0, []⟩]⟩,
  ⟨"LNK_CNT0", 0x10000030, [(0x10000, 256)], [⟨0, 32, .ro, .none, 0, []⟩, ⟨32, 32, .ro, .none, 0, []⟩]⟩,
  ⟨"LNK_CNT1", 0x10000038, [(0x10000, 256)], [⟨0, 16, .ro, .none, 0, []⟩, ⟨16, 16, .ro, .none, 0, []⟩, ⟨32, 16, .ro, .none, 0, []⟩, ⟨48, 16, .ro, .none, 0, []⟩]⟩,
  ⟨"LNK_PSTAT", 0x10000800, [(0x10000, 256)], [⟨0, 2, .ro, .none, 0, []⟩, ⟨2, 1, .ro, .none, 0, []⟩, ⟨3, 1, .w1c, .none, 0, []⟩, ⟨8, 8, .ro, .none, 0, []⟩, ⟨16, 9, .ro, .none, 0, []⟩]⟩,
  ⟨"LNK_PSTAT", 0xF000800, [(0x10000, 32)], [⟨0, 2, .ro, .none, 0, []⟩, ⟨2, 1, .ro, .none, 0, []⟩, ⟨3, 1, .w1c, .none, 0, []⟩, ⟨8, 8, .ro, .none, 0, []⟩, ⟨16, 9, .ro, .none, 0, []⟩]⟩,
  ⟨"LNK_PCNT", 0x10000808, [(0x10000, 256)], [⟨0, 32, .ro, .none, 0, []⟩, ⟨32, 16, .ro, .none, 0, []⟩, ⟨48, 16, .ro, .none, 0, []⟩]⟩,
  ⟨"LNK_PCNT", 0xF000808, [(0x10000, 32)], [⟨0, 32, .ro, .none, 0, []⟩, ⟨32, 16, .ro, .none, 0, []⟩, ⟨48, 16, .ro, .none, 0, []⟩]⟩,
  ⟨"LNK_SPCFG", 0xF000810, [(0x10000, 32)], [⟨0, 8, .rw, .fenced, 0, []⟩]⟩]

/-- The SES registers of the spec. -/
def regTableSES : List RegDef := [
  ⟨"SES_CMD", 0x13000000, [], [⟨0, 18, .rw, .live, 0, []⟩, ⟨20, 3, .rw, .live, 0, []⟩, ⟨63, 1, .wo, .live, 0, []⟩]⟩,
  ⟨"SES_CMDARG", 0x13000008, [], [⟨0, 48, .rw, .live, 0, []⟩]⟩,
  ⟨"SES_CMDSTAT", 0x13000010, [], [⟨0, 1, .ro, .none, 0, []⟩, ⟨1, 1, .w1c, .none, 0, []⟩, ⟨8, 8, .ro, .none, 0, []⟩]⟩,
  ⟨"SES_CFG", 0x13000018, [], [⟨0, 1, .rw, .live, 0, []⟩, ⟨1, 1, .rw, .live, 0, []⟩, ⟨8, 16, .rw, .live, 938, [(157, 65535)]⟩, ⟨24, 8, .rw, .live, 100, [(1, 255)]⟩, ⟨34, 23, .rw, .fenced, 0, []⟩]⟩,
  ⟨"SES_STAT", 0x13000020, [], [⟨0, 1, .ro, .none, 0, []⟩, ⟨1, 1, .w1c, .none, 0, []⟩, ⟨2, 1, .w1c, .none, 0, []⟩, ⟨32, 19, .ro, .none, 0, []⟩]⟩,
  ⟨"SES_CNT", 0x13000028, [], [⟨0, 16, .ro, .none, 0, []⟩, ⟨16, 16, .ro, .none, 0, []⟩, ⟨32, 16, .ro, .none, 0, []⟩, ⟨48, 16, .ro, .none, 0, []⟩]⟩,
  ⟨"SES_LCNT", 0x13001000, [(0x8, 256)], [⟨0, 13, .ro, .none, 0, []⟩, ⟨16, 13, .ro, .none, 0, []⟩, ⟨32, 16, .ro, .none, 0, []⟩]⟩]

/-- The SLU registers of the spec. -/
def regTableSLU : List RegDef := [
  ⟨"SLU_CFG", 0x11000000, [], [⟨0, 1, .rw, .live, 1, []⟩, ⟨8, 8, .rw, .staged, 24, [(1, 168)]⟩]⟩,
  ⟨"SLU_COMMIT", 0x11000008, [], [⟨0, 1, .wo, .live, 0, []⟩]⟩,
  ⟨"SLU_CMD", 0x11000010, [], [⟨0, 2, .rw, .live, 0, []⟩, ⟨63, 1, .wo, .live, 0, []⟩]⟩,
  ⟨"SLU_STAT", 0x11000018, [], [⟨0, 2, .ro, .none, 2, []⟩, ⟨2, 3, .ro, .none, 0, []⟩, ⟨5, 3, .ro, .none, 0, []⟩, ⟨8, 1, .ro, .none, 0, []⟩, ⟨9, 1, .w1c, .none, 0, []⟩, ⟨10, 1, .w1c, .none, 0, []⟩, ⟨11, 1, .ro, .none, 0, []⟩, ⟨12, 4, .ro, .none, 0, []⟩, ⟨16, 8, .ro, .none, 0, []⟩, ⟨24, 16, .ro, .none, 0, []⟩]⟩,
  ⟨"SLU_LEASE", 0x11000020, [], [⟨0, 10, .ro, .none, 0, []⟩, ⟨10, 1, .ro, .none, 0, []⟩, ⟨11, 1, .ro, .none, 0, []⟩, ⟨12, 1, .ro, .none, 0, []⟩]⟩,
  ⟨"SLU_OSEQ", 0x11000028, [], [⟨0, 64, .ro, .none, 0, []⟩]⟩,
  ⟨"SLU_CNT", 0x11000030, [], [⟨0, 16, .ro, .none, 0, []⟩, ⟨16, 16, .ro, .none, 0, []⟩, ⟨32, 16, .ro, .none, 0, []⟩, ⟨48, 16, .ro, .none, 0, []⟩]⟩,
  ⟨"SLU_SUPP", 0x11000038, [], [⟨0, 32, .ro, .none, 0, []⟩]⟩]

/-- The SPR registers of the spec. -/
def regTableSPR : List RegDef := [
  ⟨"SPR_CFG", 0x4000000, [], [⟨0, 17, .rw, .live, 40000, [(1000, 100000)]⟩, ⟨24, 8, .rw, .live, 12, []⟩, ⟨32, 11, .rw, .live, 768, [(1, 1024)]⟩, ⟨48, 7, .rw, .live, 0, []⟩, ⟨55, 1, .rw, .live, 0, []⟩]⟩,
  ⟨"SPR_REQ", 0x4000008, [], [⟨0, 1, .ro, .none, 0, []⟩, ⟨1, 7, .ro, .none, 0, []⟩, ⟨8, 3, .ro, .none, 0, []⟩]⟩,
  ⟨"SPR_CMD", 0x4000010, [], [⟨0, 2, .rw, .live, 0, []⟩, ⟨2, 7, .rw, .live, 0, []⟩, ⟨63, 1, .wo, .live, 0, []⟩]⟩,
  ⟨"SPR_STAT", 0x4000018, [], [⟨0, 1, .ro, .none, 0, []⟩, ⟨1, 1, .w1c, .none, 0, []⟩, ⟨2, 1, .w1c, .none, 0, []⟩, ⟨8, 8, .ro, .none, 0, []⟩]⟩,
  ⟨"SPR_LEFT", 0x4000020, [], [⟨0, 8, .ro, .none, 0, []⟩, ⟨8, 6, .ro, .none, 32, []⟩, ⟨14, 3, .ro, .none, 4, []⟩, ⟨17, 6, .ro, .none, 32, []⟩, ⟨23, 4, .ro, .none, 8, []⟩, ⟨27, 8, .ro, .none, 255, []⟩, ⟨35, 1, .ro, .none, 1, []⟩, ⟨36, 1, .ro, .none, 1, []⟩]⟩,
  ⟨"SPR_RSTAT", 0x4000028, [], [⟨0, 19, .ro, .none, 0, []⟩, ⟨19, 1, .ro, .none, 0, []⟩]⟩,
  ⟨"SPR_CWEAR", 0x4000400, [(0x8, 80)], [⟨0, 17, .ro, .none, 0, []⟩, ⟨17, 1, .ro, .none, 0, []⟩]⟩,
  ⟨"SPR_IWEAR", 0x4000800, [(0x8, 18)], [⟨0, 17, .ro, .none, 0, []⟩, ⟨17, 1, .ro, .none, 0, []⟩]⟩]

/-- The STA registers of the spec. -/
def regTableSTA : List RegDef := [
  ⟨"STA_ROT", 0x7000000, [], [⟨0, 22, .rw, .live, 1000, [(1, 3600000)]⟩, ⟨24, 40, .rw, .live, 0, []⟩]⟩,
  ⟨"STA_STAT", 0x7000008, [], [⟨0, 32, .ro, .none, 0, []⟩, ⟨32, 1, .ro, .none, 0, []⟩, ⟨33, 1, .w1c, .none, 0, []⟩, ⟨34, 1, .w1c, .none, 0, []⟩]⟩,
  ⟨"STA_MARK", 0x7000010, [], [⟨0, 64, .ro, .none, 0, []⟩]⟩,
  ⟨"STA_LATCH", 0x7400000, [(0x80000, 24), (0x20, 4096), (0x8, 4)], [⟨0, 64, .ro, .none, 0, []⟩]⟩]

/-- The TWN registers of the spec. -/
def regTableTWN : List RegDef := [
  ⟨"TWN_CSTATE", 0x9000800, [(0x8, 80)], [⟨0, 3, .ro, .none, 0, []⟩, ⟨8, 6, .ro, .none, 0, []⟩, ⟨14, 2, .ro, .none, 0, []⟩]⟩,
  ⟨"TWN_GCFG", 0x9001000, [(0x40, 36)], [⟨0, 7, .ro, .none, 127, []⟩, ⟨8, 7, .ro, .none, 127, []⟩, ⟨16, 7, .ro, .none, 127, []⟩, ⟨24, 2, .ro, .none, 0, []⟩, ⟨26, 1, .rw, .live, 0, []⟩, ⟨32, 8, .ro, .none, 255, []⟩]⟩,
  ⟨"TWN_CMD", 0x9000000, [], [⟨0, 6, .rw, .live, 0, []⟩, ⟨8, 3, .rw, .live, 0, []⟩, ⟨12, 7, .rw, .live, 0, []⟩, ⟨20, 7, .rw, .live, 0, []⟩, ⟨63, 1, .wo, .live, 0, []⟩]⟩,
  ⟨"TWN_CMDARG", 0x9000008, [], [⟨0, 64, .rw, .live, 0, []⟩]⟩,
  ⟨"TWN_CMDSTAT", 0x9000010, [], [⟨0, 1, .ro, .none, 0, []⟩, ⟨1, 1, .w1c, .none, 0, []⟩, ⟨2, 1, .w1c, .none, 0, []⟩, ⟨8, 8, .ro, .none, 0, []⟩]⟩,
  ⟨"TWN_CFG", 0x9000018, [], [⟨0, 7, .rw, .live, 0, []⟩, ⟨7, 1, .rw, .live, 0, []⟩]⟩,
  ⟨"TWN_GSTAT", 0x9001008, [(0x40, 36)], [⟨0, 3, .ro, .none, 0, []⟩, ⟨3, 1, .ro, .none, 0, []⟩, ⟨4, 1, .w1c, .none, 0, []⟩]⟩,
  ⟨"TWN_GCNT", 0x9001010, [(0x40, 36)], [⟨0, 16, .ro, .none, 0, []⟩, ⟨16, 16, .ro, .none, 0, []⟩, ⟨32, 16, .ro, .none, 0, []⟩, ⟨48, 16, .ro, .none, 0, []⟩]⟩]

/-- The XLT registers of the spec. -/
def regTableXLT : List RegDef := [
  ⟨"XLT_GREACH", 0xC000000, [(0x200, 80), (0x8, 16)], [⟨0, 2, .rw, .live, 0, []⟩, ⟨2, 6, .rw, .live, 0, []⟩, ⟨8, 56, .rw, .live, 0, []⟩]⟩,
  ⟨"XLT_HREACH", 0xC000080, [(0x200, 80), (0x8, 16)], [⟨0, 2, .rw, .live, 0, []⟩, ⟨2, 6, .rw, .live, 0, []⟩, ⟨8, 56, .rw, .live, 0, []⟩]⟩,
  ⟨"XLT_CTX", 0xC000100, [(0x200, 80)], [⟨0, 1, .rw, .live, 0, []⟩]⟩,
  ⟨"XLT_STAT", 0xC000108, [(0x200, 80)], [⟨0, 1, .w1c, .none, 0, []⟩]⟩,
  ⟨"XLT_CNT", 0xC000110, [(0x200, 80)], [⟨0, 32, .ro, .none, 0, []⟩, ⟨32, 16, .ro, .none, 0, []⟩, ⟨48, 16, .ro, .none, 0, []⟩]⟩]

/-- Every register table of the spec but those of the core's own ports. -/
def regTable : List RegDef :=
  regTableALT ++ regTableCAC ++ regTableCIP ++ regTableCIS ++ regTableCLK ++ regTableCMP ++ regTableCST ++ regTableDRM ++ regTableFLT ++ regTableHRC ++ regTableHWK ++ regTableLCS ++ regTableLEV ++ regTableLGR ++ regTableLNK ++ regTableSES ++ regTableSLU ++ regTableSPR ++ regTableSTA ++ regTableTWN ++ regTableXLT

/-- The instance numbers of an offset from a register's first address, if the offset is one of its instances. -/
def dimIndex : List (Nat × Nat) → Nat → Option (List Nat)
  | [], 0 => some []
  | [], _ + 1 => none
  | (st, n) :: ds, off =>
    if off / st < n then (dimIndex ds (off % st)).map (off / st :: ·) else none

/-- The register at an address of the CSR space, with its instance numbers. -/
def RegDef.index (r : RegDef) (a : Nat) : Option (List Nat) :=
  if r.base ≤ a then dimIndex r.dims (a - r.base) else none

/-- The register table row of an address, if one is assigned there (R18). -/
def findReg (a : Nat) : Option (RegDef × List Nat) :=
  regTable.findSome? (fun r => (r.index a).map (fun i => (r, i)))

/-- The word the fields' reset values make. -/
def resetWord (fs : List FieldDef) : Word :=
  fs.foldl (fun x f => f.fld.set x f.reset) 0

/-- Master mask of each cistern bank at reset (R236, R237). -/
def cisMaskReset (bank : Nat) : Nat :=
  if bank < 8 then 2 ^ bank else if bank = 15 then 0x100 else if bank = 14 || bank = 8 || bank = 9 then 0x400 else 0

/-- Thresholds of the fault sources at reset, by bit number (R443): N, or 0, with the window in ms. -/
def fltThreshReset : Nat → Nat × Nat
  | 0 | 1 | 2 => (16, 1000)
  | 3 => (64, 1000)
  | 4 => (256, 1000)
  | 5 => (4, 60000)
  | 8 => (16, 1000)
  | 9 => (64, 1000)
  | 10 | 11 => (16, 1000)
  | 12 => (4096, 1000)
  | 13 => (16, 1000)
  | 15 | 17 => (256, 1000)
  | 18 => (16, 1000)
  | 21 | 22 | 23 => (16, 1000)
  | 29 => (8, 60000)
  | 30 => (4, 60000)
  | 33 => (16, 1000)
  | 34 => (256, 1000)
  | 35 => (16, 1000)
  | 38 => (16, 1000)
  | _ => (0, 1000)

/-- Full-service PLL frequency of each island in MHz (R379). -/
def islandFreq : Nat → Nat
  | 8 => 2300
  | 9 => 2000
  | 10 => 1660
  | 11 => 1660
  | 12 => 2000
  | 13 => 2500
  | 14 => 2000
  | 15 => 2000
  | 16 => 1000
  | 17 => 0
  | _ => 4600

/-- The part of a register's reset value that its instance decides. -/
def instReset (name : String) (idx : List Nat) : Option (List (Fld × Nat)) :=
  match name, idx with
  | "TWN_CSTATE", [c] => some [(Csr.TWN_CSTATE.ROLE, if c % 10 = 9 then 3 else 0)]
  | "CIS_BCTL", [b] => some [(Csr.CIS_BCTL.MASK, cisMaskReset b)]
  | "LNK_STAT", [l] => some [(Csr.LNK_STAT.LANE, l)]
  | "CLK_ICTL", [n] => some [(Csr.CLK_ICTL.FREQ, islandFreq n)]
  | "FLT_SRC", [n] => some [(Csr.FLT_SRC.THRESH_N, (fltThreshReset n).1),
      (Csr.FLT_SRC.WINDOW_MS, (fltThreshReset n).2)]
  | "ALT_ASTAT", [a] => some [(Csr.ALT_ASTAT.STATE, if a = 0 then 1 else 0)]
  | "ALT_SHARE", [a] => some [(Csr.ALT_SHARE.WEIGHT, if a = 0 then 64 else 0),
      (Csr.ALT_SHARE.QLIMIT, if a = 0 then 65536 else 0)]
  | "CMP_AJOB", [a] => some [(Csr.CMP_AJOB.JOBMAX, if a = 0 then 4096 else 16)]
  | "SPR_LEFT", _ => some [(Csr.SPR_LEFT.CORES, 0xFF)]
  | _, _ => none

/-- What a CSR reads as before anything writes it: the Reset column of its table, and 0 where none is assigned. -/
def csrReset (a : Nat) : Word :=
  match findReg a with
  | none => 0
  | some (r, idx) =>
    ((instReset r.name idx).getD []).foldl (fun x f => f.1.set x f.2)
      (if r.name = "LNK_PSTAT" then
        Csr.LNK_PSTAT.CARRIES.set (resetWord r.fields) (if r.base = 0x10000800 then idx.headD 0 else 0x1FF)
       else resetWord r.fields)

end Sys2Proof.Machine
end

