-- ==== Sys2Proof/Machine/CoreTypes.lean ====
section
/-!
DEFINITION. The state of one Bolnus core and of one group, as plain data (02, 03, 05, 06, 07, 08).
-/

namespace Sys2Proof.Machine
open Sys2Proof

/-- The architected state of a core: what a checkpoint copies and a frame saves (R118, R151). -/
structure Arch where
  /-- Every port that holds a value, by port address; an unlisted port holds its reset value. -/
  ports : Table Word
  /-- Interlocked ports whose data is poisoned (R118 POISON). -/
  poison : List Nat
  /-- Iterations of the repeat in progress not yet started, the current one included (R52). -/
  rep : Nat
  /-- status.REP (R52). -/
  repOn : Bool
deriving DecidableEq, Repr

/-- A fixed-latency operation in flight (R64-R66). -/
structure Op where
  /-- The path it occupies, by number: the unit's base port, plus 1 for the divide path of an fpu. -/
  path : Nat
  /-- The trigger port. -/
  port : Nat
  /-- The address of the triggering bundle. -/
  bundle : Word
  /-- The cc of the trigger (R64). -/
  issued : Nat
  /-- The cc of the completion. -/
  due : Nat
  /-- The ports it writes at completion, with their values. -/
  writes : List (Nat × Word)
  /-- The sticky status bits it sets at completion. -/
  flags : Word
  /-- The completion trap it raises: cause and detail (R69). -/
  trap : Option (Nat × Nat)
  /-- The issue distance from which a group member's reads see its results, 0 for any other core (R154). -/
  seen : Nat
  /-- The physical address of poisoned data that its result is (R85, R128). -/
  poison : Option Nat
deriving DecidableEq, Repr

/-- An outstanding result of an interlocked port (R70). -/
structure Await where
  /-- The port. -/
  port : Nat
  /-- What the port gets. -/
  value : Word
  /-- The data is poisoned. -/
  poison : Bool
  /-- The physical address the data comes from, for a DATA machine check (R128). -/
  addr : Nat
deriving DecidableEq, Repr

/-- An output waiting to be performed, in program order: a store of the store buffer (R71, R78), or an entry that
confirmation released; `typ` as in an output record (R151): 1 store, 2 lateral write, 3 DEVICE store, 4 ipi, 5 timer
or ipend write, 6 boundary request. A zeroed line is a store of width 256 (R187). -/
structure StoreEnt where
  /-- The kind of output. -/
  typ : Nat
  /-- Its address, or the port it writes. -/
  addr : Nat
  /-- Its width in bytes. -/
  width : Nat
  /-- Its data. -/
  data : Word
  /-- The last lateral write of its bundle's group (R60). -/
  last : Bool
deriving DecidableEq, Repr

/-- A maintenance operation outstanding (R187, R188). -/
inductive CmOp where
  | clean | flush | inv | zero | pref | iinv
deriving DecidableEq, Repr

/-- An entry of the cm queue (R71): performed already, or in a guarded leading member once the interval `barrier` is
confirmed (R189). -/
structure CmEnt where
  /-- The operation. -/
  op : CmOp
  /-- The line, or the physical address, it names. -/
  line : Nat
  /-- The interval it waits for. -/
  barrier : Nat
deriving DecidableEq, Repr

/-- A fence outstanding (R80): its mask, and of the accesses before it those not yet performed. -/
structure FenceEnt where
  /-- The mask. -/
  mask : Word
  /-- How many outputs at the head of the core's queue are older than the fence. -/
  ahead : Nat
  /-- Older results outstanding. -/
  loads : List Await
  /-- Older maintenance operations outstanding. -/
  cms : List CmEnt
deriving DecidableEq, Repr

/-- A TLB invalidation outstanding (R219, R220): its trigger port, its value and xlt.ctx, and its barrier as for cm. -/
structure InvEnt where
  /-- The trigger port. -/
  port : Nat
  /-- The word moved to it. -/
  b : Word
  /-- xlt.ctx as it was. -/
  ctx : Word
  /-- The interval it waits for. -/
  barrier : Nat
deriving DecidableEq, Repr

/-- The boundary operation a group awaits (R156): its port, address and value, and what else the operation reads: the other
operands, the class and act. -/
structure BoundaryReq where
  /-- The trigger port or register. -/
  port : Nat
  /-- The address, 0 if it has none. -/
  addr : Nat
  /-- The word moved. -/
  b : Word
  /-- The other operands, the class and act. -/
  more : List Word
deriving DecidableEq, Repr

/-- The result of a boundary operation that the checker holds (R156): its words, whether they are poisoned, and whether
the operation failed (a lateral read's timeout, R60). -/
structure HeldRes where
  /-- The low word. -/
  lo : Word
  /-- The high word. -/
  hi : Word
  /-- They are poisoned. -/
  poison : Bool
  /-- The operation failed. -/
  fail : Bool
  /-- Intervals confirmed when it was performed: the members take it in the interval that follows. -/
  epoch : Nat
deriving DecidableEq, Repr

/-- Why a bundle stalls (R60, R70, R71, R79, R80, R149, R156, R188): `line` is a fill that waits for maintenance of its line or
for a way of L2, `device` a member's access behind a DEVICE store not yet performed, `poison` a member that read poison again as its
interval is run again and waits for the others (R161). -/
inductive Stall where
  | walk (va : Word) (kind : AccKind) (slot : Nat) (port : Nat)
  | storeFull
  | queueFull (port : Nat)
  | port (port : Nat)
  | fence
  | latFence
  | lateral (port : Nat)
  | boundary (req : BoundaryReq)
  | line (line : Nat)
  | device
  | poison (addrs : List Nat)
deriving DecidableEq, Repr

/-- A condition of R114 items 4-11 raised and not yet entered, with the frame words it fixes (R118, R119). -/
structure Exc where
  /-- CAUSE of the frame. -/
  cause : Nat
  /-- Its subcause. -/
  sub : Nat
  /-- The slot that raised it. -/
  slot : Nat
  /-- The port it concerns. -/
  port : Nat
  /-- DADDR. -/
  daddr : Word
  /-- DETAIL. -/
  detail : Word
  /-- What a PORT-TRAP fills into xinfo and xv0-xv7 (R57). -/
  fill : List (Nat × Word)
  /-- A guest access to the CSR range, which the host takes (R20). -/
  toHost : Bool
deriving DecidableEq, Repr

/-- A completion trap arisen and not yet taken (R69, R123). -/
structure CTrap where
  /-- CAUSE of the frame. -/
  cause : Nat
  /-- DETAIL. -/
  detail : Nat
  /-- The trigger port. -/
  port : Nat
  /-- The address of the triggering bundle. -/
  bundle : Word
  /-- When the operation was triggered. -/
  issued : Nat
deriving DecidableEq, Repr

/-- Sub-block states of an L1 line (R173). -/
inductive Sub where
  | i | f | fx | c | d
deriving DecidableEq, Repr

/-- A line of L1I or L1D, or a line in the eviction buffer or the sump: its address and sub-block states. -/
structure L1Line where
  /-- The line number, address / 256. -/
  line : Nat
  /-- The state of each sub-block. -/
  subs : List Sub
deriving DecidableEq, Repr

/-- States of an L2 line; a line in the write-back buffer is W (R174). -/
inductive L2St where
  | i | p | s | e | m | w
deriving DecidableEq, Repr

/-- A line of L2. -/
structure L2Line where
  /-- The line number. -/
  line : Nat
  /-- Its state. -/
  st : L2St
  /-- One more than the interval that filled it, 0 once that is confirmed (R149). -/
  barred : Nat
deriving DecidableEq, Repr

/-- A line fill outstanding (R173, R188). -/
structure Fill where
  /-- The line. -/
  line : Nat
  /-- The sub-block. -/
  sub : Nat
  /-- For L1I, not L1D. -/
  icache : Bool
  /-- Fetched into L2 only (next-line prefetch, R184). -/
  l2only : Bool
  /-- Met by maintenance or an invalidation: its data goes to the requester only and installs as I (R174, R177, R188). -/
  dead : Bool
deriving DecidableEq, Repr

/-- A line in the eviction buffer (R177, R178). -/
structure Evict where
  /-- The cc at which it enters the sump. -/
  due : Nat
  /-- The way it left, which the fill that evicted it took. -/
  way : Nat
  /-- The line. -/
  line : L1Line
deriving DecidableEq, Repr

/-- An entry of a TLB (R209). -/
structure TlbEnt where
  /-- None for the host tag, else the allotment (R199). -/
  tag : Option Nat
  /-- The virtual page number va[47:16], or its group's first page when `group`. -/
  vpage : Nat
  /-- It covers a group of pages. -/
  group : Bool
  /-- The physical page, or the group's first. -/
  page : Nat
  /-- R. -/
  r : Bool
  /-- W. -/
  w : Bool
  /-- X. -/
  x : Bool
  /-- A: accessed. -/
  a : Bool
  /-- Dirty-known mask (R209). -/
  dirty : Nat
  /-- Referenced since replacement last cleared it (not-recently-used). -/
  used : Bool
deriving DecidableEq, Repr

/-- A stream of the stride prefetcher (R185). -/
structure Stream where
  /-- The bundle and slot that it follows. -/
  key : Word
  /-- The last address. -/
  last : Word
  /-- The stride. -/
  stride : Int
  /-- How often the stride repeated. -/
  runs : Nat
deriving DecidableEq, Repr

/-- One core. -/
structure Core where
  /-- What a checkpoint copies and a frame saves. -/
  arch : Arch
  /-- Core cycle count since reset (R11, R41). -/
  cc : Nat
  /-- Bundles and bubbles issued (R154). -/
  dist : Nat
  /-- Fixed-latency operations in flight (R64-R66). -/
  inflight : List Op
  /-- Results of a group member that are complete and that its reads do not see yet, in the order in which they will: the issue
  distance from which they do, and the ports written (R154). -/
  hidden : List (Nat × List (Nat × Word))
  /-- Completion traps arisen and not taken (R69, R123). -/
  ctraps : List CTrap
  /-- Completion traps held while handlers run, by the class and depth of the frame that holds them (R123). -/
  held : List (Bool × Nat × List CTrap)
  /-- Outstanding results of interlocked ports (R70). -/
  awaits : List Await
  /-- Outputs that wait to be performed: the store buffer, or the write queue of a headworks core (R71, R78, R86). -/
  sb : List StoreEnt
  /-- Fences outstanding, oldest first (R80, R85). -/
  fences : List FenceEnt
  /-- TLB invalidations outstanding (R219). -/
  invq : List InvEnt
  /-- The cm queue (R71). -/
  cmq : List CmEnt
  /-- Why the bundle at pc stalls. -/
  stall : Option Stall
  /-- The slots and source ports that the stalled bundle has read (R38). -/
  reads : List (Nat × Nat)
  /-- Results that the checker of its former group held for the bundle at pc (R156). -/
  kept : Table HeldRes
  /-- A synchronous condition raised and not yet entered (R114). -/
  exc : Option Exc
  /-- An ASYNC machine check routed here and not yet taken (R449). -/
  async : Bool
  /-- The core reported failed to its group (R163). -/
  failed : Bool
  /-- SLOTMASK of an emulated resume armed by a trap return (R58). -/
  emu : Option Nat
  /-- Outputs to be performed before the lateral fence outstanding is complete, 0 where none is (R76). -/
  latFence : Nat
  /-- Lateral reads completed for the stalled bundle, by port (R60). -/
  latVal : Table Word
  /-- The cm.t.pref of the stalled bundle is dropped after its walk (R187). -/
  prefGone : Bool
  /-- The result of the walk of the stalled bundle's probe, or the page that the walk of its cm.t.iinv found, with what it was asked
  (R187, R218). -/
  walked : Option (Word × AccKind × Word)
  /-- Lines that cm.t.iinv has named since the last fence with INSN (R80). -/
  iinvd : List Nat
  /-- Outputs to come that its former group had already performed (R160, R164). -/
  skip : Nat
  /-- A trap return waits, its bundle's other slots having taken effect (R121). -/
  returning : Bool
  /-- The physical address that a poisoned port's data came from, where known (R128, R161). -/
  poisonAt : Table Nat
  /-- The I-TLB (R209). -/
  itlb : List TlbEnt
  /-- The D-TLB, by set (R209). -/
  dtlb : Table (List TlbEnt)
  /-- L1I lines by set and way, and their PLRU bits (R171-R173). -/
  l1i : Table L1Line
  /-- PLRU bits of L1I, by set (R176). -/
  l1iPlru : Table Nat
  /-- L1D lines by set and way (R171-R173). -/
  l1d : Table L1Line
  /-- PLRU bits of L1D, by set (R176). -/
  l1dPlru : Table Nat
  /-- Copies of instruction bytes older than memory: stored by this core under an L1I line (R181). -/
  stale : Table Byte
  /-- Lines leaving L1D (R177). -/
  evb : List Evict
  /-- The sump (R177). -/
  sump : List L1Line
  /-- L2 lines by set and way (R174). -/
  l2 : Table L2Line
  /-- PLRU bits of L2, by set (R176). -/
  l2Plru : Table Nat
  /-- The write-back buffer of L2 (R178). -/
  wb : List L2Line
  /-- Line fills outstanding (R173, R188). -/
  fills : List Fill
  /-- The streams of the stride prefetcher, most recent last (R185). -/
  streams : List Stream
  /-- The next L2 line the patrol scrubber reads (R193). -/
  scrub : Nat
  /-- A control-store word read uncorrectable and waits for its restoration (R142). -/
  restoring : Bool
deriving DecidableEq, Repr

/-- What a checkpoint keeps of a core (R150): its architected state, and the completion traps arisen and held (R123). -/
structure Shadow where
  /-- The architected state. -/
  arch : Arch
  /-- Completion traps arisen. -/
  ctraps : List CTrap
  /-- Completion traps held. -/
  held : List (Bool × Nat × List CTrap)
deriving DecidableEq, Repr

/-- One closed, unconfirmed interval of a member (R146, R147, R150). -/
structure Interval where
  /-- Bundles retired in it. -/
  count : Nat
  /-- Traps entered in it. -/
  entries : Nat
  /-- The signature over the state (R151). -/
  sigState : Word
  /-- The signature over the outputs (R151). -/
  sigOut : Word
  /-- The member's outputs in it, in program order. -/
  outs : List StoreEnt
  /-- Recorded asynchronous inputs (R153): twice the bundle count, plus 1 for an interrupt, and the value or line. -/
  inputs : List (Nat × Word)
  /-- NORMAL and SCRATCH load data, forwarded in a second re-run (R157). -/
  loads : List (Word × Bool)
  /-- The closing checkpoint. -/
  shadow : Shadow
  /-- The boundary operation its next bundle requests, the last record of OUT (R156). -/
  request : Option BoundaryReq
deriving DecidableEq, Repr

/-- One member of a group: its open interval and its closed ones, oldest first. -/
structure Member where
  /-- Bundles retired in the open interval (R147). -/
  retired : Nat
  /-- Traps entered in the open interval. -/
  entries : Nat
  /-- Outputs of the open interval, held in the delay registers (R148). -/
  outs : List StoreEnt
  /-- Asynchronous inputs recorded in the open interval (R153). -/
  inputs : List (Nat × Word)
  /-- Load data of the open interval (R157). -/
  loads : List (Word × Bool)
  /-- Closed intervals not yet confirmed, oldest first. -/
  closed : List Interval
  /-- It has taken held boundary results in its open interval (R156). -/
  taken : Bool
  /-- The bundle being issued takes one. -/
  takes : Bool
deriving DecidableEq, Repr

/-- A TWN command that waits for the group's next confirmed checkpoint (R166). -/
inductive TwnCmd where
  | stop
  | split (core : Nat) (addr : Word)
  /-- `bad` comparisons of the copied state fail (R167 step 5). -/
  | triad (core : Nat) (bad : Nat)
  /-- A spare join, which is no command of the host (R164, R167). -/
  | join (core : Nat) (bad : Nat)
deriving DecidableEq, Repr

/-- One group slot's checker state (06). -/
structure Group where
  /-- The members by index. -/
  members : Table Member
  /-- The last confirmed checkpoint, from which a rollback restarts. -/
  shadow : Option Shadow
  /-- Intervals confirmed since the merge. -/
  confirmed : Nat
  /-- Miscompares of the oldest unconfirmed interval (R157). -/
  attempts : Nat
  /-- The oldest interval compared equal and awaits its confirmation (R150 steps 5 and 6). -/
  agreed : Bool
  /-- Entries of the oldest interval already released when its confirmation was revoked (R160). -/
  released : Nat
  /-- The boundary operation the group awaits (R156). -/
  request : Option BoundaryReq
  /-- Results held for the members, by port. -/
  held : Table HeldRes
  /-- The group's copy of tmr0 (R155). -/
  tmr0 : Word
  /-- The group's copy of tmr1 (R155). -/
  tmr1 : Word
  /-- The group's copy of ipend (R155). -/
  ipend : Word
  /-- The outvoted member that is being refreshed (R159). -/
  refresh : Option Nat
  /-- The TWN command that waits for the next confirmed checkpoint (R166). -/
  cmd : Option TwnCmd
  /-- The leading member's recorded inputs that a re-run takes (R157). -/
  pinned : List (Nat × Word)
  /-- Spare joins that the spares manager has started, oldest first (R164). -/
  joining : List Nat
  /-- Writes to reach registers, XLT_CTX and CST_CPATCH of members that wait for the point of R140 and R205, oldest first: the
  interval from which the new value is in force, the CSR, and what it held before. -/
  later : List (Nat × Nat × Word)
  /-- The same of IXCH (R146): the interval, and what it was. -/
  ixch : List (Nat × Bool)
deriving DecidableEq, Repr

/-- A key slot of the strongroom with its metadata (R346). -/
structure KeySlot where
  /-- 0 EMPTY, 1 KEY, 2 LOADING. -/
  state : Nat
  /-- The key, one number for each byte. -/
  key : List Nat
  /-- The GHASH subkey. -/
  h : Nat
  /-- KSIZE: 0 128 bits, 1 192, 2 256. -/
  ksize : Nat
  /-- OWNER: the allotment. -/
  owner : Nat
  /-- USE: the uses it may be put to. -/
  use : Nat
  /-- HMIN: the least hardening. -/
  hmin : Nat
  /-- GEN: how often the slot was loaded or cleared. -/
  gen : Nat
deriving DecidableEq, Repr

/-- What the granules of a basin reservation are doing (R357). -/
inductive BasinPhase where
  | filling
  | releasing (bytes : Nat)
  | wiping
deriving DecidableEq, Repr

/-- A granted reservation of the stilling basin (R355, R356). -/
structure Basin where
  /-- Granules granted. -/
  granules : Nat
  /-- The written extent and its bytes. -/
  data : List Byte
  phase : BasinPhase
deriving DecidableEq, Repr

/-- A DATA frame held for replay (R257), or accepted frame work that waits to be sent (R260). -/
structure TxFrame where
  /-- SEQ. -/
  seq : Nat
  /-- CLASS. -/
  cls : Nat
  /-- The payload. -/
  payload : List Byte
deriving DecidableEq, Repr

/-- A link frame as sent (R254). -/
structure Frame where
  /-- TYPE. -/
  typ : Nat
  /-- SEQ. -/
  seq : Nat
  /-- ACKSEQ. -/
  ackseq : Nat
  /-- ACKV. -/
  ackv : Bool
  /-- CLASS. -/
  cls : Nat
  /-- CRCLS. -/
  crcls : Nat
  /-- CRED. -/
  cred : Nat
  /-- The payload. -/
  payload : List Byte
deriving DecidableEq, Repr

/-- A planned substitution in progress (R253). -/
structure Move where
  /-- The spare lane. -/
  spare : Nat
  /-- The lane it leaves. -/
  old : Nat
  /-- PREPARE was answered. -/
  prepared : Bool
  /-- The spare has locked. -/
  locked : Bool
  /-- COMMIT was sent. -/
  committed : Bool
deriving DecidableEq, Repr

/-- One link's retry and credit state (R254-R261). -/
structure Link where
  /-- Unacknowledged frames, oldest first (R257). -/
  unacked : List TxFrame
  /-- Work accepted and not yet sent. -/
  work : List TxFrame
  /-- The SEQ of the next frame sent. -/
  next : Nat
  /-- The SEQ expected next. -/
  expect : Nat
  /-- Transmit side, per class: the peer's buffer (R260). -/
  buf : List Nat
  /-- Units consumed, per class. -/
  consumed : List Nat
  /-- Units freed, per class. -/
  freed : List Nat
  /-- The last CRED received, per class. -/
  lastCred : List Nat
  /-- Receive side, per class: units freed to the peer since the epoch began. -/
  ownFreed : List Nat
  /-- Units of those reported in a CRED. -/
  reported : List Nat
  /-- The EPOCH of this side (R256). -/
  epoch : Nat
  /-- An INIT of this peer was recorded since OFF. -/
  peerKnown : Bool
  /-- The EPOCH it was recorded with: that of the last INIT acted on in INIT (R256). -/
  peerEpoch : Nat
  /-- In INIT: an INIT was received (R256). -/
  initRx : Bool
  /-- One with SEEN was received. -/
  initSeenRx : Bool
  /-- One with SEEN was sent. -/
  initSeenTx : Bool
  /-- Consecutive replays without an advance (R259). -/
  replays : Nat
  /-- The ACKSEQ of the NAK that started the last replay: none where a timeout did (R259). -/
  nakReplay : Option Nat
  /-- Frames still to be sent again. -/
  replaying : List TxFrame
  /-- The expected SEQ a NAK was sent for (R258). -/
  nakFor : Option Nat
  /-- Frames accepted since the last ACKSEQ sent. -/
  unsent : Nat
  /-- A planned substitution in progress (R253). -/
  move : Option Move
  /-- Frames were discarded since it was last UP: LINK-RESET is due (R256, R299). -/
  lost : Bool
deriving DecidableEq, Repr

/-- A ledger record (R300). -/
structure Rec where
  /-- STATE: 0 FREE to 6 (R300). -/
  state : Nat
  /-- TPV: TPOS is assigned. -/
  tpv : Bool
  /-- PATH: the index of the path its CMD was last sent on. -/
  path : Nat
  /-- ATTEMPT. -/
  attempt : Nat
  /-- WIDX: its index in the furrow. -/
  widx : Nat
  /-- SESSION. -/
  session : Nat
  /-- STATUS. -/
  status : Nat
  /-- UNITSTAT. -/
  unitstat : Nat
  /-- TSEQ. -/
  tseq : Nat
  /-- VER. -/
  ver : Nat
  /-- CMD. -/
  cmd : Nat
  /-- SEALED. -/
  isSealed : Bool
  /-- SQUEEZE. -/
  squeeze : Bool
  /-- UNIT. -/
  unit : Nat
  /-- COUNT. -/
  count : Nat
  /-- ADDR. -/
  addr : Nat
  /-- ORDER. -/
  order : Nat
  /-- TAG. -/
  tag : Nat
  /-- DICT. -/
  dict : Nat
  /-- WIRELEN. -/
  wirelen : Nat
  /-- RESIDUAL. -/
  residual : Nat
  /-- DETAIL. -/
  detail : Nat
  /-- TPOS: its place in the tailrace ring. -/
  tpos : Nat
  /-- NEXT: the next record of its chain. -/
  next : Nat
deriving DecidableEq, Repr

/-- The close of a session in progress (R274). -/
inductive Closing where
  /-- Transactions or doorbell records are still open. -/
  | waiting
  /-- RESET CLOSED sent, RESET-ACK awaited. -/
  | sent
deriving DecidableEq, Repr

/-- A session context (R270, R271, R274). -/
structure Session where
  /-- The state of R270. -/
  state : Nat
  /-- The 64-byte descriptor in force (R273). -/
  desc : List Byte
  /-- WLOG2 as accepted (R274). -/
  wlog2 : Nat
  /-- OPTS as accepted (R274). -/
  opts : Nat
  /-- Links whose paths have answered OPEN with RESULT 0 (R274). -/
  answered : List Nat
  /-- Links whose paths have answered it with another RESULT. -/
  refused : List Nat
  /-- The index of the active path (R295). -/
  active : Nat
  /-- SEPOCH (R271). -/
  sepoch : Nat
  /-- The TSEQ of its first transaction (R283), which no context image keeps: none after a warm start. -/
  isn : Option Nat
  /-- The next TSEQ (R271). -/
  nextTseq : Nat
  /-- The next DSEQ to be consumed (R275). -/
  nextDseq : Nat
  /-- The next DSEQ the bell unit assigns (R275). -/
  bellDseq : Nat
  /-- Last attention sequence accepted (R291). -/
  attn : Nat
  /-- Why it broke (R270). -/
  reason : Nat
  /-- The close in progress (R274). -/
  closing : Option Closing
  /-- The reason of a RESET to send first on the next path that comes UP (R298, R271). -/
  resetDue : Option Nat
  /-- FLOOR as last sent (R288). -/
  floorSent : Nat
  /-- The link the session lost while it had no live path (R298). -/
  stranded : Option Nat
deriving DecidableEq, Repr

/-- An entry waiting to be written to a tailrace ring (R279, R304). -/
inductive TailItem where
  /-- An ended ledger record. -/
  | record (i : Nat)
  /-- A REFUSED, FURROW-ERROR, ATTENTION or SESSION-RESET entry of a session: its producer index once assigned, its
  first word without PHASE, then the other words. -/
  | other (session : Nat) (pos : Option Nat) (w0 w1 w2 w3 : Nat)
deriving DecidableEq, Repr

/-- A transaction's transfer state between TACK and TEND (R285, R286). -/
structure Xfer where
  /-- Next offset of the wire data received. -/
  nextOff : Nat
  /-- Wire bytes held for decompression, or dropped data after a DMA fault (R290, R376). -/
  data : List Byte
  /-- STATUS 0x20, 0x21, 0x30, 0x31 or 0x32 once a buffer access, the key or decompression failed. -/
  bad : Nat
  /-- The DETAIL of that STATUS. -/
  badDetail : Nat
  /-- The TEND received, while data is still missing: result, unitstat, residual, wirelen, detail. -/
  tend : Option (Nat × Nat × Nat × Nat × Nat)
  /-- Decompressed bytes written to the buffer (R376). -/
  filled : Nat
  /-- Spillway links claimed, newest first (R376). -/
  claimed : List Nat
  /-- Its inbound data has been released from the basin, or its decompression has ended (R357, R376). -/
  done : Bool
  /-- RATIO and ABSLIM_MIB of CMP_CFG as they stood when an engine took its job (R372, R378). -/
  ratio : Nat
  abslim : Nat
deriving DecidableEq, Repr

/-- What a compression engine works on (R360). -/
inductive JobRef where
  /-- A core job, by slot (R368). -/
  | core (slot : Nat)
  /-- The outbound data of a transaction, by record, into staging (R375). -/
  | stage (i : Nat)
  /-- The inbound data of a transaction, by record (R376). -/
  | inflate (i : Nat)
deriving DecidableEq, Repr

/-- Where a core job stands (R368, R373). -/
inductive JobPhase where
  | queued
  | running
  | suspended
deriving DecidableEq, Repr

/-- A core job (R368, R369). -/
structure Job where
  /-- The descriptor. -/
  desc : List Byte
  /-- The allotment. -/
  allot : Nat
  /-- The generation of its slot. -/
  gen : Nat
  /-- Where it stands. -/
  phase : JobPhase
  /-- Latched when it first starts: L of R372. -/
  limit : Option Nat
  /-- The whole output of its input. -/
  out : List Byte
  /-- Its final status. -/
  final : Nat
  /-- The input consumed by then. -/
  eaten : Nat
  /-- The bytes of its whole input. -/
  input : Nat
  /-- CORE, IRQ_EN and LINE of its allotment's CMP_AJOB as they stood when it started (R370, R378). -/
  ajob : Nat
  /-- Output bytes written, and the spillway links claimed, newest first. -/
  done : Nat
  /-- Spillway links claimed, newest first. -/
  links : List Nat
deriving DecidableEq, Repr

/-- Where a change of an island stands (R384-R386, R485). -/
inductive ClkPhase where
  /-- Waiting for the stagger of R385. -/
  | waiting
  /-- Stepping down to /16. -/
  | down
  /-- At /16 for one step, to switch the source. -/
  | switching
  /-- At /16, the PLL relocking. -/
  | locking
  /-- Stepping towards the divider requested. -/
  | ramp
  | draining
  | waking
deriving DecidableEq, Repr

/-- A change of an island in progress (R384): the state it goes to (0 RUN to 3 OFF) and came from, the divider it ramps
to and the one it would go back to, the source and frequency it takes, and its RESULT. -/
structure IslandChange where
  /-- Where it stands. -/
  phase : ClkPhase
  /-- The state it goes to. -/
  target : Nat
  /-- The state it came from. -/
  origin : Nat
  /-- The divider it ramps to. -/
  div : Nat
  /-- The divider it would go back to. -/
  back : Nat
  /-- The source it takes. -/
  src : Nat
  /-- The frequency it takes. -/
  freq : Nat
  /-- The PLL relocks on the way. -/
  relock : Bool
  /-- Its RESULT. -/
  result : Nat
deriving DecidableEq, Repr

/-- Where a start stands (R401, R407). -/
inductive StartStage where
  /-- No start is in progress, or it has reached TRICKLE. -/
  | idle
  /-- The trigger has been taken. -/
  | begun
  /-- An image of a TYPE is requested (R410). -/
  | image (typ : Nat)
  /-- A patch image of a TYPE is requested (R410). -/
  | patch (typ : Nat)
  /-- The SLUICE image and the patch images so far are written. -/
  | loaded
deriving DecidableEq, Repr

/-- An image of a start as it comes in (R435): the REQ of its IMAGE-REQ, the bytes staged, whether the LAST frame has
come, and the rejections so far (R138). -/
structure ImageIn where
  /-- REQ of its IMAGE-REQ. -/
  req : Nat
  /-- The bytes staged. -/
  data : List Byte
  /-- The LAST frame has come. -/
  full : Bool
  /-- The rejections so far. -/
  tries : Nat
deriving DecidableEq, Repr

/-- A sluice master (R307-R309). -/
structure Sluice where
  /-- Inputs taken since the start (R307). -/
  inputs : Nat
  /-- OSEQ: outputs computed since the start (R309). -/
  oseq : Nat
  /-- hc since its heartbeat on the ditch ring (R310). -/
  silentRing : Nat
  /-- hc since its heartbeat on the sideband (R310). -/
  silentSide : Nat
  /-- It stopped under R142 or R143, or sent an output out of order (R309). -/
  stopped : Bool
deriving DecidableEq, Repr

/-- The architected state at reset: every element 0 but status.CLASS, which reads 1 (R42, R152). -/
def Arch.reset : Arch := { ports := [(0x8C, 0x10000)], poison := [], rep := 0, repOn := false }

/-- A slot that has never held a key, or was wiped (R349). -/
def KeySlot.empty : KeySlot := ⟨0, [], 0, 0, 0, 0, 0, 0⟩

/-- A link's retry and credit state as OFF clears it (R248). -/
def Link.cleared (epoch : Nat) : Link :=
  { unacked := [], work := [], next := 0, expect := 0, buf := [0, 0, 0, 0], consumed := [0, 0, 0, 0],
    freed := [0, 0, 0, 0], lastCred := [0, 0, 0, 0], ownFreed := [0, 0, 0, 0], reported := [0, 0, 0, 0], epoch := epoch, peerKnown := false, peerEpoch := 0,
    initRx := false, initSeenRx := false, initSeenTx := false, replays := 0, nakReplay := none, replaying := [],
    nakFor := none, unsent := 0, move := none, lost := false }

/-- A session that has never been opened. -/
def Session.closed : Session :=
  { state := 0, desc := List.replicate 64 0, wlog2 := 0, opts := 0, answered := [], refused := [], active := 0, sepoch := 0,
    isn := none, nextTseq := 0, nextDseq := 0, bellDseq := 0, attn := 0, reason := 0, closing := none, resetDue := none,
    floorSent := 0, stranded := none }

/-- A transfer not yet begun. -/
def Xfer.none : Xfer := ⟨0, [], 0, 0, Option.none, 0, [], false, 0, 0⟩

/-- A sluice master at a start. -/
def Sluice.reset : Sluice := ⟨0, 0, 0, 0, false⟩

/-- A core at reset: nothing in flight, caches and TLBs invalid (R62, R115, R194). -/
def Core.reset : Core :=
  { arch := Arch.reset, cc := 0, dist := 0, inflight := [], hidden := [], ctraps := [], held := [], awaits := [], sb := [],
    fences := [], invq := [], cmq := [], stall := none, reads := [], kept := [], exc := none, async := false, failed := false,
    emu := none, latFence := 0, latVal := [], prefGone := false, walked := none, iinvd := [], skip := 0,
    returning := false, poisonAt := [], itlb := [], dtlb := [], l1i := [], l1iPlru := [], l1d := [],
    l1dPlru := [], stale := [], evb := [], sump := [], l2 := [], l2Plru := [], wb := [], fills := [],
    streams := [], scrub := 0, restoring := false }

/-- A member at a fresh checkpoint. -/
def Member.reset : Member := { retired := 0, entries := 0, outs := [], inputs := [], loads := [], closed := [], taken := false, takes := false }

/-- A free group slot. -/
def Group.reset : Group :=
  { members := [], shadow := none, confirmed := 0, attempts := 0, agreed := false, released := 0, request := none,
    held := [], tmr0 := 0, tmr1 := 0, ipend := 0, refresh := none, cmd := none, pinned := [], joining := [],
    later := [], ixch := [] }

end Sys2Proof.Machine
end

