-- ==== Sys2Proof/Machine/State.lean ====
section
/-!
DEFINITION. The state of the module: every piece of state the spec gives it, as plain data, and its value right after
reset (a cold start just begun, log entry 3).
-/

namespace Sys2Proof.Machine
open Sys2Proof

/-- Why the machine stops with a fault. -/
inductive Fault where
  /-- Raised by no meaning: no command of the module stops it. Safe. -/
  | never
deriving DecidableEq, Repr

/-- Why a command is refused. -/
inductive Refusal where
  /-- Raised by Dispatch for a row without a meaning. Safe. -/
  | notModelled (mnemonic : String)
  /-- Raised by FAULT_EVENT for a code of no event, START_FAIL for a code of no failure, FRAME_WORK for a message of a length that
  no message has (WellFormed). Safe: the spec gives such a command no sense. -/
  | illFormed
deriving DecidableEq, Repr

/-- What the module has sent out, newest first. -/
inductive Output where
  /-- One bundle's lateral writes, in slot order; the last is marked last (R60). -/
  | lateral (core : Nat) (writes : List (Nat × Word))
  /-- A read of a lateral port sent to the die (R60). -/
  | lateralRead (core port : Nat)
  /-- An access of the lateral range or window sent to the die. -/
  | dieAccess (write : Bool) (addr width : Nat) (data : Word)
  /-- A DRAM or ledger read's answer to its master: data, none where the record is LOST, and whether it is poisoned
  (R228, R233). -/
  | memoryData (master : Nat) (data : Option (List Byte)) (poison : Bool)
  /-- A link frame sent on a lane (R254). -/
  | frame (lane : Nat) (f : Frame)
  /-- The Ethernet frame that carries a link frame of a link with ENCAP = 1 (R263). -/
  | ether (lane : Nat) (bytes : List Byte)
  /-- The completion of a flume's descriptor (R351). -/
  | cipherDone (flume : Nat) (w : Nat)
  /-- A headrace frame sent or passed on, down the chain or up: its header fields and payload (R425). -/
  | chain (up : Bool) (typ addr hop flags tag : Nat) (payload : List Byte)
  /-- What the TAP shifts out of the register it selects (R468). -/
  | tdo (data : Nat)
deriving DecidableEq, Repr

/-- The state of the module. -/
structure State where
  /-- Commands waiting, first in first out. -/
  pending : List Instr
  /-- Every CSR written since reset, by offset from 0xF000_0000_0000; an unlisted one reads its reset value. -/
  csr : Table Word
  /-- Values written to S-class fields and not yet in force, by the register's offset (R8). -/
  staged : Table Word
  /-- Registers of class L whose new value waits for a unit boundary: what each holds until then, by offset × 64 + the unit (R7). -/
  force : Table Word
  /-- Memory bytes by physical address, as every master reads them (R180); an unlisted byte reads 0 (log entry 2). -/
  mem : List Host.Cell
  /-- DRAM bytes where DRAM and the coherent view may differ while a cache holds dirty data (R195). -/
  dram : Table Byte
  /-- Bytes of a dirty reservoir line older than the copy that a core's L2 holds (R174, R198). -/
  resOld : Table Byte
  /-- Poison of the reservoir's own dirty copy of a sub-block, where the copy that a core's L2 holds differs (R192, R229). -/
  resPoison : Table Bool
  /-- Poison as every master reads it: 64-byte sub-blocks of DRAM by physical address / 64 (R228), 8-byte words of a cistern
  by physical address / 8 (R241). -/
  poison : List Nat
  /-- Whether the copy of a sub-block in DRAM is poisoned, where that and what the caches hold may differ (R195, R228). -/
  dramPoison : Table Bool
  /-- The cores, 0-79 and headworks 80-83; an unlisted one is at reset. -/
  cores : Table Core
  /-- The group slots 0-35. -/
  groups : Table Group
  /-- Checkers retired (R162). -/
  chkRetired : List Nat
  /-- Reservoir lines by (slice × 4096 + set) × 16 + way: line number × 2 + dirty bit (R172). -/
  res : Table Nat
  /-- PLRU bits of the reservoir, by slice × 4096 + set (R176). -/
  resPlru : Table Nat
  /-- The next reservoir line each slice's scrubber reads (R193). -/
  resScrub : Table Nat
  /-- PRST_N is asserted, or a loss of supply has its effect (R465, R466). -/
  inReset : Bool
  /-- The module is in fallow (R444). -/
  fallow : Bool
  /-- Every lane is held in electrical idle (R265). -/
  lanesIdle : Bool
  /-- Open count windows of the fault sources, by source × 1,024 + master (R444): events counted. -/
  fltWin : Table Nat
  /-- Notice CODEs whose 100 µs interval runs (R434). -/
  noticed : List Nat
  /-- The state held back for each of them. -/
  noticeHeld : Table (List Byte)
  /-- Cores a spares need stands for, with its REASON (R451, R452). -/
  sprNeeds : Table Nat
  /-- Cores whose need is deferred (R452). -/
  sprDeferred : List Nat
  /-- The repair store: kind and unit of each substitution, oldest first (R453). -/
  repair : List (Nat × Nat)
  /-- Corrected errors of a DRAM row in this rotation, by rowKey (R231). -/
  rowErrs : Table Nat
  /-- Spare rows used of a DRAM bank, by bankKey (R231). -/
  rowsUsed : Table Nat
  /-- The next sub-block each stack's scrubber reads (R230). -/
  scrubPos : Table Nat
  /-- The channel each stack's substitution replaces (R232). -/
  subst : Table Nat
  /-- Corrected errors of a cistern row in this rotation, by bank × 1,024 + row (R241). -/
  cisErrs : Table Nat
  /-- The state a clearing bank ends in (R240). -/
  cisEnd : Table Nat
  /-- The master each bank granted last (R238). -/
  cisGrant : Table Nat
  /-- HRC_TIME at the last trigger of a strongroom wipe; none since the last power-on (R243). -/
  wipeAt : Option Nat
  /-- Key slots by number; an unlisted one is empty (R346). -/
  slots : Table KeySlot
  /-- The fused key-import key (R347, R472). -/
  kik : Option (List Nat)
  /-- Basin reservations by ledger record (R355). -/
  basins : Table Basin
  /-- Those that wait, in acceptance order: record and granules (R355). -/
  basinQueue : List (Nat × Nat)
  /-- Each flume's 64 KiB block buffer, by flume × 65,536 + offset (R351). -/
  flumeBuf : Table Byte
  /-- Retry and credit state of the links (R248-R261). -/
  links : Table Link
  /-- Lanes whose coefficients are kept, by lane × 2 + 1 for PAM4 (R249). -/
  coeffs : List Nat
  /-- Messages that flumes passed on to the holder: link and payload, oldest first. -/
  inbox : List (Nat × List Byte)
  /-- Ledger records not FREE and not RETIRED, in index order (R301). -/
  live : List Nat
  /-- Session contexts (R271). -/
  sessions : Table Session
  /-- The CTXBASE of the SES block has taken effect: its context image is written (R271). -/
  sesImage : Bool
  /-- The same of the ALT block (R326). -/
  altImage : Bool
  /-- The SES command in progress: its OP and session (R274). -/
  sesBusy : Option (Nat × Nat)
  /-- ADDR of the SES command in progress, as it stood at GO (R272). -/
  sesAddr : Nat
  /-- That command waits for the image or the water turn. -/
  sesWait : Bool
  /-- Producer index of each tailrace ring, by its base (R279). -/
  tailProd : Table Nat
  /-- Entries that wait to be written, in end order (R304). -/
  tailQueue : List TailItem
  /-- Consumer index last read of each ring, by its base (R279). -/
  tailCons : Table Nat
  /-- Links whose first UP after a cold start sends the link-scope RESET (R292). -/
  coldDue : List Nat
  /-- Links whose first UP after a warm start sends RESUME (R299). -/
  warmDue : List Nat
  /-- Links UP whose first messages wait for the water turn. -/
  upWait : List Nat
  /-- The image of the SES block is still to be written (R271). -/
  sesInit : Bool
  /-- The image of the ALT block is still to be written (R326). -/
  altInit : Bool
  /-- Outbound SQUEEZE transactions that wait for staging granules, in acceptance order: record and granules (R375). -/
  stageQueue : List (Nat × Nat)
  /-- Staging granules held, by record (R375). -/
  stageHeld : Table (List Nat)
  /-- How many bytes are staged, by record: they lie in its granules of the pool (R375). -/
  stageData : Table Nat
  /-- What each compression engine works on (R360). -/
  engines : Table JobRef
  /-- The session queue of the engines (R360). -/
  cmpSession : List JobRef
  /-- Their core queue (R360). -/
  cmpCore : List JobRef
  /-- The core queue is next (R360). -/
  cmpCoreNext : Bool
  /-- Core jobs by slot (R368). -/
  jobs : Table Job
  /-- The generation of each job slot (R368). -/
  jobGen : Table Nat
  /-- Transfers under way, by ledger record (R285, R286). -/
  xfers : Table Xfer
  /-- Records whose resend after a warm start waits for granules or staged data (R355, R375). -/
  resendLate : List Nat
  /-- Links whose path is stalled (R295). -/
  stalled : List Nat
  /-- Deficits of the allotments (R333). -/
  deficits : Table Nat
  /-- Allotments whose new WEIGHT waits for the next round (R334). -/
  weightNew : List Nat
  /-- Transactions chosen to issue, in order (R333). -/
  issueQueue : List Nat
  /-- The I/O TLB by set (R330). -/
  iotlb : Table (List TlbEnt)
  /-- The allotment a QUIESCE waits for (R325). -/
  quiescing : Option Nat
  /-- The ALT command that waits for the image: OP, ALLOT and ARG (R326). -/
  altWait : Option (Nat × Nat × Nat)
  /-- A LOAD of a key slot that waits for DRAM in a cold start: slot and address (R402). -/
  keyWait : Option (Nat × Nat)
  /-- Sluice master A (R307). -/
  sluA : Sluice
  /-- Sluice master B (R307). -/
  sluB : Sluice
  /-- What the first output of the next holder completes (R312, R315): 0 nothing, 1 a takeover, 2 a turn change. -/
  turnChange : Nat
  /-- hc since the last change of the turn, switch-over or start (R315). -/
  swapHc : Nat
  /-- The value of `swapHc` at which a skipped change is tried again (R315). -/
  swapRetry : Nat
  /-- Changes of islands in progress, by island (R384). -/
  clkChange : Table IslandChange
  /-- FREQ in force by island, where not that of reset. -/
  clkFreq : Table Nat
  /-- DIV in force by island, where not that of reset. -/
  clkDiv : Table Nat
  /-- Core islands that wait for the stagger, in order (R385). -/
  clkWait : List Nat
  /-- The core island whose change began within the last 50 µs (R385). -/
  staggerOn : Option Nat
  /-- Windows that the fast loop has counted below its mark (R394). -/
  fastLow : Nat
  /-- Milliseconds that the slow loop has counted below its mark (R395). -/
  slowLow : Nat
  /-- The throttle level that heat holds (R480). -/
  heatFloor : Nat
  /-- Broken culverts, by sender × 32 + receiver (R391). -/
  culvertsBroken : List Nat
  /-- The words of the control stores of the cores, the same in every core (R130). -/
  coreStore : Table Nat
  /-- The words of the sluice masters' control stores, the same in both (R131). -/
  sluStore : Table Nat
  /-- The headworks image, by word (R136). -/
  hwkStore : Table Nat
  /-- The verified CORE and SLUICE plaintexts, by TYPE, that the headworks cistern keeps until the next start (R131; log entry 70). -/
  stagedImages : List (Nat × List Byte)
  /-- The flumes' program memory, the same in every flume (R266). -/
  flumeStore : Table Nat
  /-- The fused OEM key hash (R472). -/
  oemHash : Option Nat
  /-- The raises of each TYPE's SVN floor (R472). -/
  svnRaises : Table Nat
  /-- The start in progress (R401, R407). -/
  startStage : StartStage
  /-- The image it has requested, as it comes in (R435). -/
  imageIn : ImageIn
  /-- Lanes whose loopback has ended (R401). -/
  loopDone : List Nat
  /-- Lanes that failed it and found no spare (R403). -/
  loopFail : List Nat
  /-- Channels at full rate, stack × 32 + channel, 16 the spare (R404). -/
  fullRate : List Nat
  /-- Stacks with a channel that failed it (R406). -/
  trainBad : List Nat
  /-- Links that the transition takes to PAM4 once the others are UP or FAILED (R413 step 6). -/
  rateDue : Bool
  /-- The links of R414, which step 6 of the transition waits for (R413). -/
  fullLinks : List Nat
  /-- The pin PRST_N is asserted (R465). -/
  prst : Bool
  /-- PWR_GOOD is low (R466). -/
  pwrLow : Bool
  /-- VIN is below its range (R466). -/
  vinLow : Bool
  /-- TAMPER_N is asserted (R467). -/
  tamper : Bool
  /-- The passive switch that joins the headrace inputs to the outputs is closed (R421). -/
  bypass : Bool
  /-- Islands that the BIST of this start left OFF (R403). -/
  badIslands : List Nat
  /-- Scan hold (R470). -/
  scanHold : Bool
  /-- The instruction of the TAP (R468). -/
  tapIr : Nat
  /-- The boundary register (R469). -/
  boundary : Nat
  /-- PINGs whose ECHO is awaited (R430). -/
  pings : Nat
  /-- The sum of the delays measured (R430). -/
  pingSum : Nat
  /-- A start has begun in this rotation (R439). -/
  startBegan : Bool
  /-- Rack time in ms of the schedule's first mark, not reduced modulo 2^40 (R436). -/
  rotAt : Nat
  /-- Units whose SPR-WEAR warning was given, by repair kind × 65,536 + unit (R450). -/
  warned : List Nat
  /-- The die-to-die link is up (R56). -/
  dieUp : Bool
  /-- Draws taken from Config.freeWord (log entry 7). -/
  freeCtr : Nat
  /-- What the module has sent, newest first. -/
  out : List Output
deriving DecidableEq, Repr

/-- The module right after reset. -/
def State.reset : State :=
  { pending := [], csr := [], force := [], staged := [], mem := [], resOld := [], resPoison := [], dram := [], dramPoison := [], poison := [], cores := [], groups := [],
    chkRetired := [], res := [], resPlru := [], resScrub := [], inReset := false, fallow := false, lanesIdle := true,
    fltWin := [], noticed := [], noticeHeld := [], sprNeeds := [], sprDeferred := [], repair := [], rowErrs := [], rowsUsed := [], scrubPos := [], subst := [], cisErrs := [], cisEnd := [], cisGrant := [],
    wipeAt := none, slots := [], kik := none, basins := [], basinQueue := [], flumeBuf := [], links := [], coeffs := [], inbox := [], live := [], sessions := [], sesImage := false, altImage := false, sesAddr := 0, sesBusy := none, sesWait := false, tailProd := [],
    tailQueue := [], tailCons := [], coldDue := List.range 256, warmDue := [], upWait := [], sesInit := false,
    altInit := false, stageQueue := [], stageHeld := [], stageData := [], engines := [], cmpSession := [], cmpCore := [],
    cmpCoreNext := false, jobs := [], jobGen := [], xfers := [], resendLate := [], stalled := [], deficits := [], weightNew := [], issueQueue := [], iotlb := [], quiescing := none, altWait := none, keyWait := none,
    sluA := Sluice.reset, sluB := Sluice.reset, turnChange := 0, swapHc := 0, swapRetry := 0, clkChange := [], clkFreq := [], clkDiv := [], clkWait := [],
    staggerOn := none, fastLow := 0, slowLow := 0, heatFloor := 0, culvertsBroken := [], coreStore := [], sluStore := [],
    stagedImages := [], hwkStore := [], flumeStore := [], oemHash := none, svnRaises := [], startStage := .begun, imageIn := ⟨0, [], false, 0⟩, loopDone := [],
    loopFail := [], fullRate := [], trainBad := [], rateDue := true, fullLinks := [], prst := false, pwrLow := false, vinLow := false, tamper := false, bypass := true, badIslands := [],
    scanHold := false, tapIr := 1, boundary := 0, pings := 0, pingSum := 0, startBegan := true, rotAt := 0, warned := [], dieUp := false, freeCtr := 0, out := [] }

end Sys2Proof.Machine
end

