-- ==== Sys2Proof/Machine/Ops.lean ====
section
/-!
DEFINITION. The named operations over the state: CSR words and fields, memory bytes, cores, groups, free values and
what the module sends. Every meaning goes through these.
-/

namespace Sys2Proof.Machine
open Sys2Proof

/-! CSRs -/

/-- What a CSR holds, by its offset. -/
def State.rd (s : State) (a : Nat) : Word := (s.csr.find a).getD (csrReset a)

/-- The state with a CSR holding a word. -/
def State.wr (s : State) (a : Nat) (v : Word) : State := { s with csr := s.csr.put a v }

/-- What a field of a CSR holds. -/
def State.fld (s : State) (a : Nat) (f : Fld) : Nat := f.get (s.rd a)

/-- The state with a field of a CSR set. -/
def State.setF (s : State) (a : Nat) (f : Fld) (v : Nat) : State := s.wr a (f.set (s.rd a) v)

/-- A one-bit field read as a flag. -/
def State.flag (s : State) (a : Nat) (f : Fld) : Bool := s.fld a f == 1

/-- The state with a counter field raised, saturating at its maximum. -/
def State.bump (s : State) (a : Nat) (f : Fld) (n : Nat) : State :=
  s.setF a f (min (s.fld a f + n) f.top)

/-- The state with a field lowered by one, not below 0. -/
def State.drop (s : State) (a : Nat) (f : Fld) : State := s.setF a f (s.fld a f - 1)

/-- Several fields of one CSR set together. -/
def State.setFs (s : State) (a : Nat) (l : List (Fld × Nat)) : State :=
  s.wr a (l.foldl (fun w f => f.1.set w f.2) (s.rd a))

/-- What a class L register holds for a unit of its block: as before a write until the unit's next boundary (R7). -/
def State.inForce (s : State) (a u : Nat) : Word := (s.force.find (a * 64 + u)).getD (s.rd a)

/-- A field of it. -/
def State.fldIn (s : State) (a u : Nat) (f : Fld) : Nat := f.get (s.inForce a u)

/-- A register just written waits for a unit's boundary, with the value it had in the state before. -/
def State.keepForce (s old : State) (a u : Nat) : State :=
  if (s.force.find (a * 64 + u)).isSome || old.rd a = s.rd a then s
  else { s with force := s.force.put (a * 64 + u) (old.rd a) }

/-- The unit boundary: the register's last value takes effect. -/
def State.unitBoundary (s : State) (a u : Nat) : State := { s with force := s.force.erase (a * 64 + u) }

/-! Memory bytes: one canonical form, strictly rising addresses and no zero byte listed (log entry 2). -/

/-- The byte at an address. -/
def memGet (m : List Host.Cell) (a : Nat) : Byte := Table.get m 0 a

/-- The memory with the byte at an address set; a zero byte is not listed. -/
def memPut (m : List Host.Cell) (a : Nat) (b : Byte) : List Host.Cell :=
  if b = 0 then Table.erase m a else Table.put m a b

/-- Bytes stored from an address upwards. -/
def memPutList : List Host.Cell → Nat → List Byte → List Host.Cell
  | m, _, [] => m
  | m, a, b :: t => memPutList (memPut m a b) (a + 1) t

/-- Bytes from an address upwards. -/
def memGetList (m : List Host.Cell) : Nat → Nat → List Byte
  | _, 0 => []
  | a, n + 1 => memGet m a :: memGetList m (a + 1) n

/-- The canonical form of a memory. -/
def Memory.wf : List Host.Cell → Bool
  | [] => true
  | [c] => c.2 != 0
  | c :: d :: t => c.2 != 0 && decide (c.1 < d.1) && Memory.wf (d :: t)

/-- The bytes of memory outside a range. -/
def memErase (m : List Host.Cell) (lo n : Nat) : List Host.Cell :=
  m.filter (fun c => !(decide (lo ≤ c.1) && decide (c.1 < lo + n)))

/-- Bytes of memory, as every master reads them. -/
def State.bytes (s : State) (a n : Nat) : List Byte := memGetList s.mem a n

/-- A little-endian number of n bytes in memory. -/
def State.num (s : State) (a n : Nat) : Nat := leNat (s.bytes a n)

/-- A little-endian 64-bit word in memory. -/
def State.word (s : State) (a : Nat) : Word := Word.ofNat (s.num a 8)

/-! Cores and groups -/

/-- A core. -/
def State.core (s : State) (c : Nat) : Core := s.cores.get Core.reset c

/-- The state with a core set. -/
def State.setCore (s : State) (c : Nat) (k : Core) : State := { s with cores := s.cores.put c k }

/-- The state with a core changed. -/
def State.modCore (s : State) (c : Nat) (f : Core → Core) : State := s.setCore c (f (s.core c))

/-- A group slot. -/
def State.group (s : State) (g : Nat) : Group := s.groups.get Group.reset g

/-- The state with a group slot set. -/
def State.setGroup (s : State) (g : Nat) (k : Group) : State := { s with groups := s.groups.put g k }

/-- What a port of a core holds. -/
def Core.port (k : Core) (p : Nat) : Word :=
  (k.arch.ports.find p).getD (if p = 0x8C then 0x10000 else 0)

/-- The core with a port holding a word. -/
def Core.setPort (k : Core) (p : Nat) (v : Word) : Core :=
  { k with arch := { k.arch with ports := k.arch.ports.put p v } }

/-- Several ports written in order. -/
def Core.setPorts (k : Core) (l : List (Nat × Word)) : Core :=
  l.foldl (fun k w => k.setPort w.1 w.2) k

/-! Free values and outputs -/

/-- A value the spec leaves open (log entry 7). -/
def State.freeVal (s : State) : Word := Config.freeWord s.freeCtr

/-- The state with that draw taken. -/
def State.drawn (s : State) : State := { s with freeCtr := s.freeCtr + 1 }

/-- The state with an output sent. -/
def State.send (s : State) (o : Output) : State := { s with out := o :: s.out }

/-- FLAGS of a frame: LAST, and HOLDOVER while the reference is held over (R420, R425). -/
def State.chainFlags (s : State) (last : Nat) : Nat := last % 2 + 2 * s.fld Csr.HRC_STAT Csr.HRC_STAT.HOLDOVER

/-- A frame of the module's own sent up the chain under its own address (R429). -/
def State.sendUp (s : State) (typ tag : Nat) (payload : List Byte) : State :=
  s.send (.chain true typ (s.fld Csr.HRC_ENUM Csr.HRC_ENUM.ADDR) 0 (s.chainFlags 0) tag payload)

/-- The chain logic is cut off: the bypass switch is closed, or the module is in reset (R421). -/
def State.chainOff (s : State) : Bool := s.bypass || s.inReset

/-- A NOTICE of a CODE with its payload, kept to one of a CODE in 100 µs but for IMAGE-REQ (0x03, R434). -/
def State.notice (s : State) (code : Nat) (payload : List Byte) : State :=
  if s.chainOff then s
  else if code = 3 then s.sendUp 0x82 0 payload
  else if s.noticed.contains code then { s with noticeHeld := s.noticeHeld.put code payload }
  else { s.sendUp 0x82 0 payload with noticed := insertNat s.noticed code }

/-- A NOTICE payload of 16 bytes: CODE, then bytes at offsets (R434). -/
def noticePayload (code : Nat) (l : List (Nat × Nat)) : List Byte :=
  (List.range 16).map (fun i =>
    if i = 0 then BitVec.ofNat 8 code else BitVec.ofNat 8 (((l.find? (fun e => e.1 == i)).map Prod.snd).getD 0))

/-! Islands and roles -/

/-- The island a core lies in (01, Clock islands): its cluster's, or 16 for the headworks. -/
def coreIsland (c : Nat) : Nat := if c < 80 then c / 10 else 16

/-- The island is in RUN: no change, ramping, or waiting for the stagger from RUN; one that drains or wakes refuses every
transfer (R19, R381, R390). -/
def State.islandRuns (s : State) (i : Nat) : Bool :=
  let st := s.fld (Csr.CLK_ISTAT i) Csr.CLK_ISTAT.STATE
  i == 17 || st == 0 || st == 4 || (st == 7 && ((s.clkChange.find i).map IslandChange.origin == some 0))

/-- The culvert from one island to another is broken (R391). -/
def State.culvertBroken (s : State) (a b : Nat) : Bool := s.culvertsBroken.contains (a * 32 + b)

/-- The culvert from one island to another refuses transfers: it is broken, or its receiver is not in RUN (R390). -/
def State.culvertShut (s : State) (a b : Nat) : Bool := s.culvertBroken a b || !s.islandRuns b

/-- The role of a core (R145). -/
def State.role (s : State) (c : Nat) : Nat := s.fld (Csr.TWN_CSTATE c) Csr.TWN_CSTATE.ROLE

/-- The roles of R145. -/
def roleSplit : Nat := 0
def roleParked : Nat := 1
def roleMember : Nat := 2
def roleSpare : Nat := 3
def roleRetired : Nat := 4
def roleHalted : Nat := 5

/-- The group slot of a core that is a member (R145). -/
def State.groupOf (s : State) (c : Nat) : Option Nat :=
  if c < 80 && s.role c == roleMember then some (s.fld (Csr.TWN_CSTATE c) Csr.TWN_CSTATE.GROUP) else none

/-- The member index of a core (R145). -/
def State.indexOf (s : State) (c : Nat) : Nat := s.fld (Csr.TWN_CSTATE c) Csr.TWN_CSTATE.INDEX

/-- The core is in service for interrupt lines: SPLIT, PARKED or MEMBER (R126). -/
def State.inService (s : State) (c : Nat) : Bool := decide (c < 80) && decide (s.role c ≤ 2)

/-- The core of each member of a group, by index (R146). -/
def State.memberCore (s : State) (g i : Nat) : Nat :=
  s.fld (Csr.TWN_GCFG g)
    (if i = 0 then Csr.TWN_GCFG.M0 else if i = 1 then Csr.TWN_GCFG.M1 else Csr.TWN_GCFG.M2)

/-- The member indices in use. -/
def State.memberIdx (s : State) (g : Nat) : List Nat :=
  [0, 1, 2].filter (fun i => s.memberCore g i != 0x7F)

/-- The STATE values of TWN_GSTAT. -/
def gFree : Nat := 0
def gGuarded : Nat := 1
def gDegraded : Nat := 2
def gUnguarded : Nat := 3
def gChanging : Nat := 4
def gStopped : Nat := 5
def gDiverged : Nat := 6

/-- STATE of a group. -/
def State.gstate (s : State) (g : Nat) : Nat := s.fld (Csr.TWN_GSTAT g) Csr.TWN_GSTAT.STATE

/-- The group's members are compared: its outputs wait for confirmation (R148). -/
def State.guarded (s : State) (g : Nat) : Bool :=
  s.gstate g == gGuarded || s.gstate g == gDegraded || s.gstate g == gChanging

/-- The core is a member whose outputs wait for confirmation. -/
def State.guardedCore (s : State) (c : Nat) : Bool :=
  match s.groupOf c with
  | some g => s.guarded g
  | none => false

/-- One more than the interval a member has open, 0 for another core (R149). -/
def State.openInterval (s : State) (c : Nat) : Nat :=
  match s.groupOf c with
  | some g => (s.group g).confirmed + ((s.group g).members.get Member.reset (s.indexOf c)).closed.length + 1
  | none => 0

/-- What is in force of a translation register or CST_CPATCH of a core: what it held before, until the core's bundle boundary, or
for a member until the interval in which the write takes effect (R140, R205). -/
def State.coreCsr (s : State) (c a : Nat) : Word :=
  let waiting : Option (Nat × Nat × Word) := (s.groupOf c).bind (fun g =>
    (s.group g).later.find? (fun e => e.2.1 == a && decide (s.openInterval c ≤ e.1)))
  match waiting with
  | some e => e.2.2
  | none => s.inForce a 0

/-- A CSR belongs to a core's translation registers or its CST_CPATCH entries, or is its CAC_CCFG. -/
def coreReg (c a : Nat) : Bool := a / 0x200 == 0x60000 + c || a / 0x40 == 0x280040 + c || (a == 0xB000000 + c * 0x40 && decide (c < 80))

/-- The same register of another core. -/
def regOfCore (a d : Nat) : Nat := if a / 0x1000000 = 0xC then 0xC000000 + d * 0x200 + a % 0x200 else 0xA001000 + d * 0x40 + a % 0x40

/-- A core's bundle boundary: writes to its translation registers, its CST_CPATCH entries and its CAC_CCFG are in force (R7, R140,
R205). -/
def State.ctxBoundary (s : State) (c : Nat) : State := { s with force := s.force.filter (fun e => !coreReg c (e.1 / 64)) }

/-- An interrupt line of a core set: in the group's checker for a member (R124, R155). -/
def State.setLine (s : State) (c line : Nat) : State :=
  match s.groupOf c with
  | some g => s.setGroup g { s.group g with ipend := setBit (s.group g).ipend line true }
  | none => s.modCore c (fun k => k.setPort 0xB0 (setBit (k.port 0xB0) line true))

end Sys2Proof.Machine
end

