-- ==== Sys2Proof/Machine/Fault.lean ====
section
/-!
DEFINITION. The fault collector (19, R442-R449): latching, counting and escalation, capture and merging, FAULT_N, and
the routing of severe events.
-/

namespace Sys2Proof.Machine
open Sys2Proof Csr

/-- The source of a code (R443). -/
def fltSource (code : Nat) : Nat := code / 4

/-- The base class of a code (R443, R444): 1 correctable, 2 recoverable, 3 severe, 4 fatal. -/
def fltClass (code : Nat) : Nat :=
  if [0x50, 0x7D, 0xA5, 0xAC, 0xB0].contains code then 4
  else if [0x0C, 0x0D, 0x0E, 0x18, 0x1C, 0x38, 0x39, 0x40, 0x60, 0x68, 0x7C, 0x80, 0x89, 0x8D, 0x91, 0x92, 0x93, 0x9E,
      0x9F, 0xA4, 0xA8, 0xA9].contains code then 3
  else if [0x0F, 0x10, 0x14, 0x24, 0x25, 0x30, 0x3C, 0x44, 0x74, 0x88].contains code then 1
  else 2

/-- The source is counted separately for each core named as master (R443). -/
def fltPerCore (n : Nat) : Bool := [3, 4, 5, 9, 10].contains n

/-- The window key of an event: its source, and its core where the source counts per core (R444). -/
def fltKey (n master : Nat) : Nat := n * 1024 + (if fltPerCore n then master % 1024 else 1023)

/-- FAULT_N is driven low: a set bit has class recoverable or higher (R448). -/
def State.faultPin (s : State) : Bool :=
  (List.range 45).any (fun n => bit (s.rd FLT_STATUS) n && decide (2 ≤ s.fld (FLT_SRC n) FLT_SRC.CLASS))

/-- The highest class of any set bit (R456, WORST). -/
def State.faultWorst (s : State) : Nat :=
  (List.range 45).foldl (fun m n =>
    if bit (s.rd FLT_STATUS) n then max m (s.fld (FLT_SRC n) FLT_SRC.CLASS) else m) 0

/-- FLT_SUMMARY brought up to date, with the FAULT notice of a change of FAULT_N (R448, R449). -/
def State.summarise (s : State) : State :=
  let pin := s.faultPin
  let old := s.flag FLT_SUMMARY FLT_SUMMARY.PIN
  let s := s.setFs FLT_SUMMARY [(FLT_SUMMARY.WORST, s.faultWorst), (FLT_SUMMARY.PIN, b2n pin)]
  if pin = old then s
  else s.notice 5 (noticePayload 5
    ((2, b2n pin) :: (List.range 8).map (fun i => (8 + i, bits (s.rd FLT_STATUS).toNat (8 * (7 - i)) 8))))

/-- First-error capture or merging of an event of a class (R446, R447). -/
def State.capture (s : State) (code cls master access : Nat) (addr : Word) : State :=
  if decide (2 ≤ cls) || s.flag FLT_CFG FLT_CFG.CAP_CE then
    if s.flag FLT_CAP FLT_CAP.VALID then
      (s.setF FLT_CAP FLT_CAP.MERGED 1).bump FLT_CAP FLT_CAP.MERGECNT 1
    else
      ((s.wr FLT_CAP (Word.ofNat (1 + cls * 0x100 + code * 0x10000 + (master % 1024) * 0x1000000
          + (access % 16) * 0x400000000))).wr FLT_CAPADDR addr).wr FLT_CAPTIME (s.rd HRC_TIME)
  else s

/-- Fallow (R444): lanes idle, every island but 17 stopped. -/
def State.enterFallow (s : State) : State :=
  (List.range 17).foldl (fun s i => s.setF (CLK_ISTAT i) CLK_ISTAT.STATE 3)
    { s with fallow := true, lanesIdle := true }

/-- A spares need of a core, unless one stands already (R451). -/
def State.need (s : State) (c reason : Nat) : State :=
  if (s.sprNeeds.find c).isSome then s else { s with sprNeeds := s.sprNeeds.put c reason }

/-- A severe event whose master is a core is routed (R449): a member has failed, a SPLIT core takes ASYNC. -/
def State.routeSevere (s : State) (master : Nat) : State :=
  if master < 80 then
    if s.role master = roleMember then s.modCore master (fun k => { k with failed := true })
    else if s.role master = roleSplit && s.flag FLT_CFG FLT_CFG.ASYNC_EN then
      s.modCore master (fun k => { k with async := true })
    else s
  else s

/-- Line 10 of FLT_CFG.CORE, when enabled, for an event of a class (R449). -/
def State.notifyLine (s : State) (cls : Nat) : State :=
  if s.flag FLT_CFG FLT_CFG.NOTIFY_EN && (decide (2 ≤ cls) || s.flag FLT_CFG FLT_CFG.NOTIFY_CE)
      && decide (s.fld FLT_CFG FLT_CFG.CORE < 80) then
    s.setLine (s.fld FLT_CFG FLT_CFG.CORE) 10
  else s

/-- What the crossing of a threshold starts beyond the class (R444): a spares request for the core of CORE, CAC-ECC
and CAC-UE, the replacement of the outvoted member. -/
def State.escalated (s : State) (n master : Nat) : State :=
  let s := (s.notifyLine 3).routeSevere master
  if master < 80 then
    if n = 3 || n = 9 || n = 10 then s.need master 2
    else if n = 5 then s.modCore master (fun k => { k with failed := true })
    else s
  else s

/-- The event counted in its source's window, and whether the count reaches the threshold (R444): another core of a source already
severe crosses it too. -/
def State.countWindow (s : State) (n cls master : Nat) : State × Bool :=
  if 3 ≤ cls then (s, false)
  else
    let k := fltKey n master
    let c := s.fltWin.get 0 k + 1
    ({ s with fltWin := s.fltWin.put k c },
      s.fld (FLT_SRC n) FLT_SRC.THRESH_N != 0 && decide (s.fld (FLT_SRC n) FLT_SRC.THRESH_N ≤ c)
        && (decide (s.fld (FLT_SRC n) FLT_SRC.CLASS < 3) || s.fld (FLT_SRC n) FLT_SRC.THRESH_N == c))

/-- An event on an error line of a code below 0xB4: latched, counted, captured or merged, routed (R442-R449). -/
def State.fault (s : State) (code master access : Nat) (addr : Word) : State :=
  let n := fltSource code
  let cls := fltClass code
  let s := s.wr FLT_STATUS (setBit (s.rd FLT_STATUS) n true)
  let s := (s.bump (FLT_SRC n) FLT_SRC.COUNT 1).setF (FLT_SRC n) FLT_SRC.LASTMASTER (master % 1024)
  let s := s.wr (FLT_SRCADDR n) addr
  let (s, crossed) := s.countWindow n cls master
  let s := s.setF (FLT_SRC n) FLT_SRC.CLASS
    (max (s.fld (FLT_SRC n) FLT_SRC.CLASS) (if crossed then 3 else cls))
  let s := (s.capture code cls master access addr).notifyLine cls
  let s := if cls = 3 || cls = 4 then s.routeSevere master else s
  let s := if crossed then s.escalated n master else s
  let s := s.summarise
  if cls = 4 then s.enterFallow else s

/-- An event without an address. -/
def State.fault0 (s : State) (code master access : Nat) : State := s.fault code master access 0

/-- The sources whose windows a write of 1 bits closes, with the fatal ones left out (R445). -/
def State.clearableFaults (s : State) (v : Word) : List Nat :=
  (List.range 45).filter (fun n => bit v n && s.fld (FLT_SRC n) FLT_SRC.CLASS != 4)

/-- FLT_STATUS bit n cleared: class and count 0, every window of the source closed (R445). -/
def State.clearFault (s : State) (n : Nat) : State :=
  let s := s.wr FLT_STATUS (setBit (s.rd FLT_STATUS) n false)
  let s := s.setFs (FLT_SRC n) [(FLT_SRC.CLASS, 0), (FLT_SRC.COUNT, 0)]
  { s with fltWin := s.fltWin.filter (fun e => e.1 / 1024 != n) }

/-- A write to FLT_STATUS (R445). -/
def State.writeFltStatus (s : State) (v : Word) : State :=
  ((s.clearableFaults v).foldl State.clearFault s).summarise

/-- A write to FLT_CAP: 1 in VALID ends the handling of the first error (R447). -/
def State.writeFltCap (s : State) (v : Word) : State :=
  if bit v 0 then
    s.setFs FLT_CAP [(FLT_CAP.VALID, 0), (FLT_CAP.MERGED, 0), (FLT_CAP.MERGECNT, 0)]
  else s

/-- The collector cleared, by PRST_N or the loss of VIN (R445, R448). -/
def State.clearCollector (s : State) : State :=
  { s with csr := s.csr.filter (fun e => !(decide (FLT_STATUS ≤ e.1) && decide (e.1 < FLT_STATUS + 0x1000000))),
           fltWin := [] }

/-! Commands -/

/-- FAULT_WINDOW_EXPIRY (R444): the window of a source, for one unit, ends and its count returns to 0. -/
def execFaultWindowExpiry (n : Fin 45) (master : BitVec 10) (s : State) : Host.Outcome State Fault Refusal :=
  .next { s with fltWin := s.fltWin.erase (fltKey n.val master.toNat) }

/-- FLT_STATUS_CLEAR (R445): a write of 1 bits to FLT_STATUS. -/
def execFltStatusClear (v : Word) (s : State) : Host.Outcome State Fault Refusal :=
  .next (s.writeFltStatus v)

/-- FLT_CAP_CLEAR (R447): a write to FLT_CAP. -/
def execFltCapClear (v : Word) (s : State) : Host.Outcome State Fault Refusal :=
  .next (s.writeFltCap v)

end Sys2Proof.Machine
end

