-- ==== Sys2Proof/Machine/Phys.lean ====
section
/-!
DEFINITION. The physical address map (R21), who may reach what, DRAM interleave (R226), memory writes with poison
(R229) and with the difference between DRAM and dirty caches (R195).
-/

namespace Sys2Proof.Machine
open Sys2Proof Csr

/-- The module carries a lateral die (R1, HWK_ID.LATERAL). -/
def State.lateralPart (s : State) : Bool := s.flag HWK_ID HWK_ID.LATERAL

/-- The range class of a physical address (01, Physical address map; R21 for the lateral range of ESZ-7280-G). -/
def State.rangeClass (s : State) (pa : Nat) : RangeClass :=
  if pa < 0x7FE0000000 then .normal
  else if pa < 0x8000000000 then .ledger
  else if pa < 0x10000000000 then .unmapped
  else if pa < 0x10004000000 then .scratch
  else if pa < 0x10005000000 then .strongroom
  else if pa < 0x10008000000 then .scratch
  else if pa < 0x20000000000 then .unmapped
  else if pa < 0x30000000000 then if s.lateralPart then .device else .unmapped
  else if pa < 0xF00000000000 then .unmapped
  else if pa < 0xF00100000000 then .device
  else .unmapped

/-- The cistern bank of an address of the cistern ranges (R236). -/
def cisBank (pa : Nat) : Nat := (pa - 0x10000000000) / 0x800000

/-- The first address of a cistern bank (R236). -/
def cisBase (bank : Nat) : Nat := 0x10000000000 + bank * 0x800000

/-- An address lies in the CSR windows. -/
def isCsrAddr (pa : Nat) : Bool := decide (0xF00000000000 ≤ pa) && decide (pa < 0xF00100000000)

/-- An address lies in the lateral range. -/
def isLateralAddr (pa : Nat) : Bool := decide (0x20000000000 ≤ pa) && decide (pa < 0x30000000000)

/-- Masters of physical accesses (R21, R237). -/
inductive Master where
  | core (c : Nat) (host : Bool)
  | headworks (c : Nat)
  | sluice
  | cipher
  | compress
  | flume (l : Nat)
deriving DecidableEq, Repr

/-- The bit of CIS_BCTL.MASK of a master (R237). -/
def Master.cisBit : Master → Nat
  | .core c _ => c / 10
  | .headworks _ => 8
  | .sluice => 9
  | .cipher => 10
  | .compress => 11
  | .flume _ => 12

/-- The master code of R447, of sluice master A for the sluice masters. -/
def Master.code : Master → Nat
  | .core c _ => mstCore c
  | .headworks c => mstCore c
  | .sluice => 0x090
  | .cipher => mstCipher
  | .compress => mstCmp
  | .flume l => mstFlume l

/-- The bank serves a master: its MASK bit is set and the bank runs (R237, R239). -/
def State.cisServes (s : State) (bank : Nat) (m : Master) : Bool :=
  bits (s.fld (CIS_BCTL bank) CIS_BCTL.MASK) m.cisBit 1 == 1 && s.fld (CIS_BSTAT bank) CIS_BSTAT.STATE == 0

/-- The lateral grant of an allotment (R335). -/
def State.lgrant (s : State) (a : Nat) : Bool := s.flag (ALT_ACTL a) ALT_ACTL.LGRANT

/-- DRAM is kept from every master but the headworks and the DRAM controllers: a cold start has not come to trickle service (R402). -/
def State.dramHeld (s : State) : Bool :=
  s.startStage != .idle && !s.inReset && !s.fallow && !s.flag HWK_SSTAT HWK_SSTAT.KIND && s.fld HWK_SSTAT HWK_SSTAT.PHASE == 0

/-- The island of a master (01, Clock islands); the sluice masters' is that of the holder. -/
def State.islandOf (s : State) : Master → Nat
  | .core c _ => coreIsland c
  | .headworks _ => 16
  | .sluice => 14 + b2n (s.fld SLU_STAT SLU_STAT.HOLDER == 1)
  | .cipher => 12
  | .compress => 13
  | .flume _ => 11

/-- An L2 of a core's own holds the line of an address. -/
def State.heldInL2 (s : State) (m : Master) (pa : Nat) : Bool :=
  match m with
  | .core c _ => (s.core c).l2.values.any (fun l => l.line == pa / 256 && l.st != .i)
  | _ => false

/-- The fabric in island 8 refuses a master's access: the culvert that would bring it is shut, and no L2 of the core's own holds the
line (R390). -/
def State.fabricShut (s : State) (m : Master) (pa : Nat) : Bool := s.culvertShut (s.islandOf m) 8 && !s.heldInL2 m pa

/-- A master is allowed at a physical address, and its access gets there (R20, R21, R390, the map of 01). -/
def State.mayReach (s : State) (m : Master) (pa : Nat) : Bool :=
  match s.rangeClass pa with
  | .normal => !s.fabricShut m pa
  | .ledger => m == .sluice && !s.fabricShut m pa
  | .unmapped => false
  | .scratch => s.cisServes (cisBank pa) m && !s.fabricShut m pa
  | .strongroom => false
  | .device =>
    match m with
    | .core c host =>
      if isLateralAddr pa then host || s.lgrant ((s.core c).port 0xB3).toNat else host
    | .headworks _ => isCsrAddr pa
    | _ => false

/-- A master is allowed to write at a physical address: the mirror of the ledger is not written (R233). -/
def State.mayWrite (s : State) (m : Master) (pa : Nat) : Bool :=
  s.mayReach m pa && !(s.rangeClass pa == .ledger && decide (0x7FF0000000 ≤ pa))

/-- Stack, channel and device line of a DRAM address (R226). -/
def dramStack (pa : Nat) : Nat := bits pa 8 3 ^^^ bits pa 15 3 ^^^ bits pa 26 3
def dramChannel (pa : Nat) : Nat := bits pa 11 4 ^^^ bits pa 21 4
def dramLine (pa : Nat) : Nat := bits pa 15 24
def dramBank (pa : Nat) : Nat := bits (dramLine pa) 3 4
def dramRow (pa : Nat) : Nat := bits (dramLine pa) 7 17

/-- The unit of poison that an address lies in: a sub-block of DRAM (R228), or 8 bytes of a cistern (R241). -/
def poisonUnit (pa : Nat) : Nat := if pa < 0x8000000000 then pa / 64 else pa / 8

/-- The size of a unit of poison; the numbers of the two kinds do not meet. -/
def poisonSize (b : Nat) : Nat := if b < 0x200000000 then 64 else 8

/-- The unit of an address is poisoned (R228, R241). -/
def State.poisoned (s : State) (pa : Nat) : Bool := s.poison.contains (poisonUnit pa)

/-- Any unit of a range is poisoned. -/
def State.poisonedRange (s : State) (pa n : Nat) : Bool :=
  s.poison.any (fun b => decide (b * poisonSize b < pa + n) && decide (pa < b * poisonSize b + poisonSize b))

/-- A range covers a whole unit of poison. -/
def coversUnit (pa n b : Nat) : Bool := decide (pa ≤ b * poisonSize b) && decide (b * poisonSize b + poisonSize b ≤ pa + n)

/-- The poison left after a write of n bytes at pa: a write of a whole unit replaces it (R229). -/
def poisonAfter (l : List Nat) (pa n : Nat) : List Nat := l.filter (fun b => !coversUnit pa n b)

/-- The copy of an address in DRAM is poisoned, whatever the caches hold. -/
def State.dramPoisoned (s : State) (pa : Nat) : Bool := (s.dramPoison.find (poisonUnit pa)).getD (s.poisoned pa)

/-- A cache holds newer data of the sub-block than DRAM. -/
def State.dramOlder (s : State) (pa : Nat) : Bool :=
  (s.dramPoison.find (pa / 64)).isSome || s.dram.any (fun e => e.1 / 64 == pa / 64)

/-- Poison written to memory: what a cache holds newer of it stays good (R228). -/
def State.setPoison (s : State) (pa : Nat) : State :=
  if s.dramOlder pa then { s with dramPoison := s.dramPoison.put (pa / 64) true }
  else { s with poison := insertNat s.poison (poisonUnit pa) }

/-- Poison in the dirty copy that a cache holds: DRAM keeps its own (R192). -/
def State.poisonCached (s : State) (pa : Nat) : State :=
  { s with dramPoison := s.dramPoison.put (pa / 64) (s.dramPoisoned pa), poison := insertNat s.poison (pa / 64) }

/-- The bytes of a range as DRAM holds them. -/
def State.dramBytes (s : State) (pa n : Nat) : List Byte :=
  (List.range n).map (fun i => (s.dram.find (pa + i)).getD (memGet s.mem (pa + i)))

/-- DRAM's own copy of bytes about to be overwritten in a cache, kept where not kept already (R195). -/
def keepOld (d : Table Byte) (m : List Host.Cell) (pa : Nat) : Nat → Table Byte
  | 0 => d
  | n + 1 =>
    let d := keepOld d m pa n
    if (d.find (pa + n)).isSome then d else d.put (pa + n) (memGet m (pa + n))

/-- Bytes of a range dropped from the list of differences: DRAM now holds the coherent view. -/
def dropRange (d : Table Byte) (pa n : Nat) : Table Byte :=
  d.filter (fun e => !(decide (pa ≤ e.1) && decide (e.1 < pa + n)))

/-- The same of poison: the sub-blocks that the write makes good where DRAM keeps its poison (R229). -/
def keepPoison (d : Table Bool) (l : List Nat) (pa n : Nat) : Table Bool :=
  (l.filter (fun b => coversUnit pa n b && (d.find b).isNone)).foldl (fun d b => d.put b true) d

/-- The differences of poison that a write to memory leaves, those of the units it does not cover. -/
def dropPoison (d : Table Bool) (pa n : Nat) : Table Bool := d.filter (fun e => !coversUnit pa n e.1)

/-- Poison as DRAM holds it, for the units listed. -/
def poisonBack (l : List Nat) (d : Table Bool) : List Nat :=
  d.foldl (fun l e => if e.2 then insertNat l e.1 else removeNat l e.1) l

/-- A write into the coherent view that leaves DRAM as it was: the data is dirty in a cache. -/
def State.writeCached (s : State) (pa : Nat) (l : List Byte) : State :=
  { s with
    dram := keepOld s.dram s.mem pa l.length, mem := memPutList s.mem pa l,
    dramPoison := keepPoison s.dramPoison s.poison pa l.length, poison := poisonAfter s.poison pa l.length }

/-- A write that reaches its memory: DRAM or a cistern bank. -/
def State.writeThrough (s : State) (pa : Nat) (l : List Byte) : State :=
  { s with
    resOld := dropRange s.resOld pa l.length, resPoison := dropPoison s.resPoison pa l.length
    dram := dropRange s.dram pa l.length, mem := memPutList s.mem pa l,
    dramPoison := dropPoison s.dramPoison pa l.length, poison := poisonAfter s.poison pa l.length }

/-- A range zeroed in its memory, with good check bits. -/
def State.zeroRange (s : State) (pa n : Nat) : State :=
  { s with
    resOld := dropRange s.resOld pa n, resPoison := dropPoison s.resPoison pa n
    dram := dropRange s.dram pa n, mem := memErase s.mem pa n, dramPoison := dropPoison s.dramPoison pa n,
    poison := poisonAfter s.poison pa n }

/-- DRAM brought up to date with the coherent view over a range (R187, R197); a poisoned copy stores poison (R229). -/
def State.syncDram (s : State) (pa n : Nat) : State :=
  { s with
    resOld := dropRange s.resOld pa n, resPoison := dropPoison s.resPoison pa n
    dram := dropRange s.dram pa n, dramPoison := dropPoison s.dramPoison pa n }

/-- Dirty data of a range discarded: the coherent view goes back to what DRAM holds (R187 inv). -/
def State.discardDirty (s : State) (pa n : Nat) : State :=
  { s with
    mem := (s.dram.filter (fun e => decide (pa ≤ e.1) && decide (e.1 < pa + n))).foldl (fun m e => memPut m e.1 e.2) s.mem
    resOld := dropRange s.resOld pa n, resPoison := dropPoison s.resPoison pa n
    dram := dropRange s.dram pa n
    poison := poisonBack s.poison (s.dramPoison.filter (fun e => coversUnit pa n e.1))
    dramPoison := dropPoison s.dramPoison pa n }

/-- Every dirty byte lost, as when a start begins (R195). -/
def State.loseDirty (s : State) : State :=
  { s with
    mem := s.dram.foldl (fun m e => memPut m e.1 e.2) s.mem, dram := [], resOld := [], resPoison := []
    poison := poisonBack s.poison s.dramPoison, dramPoison := [] }

/-- The same, of the sluice master that holds the turn (R447). -/
def State.masterCode (s : State) (m : Master) : Nat :=
  match m with
  | .sluice => 0x090 + b2n (s.fld SLU_STAT SLU_STAT.HOLDER == 1)
  | m => m.code

/-- An ADDRESS fault recorded (R21). -/
def State.addrFault (s : State) (m : Master) (access pa : Nat) : State :=
  s.fault 0x04 (s.masterCode m) access (Word.ofNat pa)

end Sys2Proof.Machine
end

