-- ==== Sys2Proof/Machine/Cache.lean ====
section
/-!
DEFINITION. L1, sump, L2 and reservoir (07): lookup, replacement, eviction, recall, coherence, prefetch and maintenance.
The data of every cache but L1I is the coherent view (R180); what the caches hold is which lines are where, in which
state, and which bytes DRAM does not have yet.
-/

namespace Sys2Proof.Machine
open Sys2Proof Csr

/-- The 256-byte line of an address. -/
def lineOf (pa : Nat) : Nat := pa / 256

/-- The sub-block of an address in its line (R172). -/
def subOf (pa : Nat) : Nat := bits pa 6 2

/-- The set of a line in L1 (64 sets), L2 (512) and a reservoir slice (4,096) (R172). -/
def setL1 (line : Nat) : Nat := line % 64
def setL2 (line : Nat) : Nat := line % 512
def setRes (line : Nat) : Nat := line % 4096

/-- The reservoir slice of a line: XOR of ten 4-bit groups from PA [11:8] (R172). -/
def resSlice (line : Nat) : Nat := xorNibbles 10 0 line

/-! PLRU (R176) -/

/-- The way the tree bits lead to, over `lv` levels from a node. -/
def plruWalk : Nat → Nat → Nat → Nat
  | 0, _, _ => 0
  | lv + 1, node, b =>
    if b.testBit node then 2 ^ lv + plruWalk lv (2 * node + 2) b else plruWalk lv (2 * node + 1) b

/-- The tree bits after a use of a way: every bit of its path points away from it. -/
def plruTouch : Nat → Nat → Nat → Nat → Nat
  | 0, _, _, b => b
  | lv + 1, node, way, b =>
    if way / 2 ^ lv % 2 = 1 then
      plruTouch lv (2 * node + 2) way (if b.testBit node then b - 2 ^ node else b)
    else plruTouch lv (2 * node + 1) way (if b.testBit node then b else b + 2 ^ node)

/-! L1 arrays -/

/-- Every sub-block is I. -/
def L1Line.dead (l : L1Line) : Bool := l.subs.all (fun x => x == .i)

/-- Some sub-block holds data. -/
def L1Line.valid (l : L1Line) : Bool := l.subs.any (fun x => x == .c || x == .d)

/-- Some sub-block is newer than L2. -/
def L1Line.dirty (l : L1Line) : Bool := l.subs.any (fun x => x == .d)

/-- The state of a sub-block. -/
def L1Line.sub (l : L1Line) (j : Nat) : Sub := l.subs.getD j .i

/-- The line with a sub-block set. -/
def L1Line.setSub (l : L1Line) (j : Nat) (x : Sub) : L1Line := { l with subs := modifyNth l.subs j (fun _ => x) }

/-- The way of a set that holds a line. -/
def l1Way (arr : Table L1Line) (ways line : Nat) : Option Nat :=
  firstIdx ways (fun w =>
    match arr.find (setL1 line * ways + w) with
    | some l => l.line == line && !l.dead
    | none => false)

/-- The way a new line takes, never an excluded one: the first without a live sub-block, else the PLRU way (R176). Where PLRU
leads to the excluded way, it is the other way of that way's pair (R178 does not say; DESIGN CHOICE). -/
def l1Victim (arr : Table L1Line) (plru : Table Nat) (ways lv set : Nat) (ex : Option Nat) : Nat :=
  match firstIdx ways (fun w => some w != ex &&
      match arr.find (set * ways + w) with
      | some l => l.dead
      | none => true) with
  | some w => w
  | none =>
    let w := plruWalk lv 0 (plru.get 0 set)
    if some w = ex then (if w % 2 = 0 then w + 1 else w - 1) else w

/-- L1D: a use of a way of a line's set. -/
def Core.touchD (k : Core) (line w : Nat) : Core :=
  { k with l1dPlru := k.l1dPlru.modify 0 (setL1 line) (plruTouch 3 0 w) }

/-! L2 -/

/-- The way of L2 that holds a line. -/
def l2Way (arr : Table L2Line) (line : Nat) : Option Nat :=
  firstIdx 16 (fun w =>
    match arr.find (setL2 line * 16 + w) with
    | some l => l.line == line && l.st != .i
    | none => false)

/-- The state of a line in L2, its write-back buffer included. -/
def Core.l2State (k : Core) (line : Nat) : L2St :=
  match l2Way k.l2 line with
  | some w => ((k.l2.find (setL2 line * 16 + w)).map L2Line.st).getD .i
  | none => if k.wb.any (fun l => l.line == line) then .w else .i

/-- A line of L2 put into a state where it is held. -/
def Core.setL2St (k : Core) (line : Nat) (st : L2St) : Core :=
  match l2Way k.l2 line with
  | some w => { k with l2 := k.l2.modify ⟨line, .i, 0⟩ (setL2 line * 16 + w) (fun l => { l with st := st }) }
  | none => k

/-- The way a fill of L2 may take: a free one, else by PLRU, never one in P or barred (R149, R176); where PLRU leads to such a way,
the lowest way permitted (R176 only forbids it; DESIGN CHOICE). -/
def Core.l2Victim (k : Core) (line : Nat) : Option Nat :=
  let at? (w : Nat) : Option L2Line := k.l2.find (setL2 line * 16 + w)
  match firstIdx 16 (fun w => match at? w with | some l => l.st == .i | none => true) with
  | some w => some w
  | none =>
    let ok (w : Nat) : Bool := match at? w with | some l => l.st != .p && l.barred == 0 | none => true
    let w := plruWalk 4 0 (k.l2Plru.get 0 (setL2 line))
    if ok w then some w else firstIdx 16 ok

/-- A line taken out of L1D, the eviction buffer, the sump and L1I: what depends on its L2 line (R174). -/
def Core.dropL1 (k : Core) (line : Nat) : Core :=
  { k with
    l1d := k.l1d.filter (fun e => !(e.2.line == line && e.2.valid)),
    l1i := k.l1i.filter (fun e => !(e.2.line == line && e.2.valid)),
    evb := k.evb.filter (fun e => e.line.line != line),
    sump := k.sump.filter (fun e => e.line != line),
    stale := dropRange k.stale (line * 256) 256 }

/-- Fills of a line in F only, in the line's L1 copies. -/
def L1Line.toFx (l : L1Line) (line : Nat) : L1Line :=
  if l.line = line then { l with subs := l.subs.map (fun y => if y == Sub.f then Sub.fx else y) } else l

/-- The fills of a line outstanding in a core return their data to the requester only, and install as I (R174, R188). -/
def Core.meetFills (k : Core) (line : Nat) : Core :=
  { k with
    fills := k.fills.map (fun f => if f.line = line then { f with dead := true } else f)
    l1d := k.l1d.mapv (fun l => l.toFx line)
    l1i := k.l1i.mapv (fun l => l.toFx line)
    evb := k.evb.map (fun e => { e with line := e.line.toFx line })
    sump := k.sump.map (fun l => l.toFx line) }

/-- Some sub-block of a line above L2 is dirty. -/
def Core.dirtyAbove (k : Core) (line : Nat) : Bool :=
  k.l1d.any (fun e => e.2.line == line && e.2.dirty) || k.sump.any (fun l => l.line == line && l.dirty)
    || k.evb.any (fun e => e.line.line == line && e.line.dirty)

/-- Every D sub-block of a line written into L2: the sub-blocks read C. -/
def L1Line.clean (l : L1Line) : L1Line := { l with subs := l.subs.map (fun x => if x == .d then .c else x) }

/-- The D sub-blocks of one line above L2 made clean. -/
def Core.cleanL1 (k : Core) (line : Nat) : Core :=
  let f (l : L1Line) : L1Line := if l.line = line then l.clean else l
  { k with l1d := k.l1d.map (fun e => (e.1, f e.2)), sump := k.sump.map f, evb := k.evb.map (fun e => { e with line := f e.line }) }

/-- The sump takes a line; when full its oldest leaves for L2 (R177). -/
def Core.pushSump (k : Core) (l : L1Line) : Core :=
  let full := decide (16 ≤ k.sump.length)
  let old := if full then k.sump.head? else none
  let k := { k with sump := (if full then k.sump.drop 1 else k.sump) ++ [l] }
  match old with
  | some o => if o.dirty then k.setL2St o.line .m else k
  | none => k

/-- Lines whose 2 cc in the eviction buffer have passed enter the sump (R177). -/
def Core.drainEvb (k : Core) : Core :=
  let out := k.evb.filter (fun e => decide (e.due ≤ k.cc))
  out.foldl (fun k e => k.pushSump e.line) { k with evb := k.evb.filter (fun e => !decide (e.due ≤ k.cc)) }

/-- A line that left a way of L1D enters the 2-entry eviction buffer (R177). -/
def Core.pushEvb (k : Core) (w : Nat) (out : Option L1Line) : Core :=
  match out with
  | none => k
  | some l =>
    let k := { k with evb := k.evb ++ [(⟨k.cc + 2, w, l⟩ : Evict)] }
    match k.evb with
    | a :: b :: c :: t => { k with evb := b :: c :: t }.pushSump a.line
    | _ => k

/-- The fills of a line into L1D go to L2 alone: their lines have left L1D (R158, R177). -/
def Core.fillsToL2 (k : Core) (p : Nat → Bool) : Core :=
  { k with fills := (k.fills.map (fun f => if p f.line && !f.icache then { f with sub := 0, l2only := true } else f)).eraseDups }

/-- L1D takes a line with its sub-block states: the core, the way, and the line displaced if some sub-block of it is valid; one
with only F or FX sub-blocks is dropped (R176, R177). -/
def Core.installD (k : Core) (l : L1Line) (ex : Option Nat) : Core × Nat × Option L1Line :=
  let set := setL1 l.line
  let w := l1Victim k.l1d k.l1dPlru 8 3 set ex
  let gone := k.l1d.find (set * 8 + w)
  let out := gone.filter L1Line.valid
  let k := match gone with
    | some o => if o.valid || o.line == l.line then k else k.fillsToL2 (fun x => x == o.line)
    | none => k
  ({ k with l1d := k.l1d.put (set * 8 + w) l }.touchD l.line w, w, out)

/-- A list with its first element that a test picks replaced, or taken out. -/
def swapFirst (p : L1Line → Bool) (out : Option L1Line) : List L1Line → List L1Line
  | [] => []
  | l :: t => if p l then (match out with | some o => o :: t | none => t) else l :: swapFirst p out t

/-- A line leaving L1D comes back (R178): from the eviction buffer, where the line it displaces becomes the eviction, or from
the sump, whose freed entry the displaced line takes. The core, and whether the line came back. -/
def Core.recall (k : Core) (line : Nat) : Core × Bool :=
  match k.evb.find? (fun e => e.line.line == line) with
  | some e =>
    let r := { k with evb := k.evb.filter (fun x => x.line.line != line) }.installD e.line (some e.way)
    (r.1.pushEvb r.2.1 r.2.2, true)
  | none =>
    match k.sump.find? (fun l => l.line == line) with
    | some l =>
      let r := k.installD l none
      ({ r.1 with sump := swapFirst (fun x => x.line == line) r.2.2 k.sump }, true)
    | none => (k, false)

/-- An empty L1 line. -/
def emptyLine (line : Nat) : L1Line := ⟨line, [.i, .i, .i, .i]⟩

/-- L1D holds a line with a sub-block in a state: set there, or the line installed with it. -/
def Core.setD (k : Core) (line sub : Nat) (x : Sub) : Core :=
  match l1Way k.l1d 8 line with
  | some w =>
    { k with l1d := k.l1d.modify (emptyLine line) (setL1 line * 8 + w) (fun l => l.setSub sub x) }.touchD line w
  | none =>
    if x == .i then k
    else
      let r := k.installD ((emptyLine line).setSub sub x) none
      r.1.pushEvb r.2.1 r.2.2

/-- The state of a sub-block in L1D. -/
def Core.subD (k : Core) (line sub : Nat) : Sub :=
  match l1Way k.l1d 8 line with
  | some w => ((k.l1d.find (setL1 line * 8 + w)).map (fun l => l.sub sub)).getD .i
  | none => .i

/-! The reservoir -/

/-- The way of the reservoir that holds a line, as a key of `State.res`. -/
def State.resKey (s : State) (line : Nat) : Option Nat :=
  (firstIdx 16 (fun w =>
    match s.res.find ((resSlice line * 4096 + setRes line) * 16 + w) with
    | some v => v / 2 == line
    | none => false)).map (fun w => (resSlice line * 4096 + setRes line) * 16 + w)

/-- Some core's L2 holds the line (the directory of R174). -/
def State.heldByL2 (s : State) (line : Nat) : Bool :=
  s.cores.any (fun e => e.2.l2State line != .i && e.2.l2State line != .p)

/-- A line of the reservoir marked dirty or clean where it is held. -/
def State.markRes (s : State) (line : Nat) (dirty : Bool) : State :=
  match s.resKey line with
  | some k => { s with res := s.res.put k (line * 2 + b2n dirty) }
  | none => s

/-- One core's copies of a line invalidated by another master: a fill under way in L2 completes and is then invalidated, and one
of L1 alone installs as I (R174, R179). -/
def Core.invalidated (k : Core) (line : Nat) : Core :=
  match k.l2State line with
  | .i => k
  | .p => k.meetFills line
  | _ => { ((k.dropL1 line).meetFills line).setL2St line .i with wb := k.wb.filter (fun l => l.line != line) }

/-- The copies of a line in every core but one dropped (R174, R180). -/
def State.invalidateOthers (s : State) (line : Nat) (keep : Option Nat) : State :=
  { s with cores := s.cores.map (fun e => if some e.1 = keep then e else (e.1, e.2.invalidated line)) }

/-- A cache holds data of a line newer than DRAM. -/
def State.dirtyLine (s : State) (line : Nat) : Bool := s.dram.any (fun e => e.1 / 256 == line)

/-- A cache holds a copy of a line. -/
def State.cachedLine (s : State) (line : Nat) : Bool := (s.resKey line).isSome || s.heldByL2 line

/-- The last copy of a line has left the caches: newer data of it is written to DRAM; of a clean one, whatever DRAM holds is read from
now on, its poison with it (R174, R228). -/
def State.leaveCaches (s : State) (line : Nat) : State :=
  if s.dirtyLine line then s.syncDram (line * 256) 256 else s.discardDirty (line * 256) 256

/-- A line that leaves the reservoir leaves every L2 but one core's, and newer data of it is written to DRAM (R174, R176). -/
def State.backInvalidate (s : State) (line : Nat) (keep : Option Nat) : State :=
  (s.invalidateOthers line keep).leaveCaches line

/-- A read of DRAM meets an uncorrectable sub-block: DRAM holds the poison codeword, and a copy that a cache holds stays good (R228). -/
def State.spoilDram (s : State) (pa : Nat) : State :=
  if s.cachedLine (lineOf pa) && !s.poisoned pa then { s with dramPoison := s.dramPoison.put (pa / 64) true } else s.setPoison pa

/-- A use of the way that holds a line of the reservoir (R176). -/
def State.touchRes (s : State) (line : Nat) : State :=
  match s.resKey line with
  | some k =>
    let base := (resSlice line * 4096 + setRes line) * 16
    { s with resPlru := s.resPlru.modify 0 (base / 16) (plruTouch 4 0 (k - base)) }
  | none => s

/-- The reservoir takes a line: a free way of its set, else one no L2 holds, else PLRU with back-invalidation (R176);
a dirty victim is written to DRAM. Where every enabled way is held and the PLRU way is not enabled, the lowest enabled way is taken
(R182 does not say; DESIGN CHOICE). A fill is the unit boundary of its slice (07, Registers). -/
def State.resInstall (s : State) (line : Nat) (dirty : Bool) (ways : Nat) : State :=
  let base := (resSlice line * 4096 + setRes line) * 16
  let s := if dirty then { s with
      resOld := dropRange s.resOld (line * 256) 256
      resPoison := dropPoison s.resPoison (line * 256) 256 } else s
  match s.resKey line with
  | some k => { s with res := s.res.put k (line * 2 + b2n (dirty || (s.res.get 0 k) % 2 == 1)),
                       resPlru := s.resPlru.modify 0 (base / 16) (plruTouch 4 0 (k - base)) }
  | none =>
    let may (w : Nat) : Bool := bits ways w 1 == 1
    let free := firstIdx 16 (fun w => may w && (s.res.find (base + w)).isNone)
    let unheld := firstIdx 16 (fun w => may w && !s.heldByL2 (s.res.get 0 (base + w) / 2))
    let p := plruWalk 4 0 (s.resPlru.get 0 (base / 16))
    let w := free.getD (unheld.getD (if may p then p else (firstIdx 16 may).getD p))
    let s := match s.res.find (base + w) with
      | some v => s.backInvalidate (v / 2) none
      | none => s
    { s with res := s.res.put (base + w) (line * 2 + b2n dirty),
             resPlru := s.resPlru.modify 0 (base / 16) (plruTouch 4 0 w) }.unitBoundary CAC_RCFG (resSlice line)

/-- The oldest line of a full write-back buffer goes to the reservoir (R174). -/
def State.drainWb (s : State) (c : Nat) : State :=
  match (s.core c).wb with
  | a :: b :: d :: e :: f :: t =>
    (s.modCore c (fun k => { k with wb := b :: d :: e :: f :: t })).resInstall a.line true 0xFFFF
  | _ => s

/-- An L2 victim leaves: what depends on it goes with it, an M line enters the write-back buffer (R174, R176). -/
def State.evictL2 (s : State) (c key : Nat) : State :=
  match (s.core c).l2.find key with
  | none => s
  | some l =>
    let k := s.core c
    let dirty := l.st == .m || k.dirtyAbove l.line
    let k := { (k.dropL1 l.line).meetFills l.line with l2 := k.l2.erase key }
    let k := if dirty && l.st != .i then { k with wb := k.wb ++ [⟨l.line, .w, 0⟩] } else k
    (s.setCore c k).drainWb c

/-- L2 takes a line in a state; none where every way is barred or filling (R149). -/
def State.installL2 (s : State) (c line : Nat) (st : L2St) : State × Bool :=
  let k := s.core c
  let barred := if s.guardedCore c then s.openInterval c else 0
  match l2Way k.l2 line with
  | some w =>
    (s.setCore c { k with l2 := k.l2.put (setL2 line * 16 + w) ⟨line, st, barred⟩,
                          l2Plru := k.l2Plru.modify 0 (setL2 line) (plruTouch 4 0 w) }, true)
  | none =>
    match k.l2Victim line with
    | none => (s, false)
    | some w =>
      let s := s.evictL2 c (setL2 line * 16 + w)
      let k := s.core c
      (s.setCore c { k with l2 := k.l2.put (setL2 line * 16 + w) ⟨line, st, barred⟩,
                            l2Plru := k.l2Plru.modify 0 (setL2 line) (plruTouch 4 0 w) }, true)

/-! Coherence (R174, R180) -/

/-- Another master reads a line: E and M copies become S, M data goes to the reservoir. -/
def State.snoopRead (s : State) (line : Nat) (keep : Option Nat) : State :=
  let owned := s.cores.any (fun e => some e.1 != keep && (e.2.l2State line == .m || e.2.dirtyAbove line))
  let s := { s with cores := s.cores.map (fun e =>
      if some e.1 = keep || e.2.l2State line == .i || e.2.l2State line == .p || e.2.l2State line == .w then e
      else (e.1, (e.2.cleanL1 line).setL2St line .s)) }
  if owned then s.resInstall line true 0xFFFF else s

/-- Some other core's L2 holds the line, or fills it. -/
def State.sharedBy (s : State) (line c : Nat) : Bool :=
  s.cores.any (fun e => e.1 != c && e.2.l2State line != .i)

/-- The counters of CAC_CCNT raised (R197). -/
def State.countCac (s : State) (c : Nat) (f : Fld) : State :=
  if c < 80 then s.bump (CAC_CCNT c) f 1 else s

/-- The prefetcher in force (R183): 0 next-line, 1 stride, 2 none; `replay` while a member re-runs. -/
def State.prefetcher (s : State) (c : Nat) (replay : Bool) : Nat :=
  match s.fldIn (CAC_CCFG c) 0 CAC_CCFG.PFMODE with
  | 1 => 1
  | 2 => 2
  | _ => if replay then 1 else if s.fld HWK_SSTAT HWK_SSTAT.PHASE = 3 then 0
    else if s.fld HWK_SSTAT HWK_SSTAT.PHASE = 1 then 1 else 0

/-- The core re-runs an interval after a rollback (R161, R183): the oldest one, not those that follow. -/
def State.replaying (s : State) (c : Nat) : Bool :=
  match s.groupOf c with
  | some g => decide (0 < (s.group g).attempts) && ((s.group g).members.get Member.reset (s.indexOf c)).closed.isEmpty
  | none => false

/-- Maintenance of a line is outstanding in this core: a later fill of it waits (R188). -/
def Core.maintained (k : Core) (line : Nat) : Bool :=
  k.cmq.any (fun e => e.line == line && (e.op == .clean || e.op == .flush || e.op == .inv))

/-- A line that L2 does not hold finds no way of its set: every way is barred or fills (R149). -/
def Core.noWay (k : Core) (line : Nat) : Bool := (l2Way k.l2 line).isNone && (k.l2Victim line).isNone

/-- A line requested into L2: nothing when L2 or its write-back buffer holds it or fills it, else P with the fill
outstanding (R173, R174). The answer says whether the request missed L2. -/
def State.requestL2 (s : State) (c line : Nat) : State × Bool :=
  match (s.core c).l2State line with
  | .w =>
    let r := s.installL2 c line .m
    (if r.2 then r.1.modCore c (fun k => { k with wb := k.wb.filter (fun l => l.line != line) }) else r.1, false)
  | .i => ((s.installL2 c line .p).1, true)
  | _ =>
    match l2Way (s.core c).l2 line with
    | some w => (s.modCore c (fun k => { k with l2Plru := k.l2Plru.modify 0 (setL2 line) (plruTouch 4 0 w) }), false)
    | none => (s, false)

/-! Errors of the arrays (R191, R192) -/

/-- A copy above the array holds newer data of a sub-block: a D sub-block of the core's L1D or sump, or for the reservoir (`c` none)
an M line of some L2. -/
def State.newerAbove (s : State) (c : Option Nat) (line j : Nat) : Bool :=
  let above (k : Core) : Bool :=
    let here (l : L1Line) : Bool := l.line == line && l.sub j == .d
    k.l1d.values.any here || k.evb.any (fun e => here e.line) || k.sump.any here
  match c with
  | some c => above (s.core c)
  | none => s.cores.any (fun e => e.2.l2State line == .m || above e.2)

/-- The poison that a dirty line of the reservoir holds in the sub-blocks of a range, before a core's L2 takes newer data (R192, R229). -/
def State.keepResPoison (s : State) (pa n : Nat) : State :=
  match s.resKey (lineOf pa) with
  | some k =>
    if s.res.get 0 k % 2 = 1 then
      { s with resPoison := (List.range ((pa + n + 63) / 64 - pa / 64)).foldl (fun t j =>
          let u := pa / 64 + j
          if (t.find u).isSome then t else t.put u (s.poison.contains u)) s.resPoison }
    else s
  | none => s

/-- The sub-blocks of an array's dirty copy of a line that a double error touches, poisoned, but where a copy above it is newer. -/
def State.poisonSubs (s : State) (c : Option Nat) (line : Nat) (subs : BitVec 4) : State :=
  let under := (List.range 4).filter (fun j => c.isNone && subs.getLsbD j && s.newerAbove c line j)
  let s := if c.isSome then s.keepResPoison (line * 256) 256
    else { s with resPoison := under.foldl (fun t j => t.put (line * 4 + j) true) s.resPoison }
  ((List.range 4).filter (fun j => subs.getLsbD j && !s.newerAbove c line j)).foldl (fun s j => s.poisonCached (line * 256 + 64 * j)) s

/-- A double error in a line that a core's L2 holds: M data is poisoned, a clean line becomes invalid, and fills that it was to
serve are misses (R192). -/
def State.doubleL2 (s : State) (c line : Nat) (subs : BitVec 4) (access : Nat) : State :=
  if (s.core c).l2State line == .m then (s.poisonSubs (some c) line subs).fault 0x29 (mstCore c) access (Word.ofNat (line * 256))
  else (s.modCore c (fun k => (k.dropL1 line).setL2St line (if k.fills.any (fun f => f.line == line) then .p else .i))).fault 0x28
    (mstCore c) access (Word.ofNat (line * 256))

/-- The same in the reservoir. A clean line made invalid leaves every L2 with it, for the directory holds an entry of each line that an
L2 holds (R174). -/
def State.doubleRes (s : State) (line : Nat) (subs : BitVec 4) (keep : Option Nat) (mst access : Nat) : State :=
  match s.resKey line with
  | none => s
  | some key =>
    if s.res.get 0 key % 2 = 1 then (s.poisonSubs none line subs).fault 0x29 mst access (Word.ofNat (line * 256))
    else ({ s with res := s.res.erase key }.backInvalidate line keep).fault 0x28 mst access (Word.ofNat (line * 256))

/-- The arrays hold a line for a core: its L2, else the reservoir. -/
def State.inArrays (s : State) (c line : Nat) : Bool :=
  match (s.core c).l2State line with
  | .i | .p => (s.resKey line).isSome
  | _ => true

/-- The line is clean in the array that serves a core's access to it. -/
def State.cleanInArrays (s : State) (c line : Nat) : Bool :=
  match (s.core c).l2State line with
  | .i | .p => (match s.resKey line with | some key => s.res.get 0 key % 2 == 0 | none => false)
  | .m | .w => false
  | _ => true

/-- The check of the array that serves a core's access to a line (R192): a single error is corrected, a double one poisons M data
or makes a clean line invalid, so that the access is served as a miss. -/
def State.arrayCheck (s : State) (c line : Nat) (e : Ecc) (subs : BitVec 4) (access : Nat) : State :=
  if !s.inArrays c line then s
  else match e with
    | .ok => s
    | .corrected => s.fault 0x24 (mstCore c) access (Word.ofNat (line * 256))
    | .uncorrectable =>
      match (s.core c).l2State line with
      | .i | .p => s.doubleRes line subs (some c) (mstCore c) access
      | .w => (s.poisonSubs (some c) line subs).fault 0x29 (mstCore c) access (Word.ofNat (line * 256))
      | _ => s.doubleL2 c line subs access

/-- A parity error in a sub-block of a line in a core's sump (R191): a C sub-block (0x25) is dropped, a D sub-block (0x2A)
poisoned. -/
def State.sumpParity (s : State) (c code pa : Nat) : State :=
  match (s.core c).sump.find? (fun l => l.line == lineOf pa) with
  | none => s
  | some l =>
    if code = 0x25 ∧ l.sub (subOf pa) = .c then
      s.modCore c (fun k => { k with sump := k.sump.map (fun x =>
        if x.line = lineOf pa then x.setSub (subOf pa) .i else x) })
    else if code = 0x2A ∧ l.sub (subOf pa) = .d then s.poisonCached pa
    else s

/-- A fill outstanding in a core. -/
def State.addFill (s : State) (c : Nat) (f : Fill) : State := s.modCore c (fun k => { k with fills := k.fills ++ [f] })

/-- A read or write of a core's table walker, through its L2 and with its fill (R180, R213). A walk that must not wait goes past L2
where that has no way for the line (the frame of a trap; R149 does not say; DESIGN CHOICE). -/
def State.l2Access (s : State) (c pa : Nat) : State :=
  let line := lineOf pa
  if 80 ≤ c || s.rangeClass pa != .normal || (s.core c).noWay line || (s.core c).maintained line then s
  else if (s.core c).l2State line == .i then
    ((s.snoopRead line (some c)).requestL2 c line).1.addFill c ⟨line, 0, false, true, false⟩
  else (s.requestL2 c line).1

/-- The next-line prefetcher's request after a miss of L1 and L2 (R184): within the 64 KiB page and NORMAL; the
translation of a line of the same page is the one just used. It is dropped where L2 has no way free (R149) or maintenance of
the line is outstanding (R188). -/
def State.nextLine (s : State) (c line : Nat) : State :=
  if s.prefetcher c (s.replaying c) = 0 then
    if (line + 1) % 256 = 0 || s.rangeClass ((line + 1) * 256) != .normal || (s.core c).noWay (line + 1)
        || (s.core c).maintained (line + 1) then s.countCac c CAC_CCNT.PF_DROP
    else if (s.core c).l2State (line + 1) == .i then
      ((s.snoopRead (line + 1) (some c)).requestL2 c (line + 1)).1.addFill c ⟨line + 1, 0, false, true, false⟩
    else (s.requestL2 c (line + 1)).1
  else s

/-- An access that L1D does not serve has to wait: its line finds no way in L2, or has maintenance outstanding (R149, R188). -/
def Core.fillWaits (k : Core) (line : Nat) : Bool := k.noWay line || k.maintained line

/-- L1D holds, or fills, the sub-block of an address, in a line that may be leaving it. -/
def Core.inL1D (k : Core) (pa : Nat) : Bool :=
  let here (l : L1Line) : Bool := l.line == lineOf pa && l.sub (subOf pa) != .i
  k.l1d.values.any here || k.evb.any (fun e => here e.line) || k.sump.any here

/-- A sub-block asked for in L1D by a load, a store, a prefetch or run-ahead: hit, recall or miss (R173, R176, R178).
`demand` says whether it counts and drives the next-line prefetcher. A prefetch that has to wait is dropped (R149, R188). -/
def State.touchData (s : State) (c pa : Nat) (demand : Bool) : State :=
  let line := lineOf pa
  let sub := subOf pa
  let k := s.core c
  match l1Way k.l1d 8 line, k.subD line sub with
  | some w, .c => s.setCore c (k.touchD line w)
  | some w, .d => s.setCore c (k.touchD line w)
  | some w, .f => s.setCore c (k.touchD line w)
  | some w, .fx => s.setCore c (k.touchD line w)
  | w, _ =>
    if !demand && !k.inL1D pa && k.fillWaits line then s.countCac c CAC_CCNT.PF_DROP
    else
    let (k, recalled) := match w with | some _ => (k, false) | none => k.recall line
    let s := s.setCore c k
    let s := if demand then s.countCac c CAC_CCNT.L1D_MISS else s
    let s := if recalled then s.countCac c CAC_CCNT.RECALL else s
    if (s.core c).subD line sub != .i then s
    else
      let s := s.snoopRead line (some c)
      let (s, miss) := s.requestL2 c line
      let s := (s.modCore c (fun k => k.setD line sub .f)).addFill c ⟨line, sub, false, false, false⟩
      if miss && demand then s.nextLine c line else s

/-- A bundle fetch of an address: a miss fetches its sub-block and every higher one of the line (R173). -/
def State.touchFetch (s : State) (c pa : Nat) : State :=
  let line := lineOf pa
  let sub := subOf pa
  let k := s.core c
  let cur := match l1Way k.l1i 4 line with
    | some w => ((k.l1i.find (setL1 line * 4 + w)).getD (emptyLine line))
    | none => emptyLine line
  let w := (l1Way k.l1i 4 line).getD (l1Victim k.l1i k.l1iPlru 4 2 (setL1 line) none)
  let k := { k with l1iPlru := k.l1iPlru.modify 0 (setL1 line) (plruTouch 2 0 w) }
  if cur.sub sub != .i then s.setCore c k
  else
    let new := { cur with subs := (List.range 4).map (fun j => if j < sub || cur.sub j != .i then cur.sub j else .f) }
    let s := s.setCore c { k with l1i := k.l1i.put (setL1 line * 4 + w) new,
                                  fills := k.fills ++ [⟨line, sub, true, false, false⟩] }
    let s := s.snoopRead line (some c)
    let (s, miss) := s.requestL2 c line
    if miss then s.nextLine c line else s

/-- A fill retires in an L1 line: F becomes C, FX becomes I (R173); an instruction fill covers the higher sub-blocks. -/
def fillSubs (f : Fill) (l : L1Line) : L1Line :=
  if l.line = f.line then
    { l with subs := (List.range 4).map (fun j =>
        if (j == f.sub || (f.icache && decide (f.sub ≤ j))) then
          match l.sub j with
          | .f => if f.dead then .i else .c
          | .fx => .i
          | x => x
        else l.sub j) }
  else l

/-- A fill retires in the L1 copies of its line, wherever they are (R173, R177). -/
def Core.retireL1 (k : Core) (f : Fill) : Core :=
  let k := { k with fills := k.fills.erase f }
  if f.l2only then k
  else if f.icache then { k with l1i := k.l1i.mapv (fillSubs f) }
  else { k with l1d := k.l1d.mapv (fillSubs f), evb := k.evb.map (fun e => { e with line := fillSubs f e.line }),
                sump := k.sump.map (fillSubs f) }

/-- The fill outstanding that a core's L1 or L2 names so. -/
def Core.findFill (k : Core) (line sub : Nat) (icache l2only : Bool) : Option Fill :=
  k.fills.find? (fun g => g.line == line && g.sub == sub && g.icache == icache && g.l2only == l2only)

/-- A fill retires (R174, R182, R188): its data installs in L1 and L2, and in the reservoir, or as I where maintenance or an
invalidation met it; a later fill of the line keeps the line in P. -/
def State.retireFill (s : State) (c : Nat) (f : Fill) : State :=
  let s := s.modCore c (fun k => k.retireL1 f)
  if (s.core c).l2State f.line == .p then
    if f.dead then
      if (s.core c).fills.any (fun g => g.line == f.line && !g.dead) then s
      else s.modCore c (fun k => k.setL2St f.line .i)
    else (s.modCore c (fun k => k.setL2St f.line (if s.sharedBy f.line c then .s else .e))).resInstall f.line false 0xFFFF
  else s

/-- Every fill of a line outstanding in a core retires, as an access that waits for them lets them. -/
def State.retireFills (s : State) (c line : Nat) : State :=
  ((s.core c).fills.filter (fun f => f.line == line)).foldl (fun s f => s.retireFill c f) s

/-! Stores into the caches -/

/-- The caches after a store of a core in split mode is performed: the sub-block is fetched if L1D does not hold it, with
ownership, and becomes D in a line that is M (R173, R174). -/
def State.storeSplit (s : State) (c pa : Nat) : State :=
  let s := (s.touchData c pa true).retireFills c (lineOf pa)
  s.modCore c (fun k => (k.setL2St (lineOf pa) .m).setD (lineOf pa) (subOf pa) .d)

/-- A write of a line in L2, and of L1D where its sub-block is valid (R175); where L2 has no way free, the reservoir takes the
data. -/
def State.storeL2 (s : State) (c pa : Nat) : State :=
  let line := lineOf pa
  let s := if (s.core c).l2State line == .i then
      ((s.requestL2 c line).1.addFill c ⟨line, 0, false, true, false⟩).retireFills c line
    else (s.requestL2 c line).1
  if (s.core c).l2State line == .i then s.resInstall line true 0xFFFF
  else s.modCore c (fun k =>
    let k := k.setL2St line .m
    match k.subD line (subOf pa) with
    | .c | .d => k.setD line (subOf pa) .c
    | _ => k)

/-- The same of a member: its line comes back from the eviction buffer or the sump, as for any store (R178), and its L2 is
written (R175). -/
def State.storeMember (s : State) (c pa : Nat) : State :=
  let r := if (l1Way (s.core c).l1d 8 (lineOf pa)).isSome then (s.core c, false) else (s.core c).recall (lineOf pa)
  let s := s.setCore c r.1
  (if r.2 then s.countCac c CAC_CCNT.RECALL else s).storeL2 c pa

/-- A core's fills into an L2 set that no line can enter retire, as a store that waits for a way lets them (R176). -/
def State.makeWay (s : State) (c line : Nat) : State :=
  if (s.core c).noWay line then
    ((s.core c).fills.filter (fun f => setL2 f.line == setL2 line)).foldl (fun s f => s.retireFill c f) s
  else s

/-- A line zeroed in a core's caches without reading memory (R187): M in L2 with its directory entry, and in L1D four sub-blocks that
are D, or C in a member; where L2 has no way free, the reservoir takes the zeros. -/
def State.zeroCaches (s : State) (c line : Nat) : State :=
  let s := ((s.invalidateOthers line (some c)).retireFills c line).makeWay c line
  let r := match (s.core c).l2State line with
    | .i => s.installL2 c line .m
    | .w => ((s.requestL2 c line).1, !(s.core c).noWay line)
    | _ => (s.modCore c (fun k => k.setL2St line .m), true)
  if r.2 then
    (List.range 4).foldl (fun s j => s.modCore c (fun k => k.setD line j (if s.role c == roleMember then .c else .d)))
      (r.1.resInstall line false 0xFFFF)
  else r.1.resInstall line true 0xFFFF

/-- The caches after a store of a core to a NORMAL address is performed: other copies go, a fill of the line under way in this
core is waited for, and the data enters L1D or L2 (R174, R175, R180). -/
def State.storeCaches (s : State) (c pa : Nat) : State :=
  let s := ((s.invalidateOthers (lineOf pa) (some c)).retireFills c (lineOf pa)).makeWay c (lineOf pa)
  if s.role c == roleMember then s.storeMember c pa else s.storeSplit c pa

/-- What the reservoir holds of a dirty line before a core's L2 takes newer data (R198). -/
def State.keepRes (s : State) (pa n : Nat) : State :=
  match s.resKey (lineOf pa) with
  | some k => if s.res.get 0 k % 2 = 1 then { s.keepResPoison pa n with resOld := keepOld s.resOld s.mem pa n } else s
  | none => s

/-- One core's copies of a line written back: D into L2, M becomes E (R187). -/
def Core.cleanCopies (k : Core) (line : Nat) : Core :=
  let k := k.cleanL1 line
  let k := if k.l2State line == L2St.m then k.setL2St line L2St.e else k
  { k with wb := k.wb.filter (fun l => l.line != line) }

/-- Every copy of a line in any core written back, and DRAM brought up to date; a line that no cache holds newer is not written
(R187). -/
def State.cleanLine (s : State) (line : Nat) : State :=
  let s := ({ s with cores := s.cores.mapv (fun k => k.cleanCopies line) }).markRes line false
  if s.dirtyLine line then s.syncDram (line * 256) 256 else s

/-- One core's copies of a line invalidated; a fill under way installs as I (R187, R188). -/
def Core.dropCopies (k : Core) (line : Nat) : Core :=
  let k := (k.dropL1 line).meetFills line
  let k := if k.l2State line == L2St.p then k else k.setL2St line L2St.i
  { k with wb := k.wb.filter (fun l => l.line != line) }

/-- Every copy of a line anywhere invalidated, newer data with it (R187). -/
def State.dropLine (s : State) (line : Nat) : State :=
  let s := { s with cores := s.cores.mapv (fun k => k.dropCopies line) }
  (match s.resKey line with
    | some key => { s with res := s.res.erase key }
    | none => s).discardDirty (line * 256) 256

/-- L1I, L1D and sump of a core invalidated (R158, R194); their fills go on into L2 alone. -/
def Core.dropL1All (k : Core) : Core :=
  { k with
    l1i := [], l1iPlru := [], l1d := [], l1dPlru := [], sump := [], evb := [], stale := []
    fills := (k.fills.map (fun f => ({ f with sub := 0, icache := false, l2only := true } : Fill))).eraseDups }

/-- Every cache of a core invalidated (R194). -/
def Core.dropCaches (k : Core) : Core :=
  { k.dropL1All with l2 := [], l2Plru := [], wb := [], fills := [] }

/-- The lines of a core's caches that are newer than DRAM may be: M, W and D lines. -/
def Core.dirtyLines (k : Core) : List Nat :=
  (k.l2.values.filter (fun l => l.st == .m)).map L2Line.line ++ k.wb.map L2Line.line
    ++ (k.l1d.values.filter L1Line.dirty).map L1Line.line ++ (k.sump.filter L1Line.dirty).map L1Line.line

/-- CLEAN-ALL of a core (R197): every dirty line written to DRAM and left clean. -/
def State.cleanCore (s : State) (c : Nat) : State :=
  (s.core c).dirtyLines.foldl State.cleanLine s

/-- A dirty line of the reservoir written to DRAM: what the reservoir holds of it, which a core's M or D data does not reach
(R198). -/
def State.writeBackRes (s : State) (line : Nat) : State :=
  let mine (a : Nat) : Bool := lineOf a == line
  let own (u : Nat) : Bool := (s.resPoison.find u).getD (s.poison.contains u)
  let differ := (List.range 4).filter (fun j => own (line * 4 + j) != s.poison.contains (line * 4 + j))
  { s with
    dram := (s.dram.filter (fun e => !mine e.1 || (s.resOld.find e.1).isSome)).map (fun e =>
      if mine e.1 then (e.1, (s.resOld.find e.1).getD e.2) else e)
    dramPoison := differ.foldl (fun t j => t.put (line * 4 + j) (own (line * 4 + j))) (s.dramPoison.filter (fun e => e.1 / 4 != line))
    resOld := dropRange s.resOld (line * 256) 256
    resPoison := dropPoison s.resPoison (line * 256) 256 }

/-- CLEAN-ALL of the reservoir (R198): every dirty reservoir line written to DRAM. -/
def State.cleanReservoir (s : State) : State :=
  let dirty := (s.res.values.filter (fun v => v % 2 == 1)).map (· / 2)
  let s := dirty.foldl State.writeBackRes s
  { s with res := s.res.map (fun e => (e.1, e.2 / 2 * 2)) }

/-- FLUSH-ALL of the reservoir (R198): clean, back-invalidate what it holds, writing back M lines. -/
def State.flushReservoir (s : State) : State :=
  let lines := s.res.values.map (· / 2)
  let s := lines.foldl (fun s line => s.backInvalidate line none) s.cleanReservoir
  { s with res := [], resPlru := [] }

/-- DMA, sluice-master and headworks writes to NORMAL memory (R180, R182): every L2 copy is invalidated; the data goes
to the reservoir or to DRAM. -/
def State.writeNormal (s : State) (pa : Nat) (l : List Byte) (dma : Bool) : State :=
  let ways (line : Nat) : Nat := if dma then s.fldIn CAC_RCFG (resSlice line) CAC_RCFG.DMA_WAYS else 0xFFFF
  let alloc (line : Nat) : Bool := !dma || (s.fldIn CAC_RCFG (resSlice line) CAC_RCFG.DMA_ALLOC == 1 && ways line != 0)
  let lines := (List.range ((pa + l.length + 255) / 256 - pa / 256)).map (· + pa / 256)
  let s := lines.foldl (fun s line => s.invalidateOthers line none) s
  lines.foldl (fun s line =>
    if alloc line then s.resInstall line true (ways line)
    else (match s.resKey line with
      | some k => { s with res := s.res.erase k }
      | none => s).syncDram (line * 256) 256) (s.writeCached pa l)

/-- A read of NORMAL memory by another master than a main core: M and E copies become S (R174, R180); one by a sluice
master or a headworks core fills the reservoir, a DMA read does not (R182). -/
def State.blockRead (s : State) (pa n : Nat) (dma : Bool) : State :=
  if s.rangeClass pa == .normal then
    let lines := (List.range ((pa + n + 255) / 256 - pa / 256)).map (· + pa / 256)
    let held := (s.cores.flatMap (fun e => (e.2.l2.values.filter (fun l => l.st == .e || l.st == .m)).map L2Line.line)).filter
      (fun l => decide (pa / 256 ≤ l) && decide (l * 256 < pa + n))
    let s := held.foldl (fun s line => s.snoopRead line none) s
    if dma then lines.foldl State.touchRes s else lines.foldl (fun s line => s.resInstall line false 0xFFFF) s
  else s

/-- A write by a block to memory it may reach: NORMAL through the reservoir, SCRATCH straight to the bank. -/
def State.blockWrite (s : State) (pa : Nat) (l : List Byte) (dma : Bool) : State :=
  if s.rangeClass pa == .normal then s.writeNormal pa l dma else s.writeThrough pa l

/-- A write of a context image, which reaches DRAM before any output that depends on it (R271, R326). -/
def State.imageWrite (s : State) (pa : Nat) (l : List Byte) : State := (s.blockWrite pa l false).syncDram pa l.length

end Sys2Proof.Machine
end

