-- ==== Sys2Proof/Machine/Operands.lean ====
section
/-!
DEFINITION. The port space of a Bolnus core: which ports there are, their direction and width, and what reading and
writing each does (R40-R44, R72-R76, R115, R116).
-/

namespace Sys2Proof.Machine
open Sys2Proof Csr

/-- The Dir column of a port table. -/
inductive Dir where
  | w | t | r | wr | tr
deriving DecidableEq, Repr

/-- A port of the tables: direction, width, and whether it is host only. -/
structure PortInfo where
  dir : Dir
  width : Nat
  host : Bool
deriving DecidableEq, Repr

/-- Trigger ports of the units (R72-R76). -/
def trigRanges : List (Nat × Nat) :=
  [(0x108, 0x114), (0x128, 0x134), (0x148, 0x154), (0x168, 0x174), (0x188, 0x193), (0x1A8, 0x1AF), (0x210, 0x216),
   (0x218, 0x21B), (0x250, 0x256), (0x258, 0x25B), (0x288, 0x28A), (0x2A8, 0x2AB), (0x2C8, 0x2C9), (0x310, 0x31E),
   (0x320, 0x32E), (0x350, 0x35E), (0x360, 0x36E), (0x388, 0x38A), (0x3A8, 0x3AD), (0x3B0, 0x3B0), (0x3C8, 0x3CC),
   (0x3E8, 0x3ED), (0x408, 0x40A), (0x428, 0x42A), (0x448, 0x448), (0x468, 0x468)]

/-- The port is a unit's trigger. -/
def isTrigger (p : Nat) : Bool := trigRanges.any (fun r => decide (r.1 ≤ p) && decide (p ≤ r.2))

/-- The 36 operand and selector ports in ascending order, with their widths (R72-R76, R118). -/
def operandPorts : List (Nat × Nat) :=
  [(0x100, 64), (0x120, 64), (0x140, 64), (0x160, 64), (0x180, 64), (0x181, 14), (0x1A0, 64), (0x1A1, 3),
   (0x200, 64), (0x201, 64), (0x202, 2), (0x240, 64), (0x241, 64), (0x242, 2), (0x2A0, 64), (0x2A1, 2), (0x2C0, 64),
   (0x300, 64), (0x301, 64), (0x302, 2), (0x340, 64), (0x341, 64), (0x342, 2), (0x380, 64), (0x381, 64), (0x382, 64),
   (0x3A0, 64), (0x3A1, 64), (0x3A2, 64), (0x3A3, 64), (0x3C0, 12), (0x400, 18), (0x401, 64), (0x402, 64),
   (0x403, 64), (0x440, 8)]

/-- The interlocked result ports, in the frame's order (R70, R118). -/
def interlockedPorts : List Nat :=
  [0x204, 0x205, 0x206, 0x207, 0x244, 0x245, 0x246, 0x247, 0x3A4, 0x3A5, 0x3C2, 0x404, 0x405, 0x420, 0x441]

/-- The fixed-latency results of a main core (R67). -/
def fixedPorts : List Nat :=
  [0x101, 0x121, 0x141, 0x161, 0x182, 0x1A2, 0x90, 0x91, 0x92, 0x93, 0x94, 0x95, 0x96, 0x97, 0x98, 0x99, 0x383, 0x384]

/-- Result ports computed when read: widths (R74-R76). -/
def gaugePorts : List (Nat × Nat) := [(0x385, 1), (0x208, 4), (0x248, 4), (0x3A6, 1), (0x3E0, 1), (0x460, 64), (0x461, 1)]

/-- The unit of a port of 0x100-0xBFF, by the first address of its block (R63). -/
def unitOf (p : Nat) : Nat := if 0x300 ≤ p && p < 0x380 then p / 64 * 64 else p / 32 * 32

/-- Units a headworks core has (R83). -/
def hwUnits : List Nat := [0x100, 0x120, 0x180, 0x1A0, 0x200, 0x280, 0x2A0, 0x2C0, 0x3A0, 0x3E0]

/-- Unit ports marked host only (R75). -/
def hostUnitPorts : List Nat := [0x3C0, 0x3CA, 0x3CB, 0x3CC, 0x3EA]

/-- The special registers 0x080-0x0B4 (R41, R115): none where unassigned, or not on a headworks core (R83, R129). -/
def specialInfo (hw : Bool) (p : Nat) : Option PortInfo :=
  if p < 0x88 then some ⟨.wr, 1, false⟩
  else match p with
    | 0x88 => some ⟨.tr, 64, false⟩
    | 0x89 | 0x8A | 0x8C | 0x8E | 0x8F => some ⟨.wr, 64, false⟩
    | 0x8B => some ⟨.tr, 64, false⟩
    | 0x8D => some ⟨.r, 64, false⟩
    | 0xB4 => some ⟨.t, 14, true⟩
    | 0xB3 => if hw then none else some ⟨.wr, 12, true⟩
    | 0xA9 | 0xAA | 0xAB | 0xAF | 0xB0 | 0xB1 => some ⟨.wr, 64, true⟩
    | 0xAC | 0xAD | 0xAE | 0xB2 => if hw then none else some ⟨.wr, 64, true⟩
    | _ =>
      if 0x90 ≤ p && p < 0x9A then some ⟨.r, 64, false⟩
      else if 0xA0 ≤ p && p < 0xA9 then if hw then none else some ⟨.wr, 64, true⟩
      else none

/-- A port by its address: none where it behaves as reserved (R40). The lateral block is not among these. -/
def portInfo (hw : Bool) (p : Nat) : Option PortInfo :=
  if p < 0x80 then some ⟨.wr, 64, false⟩
  else if p < 0x100 then specialInfo hw p
  else if hw && !hwUnits.contains (unitOf p) then none
  else if isTrigger p then some ⟨.t, 64, hostUnitPorts.contains p⟩
  else match operandPorts.find? (fun e => e.1 == p) with
    | some e => some ⟨.w, e.2, hostUnitPorts.contains p⟩
    | none =>
      if interlockedPorts.contains p then some ⟨.r, 64, false⟩
      else if fixedPorts.contains p then some ⟨.r, 64, false⟩
      else match gaugePorts.find? (fun e => e.1 == p) with
        | some e => some ⟨.r, e.2, false⟩
        | none => none

/-- The lateral block and the lat unit's ports are routed alike (R56, R59, R76). -/
def isLateral (p : Nat) : Bool := decide (0xF00 ≤ p) || (decide (0x460 ≤ p) && decide (p < 0x480) &&
  (p == 0x460 || p == 0x461 || p == 0x468))

/-! Class and special registers -/

/-- The core runs in host class (R42, R55); a headworks core always does. -/
def Core.host (k : Core) : Bool := bit (k.port 0x8C) 16

/-- status as it reads, with REP (R42). -/
def Core.status (k : Core) : Word := setBit (k.port 0x8C) 15 k.arch.repOn

/-- The RW fields of status (R42). -/
def statusRw : Word := 0x3E7FFF

/-- status after a move to it: every RW field written, RM kept where the value carries 0b101-0b111 (R42). -/
def statusWrite (old v : Word) : Word :=
  let rm : Fld := ⟨11, 3⟩
  let v := if 5 ≤ rm.get v then rm.set v (rm.get old) else v
  (old &&& ~~~ statusRw) ||| (v &&& statusRw)

/-- What a special register holds after a move to it (R42, R57, R115, R116). -/
def specialWrite (p : Nat) (old v : Word) : Word :=
  match p with
  | 0x8C => statusWrite old v
  | 0xA0 => v &&& 0x8FFFFFFF
  | 0xA9 | 0xAC => v &&& ~~~ (0xFFF : Word)
  | 0xAA | 0xAD => v &&& ~~~ (0x3FF : Word)
  | 0xAF => (old &&& 4) ||| (v &&& 0xFFFF03)
  | 0xB3 => v &&& 0xFFF
  | _ => v

/-- The value a port of a width takes (R34). -/
def narrow (w : Nat) (v : Word) : Word := if 64 ≤ w then v else zextW v w

/-- A move's delivered value under MODE 0-6 (R34). -/
def applyMode (m : Nat) (v : Word) : Word :=
  match m with
  | 1 => zextW v 32
  | 2 => sextW v 32
  | 3 => zextW v 16
  | 4 => sextW v 16
  | 5 => zextW v 8
  | 6 => sextW v 8
  | _ => v

/-- A load to an interlocked port is outstanding. -/
def Core.awaiting (k : Core) (p : Nat) : Bool := k.awaits.any (fun a => a.port == p)

/-- An operation that writes a port is in flight, or complete and not yet seen by a member's reads (R67, R85, R154). -/
def Core.writing (k : Core) (p : Nat) : Bool :=
  k.inflight.any (fun o => o.writes.any (fun w => w.1 == p)) || k.hidden.any (fun e => e.2.any (fun w => w.1 == p))

/-- lsuN.pend: bit n while a load to vn is outstanding (R75). -/
def Core.pend (k : Core) (base : Nat) : Word :=
  Word.ofNat ((List.range 4).foldl (fun x n =>
    x + b2n (k.awaiting (base + 4 + n) || k.writing (base + 4 + n)) * 2 ^ n) 0)

/-- A decimal operation is in flight (R74). -/
def Core.decBusy (k : Core) : Bool :=
  k.inflight.any (fun o => o.path == 0x380) || k.hidden.any (fun e => e.2.any (fun w => w.1 == 0x383))

/-- The timers and lines a core reads: its group's for a member (R155). -/
def State.groupPort (s : State) (c p : Nat) : Option Word :=
  match s.groupOf c with
  | none => none
  | some g =>
    match p with
    | 0x8E => some (s.group g).tmr0
    | 0x8F => some (s.group g).tmr1
    | 0xB0 => some (s.group g).ipend
    | _ => none

/-- What a port reads as, for a bundle at an address (R40-R44, R52, R72-R76). -/
def State.readPort (s : State) (c p : Nat) : Word :=
  let k := s.core c
  match s.groupPort c p with
  | some v => v
  | none =>
    match p with
    | 0x80 => 1
    | 0x8B => if k.arch.repOn then Word.ofNat k.arch.rep else 0
    | 0x8C => k.status
    | 0x8D => Word.ofNat k.cc
    | 0x208 => k.pend 0x200
    | 0x248 => k.pend 0x240
    | 0x385 => b2w (!k.decBusy)
    | 0x3A6 => b2w (k.awaiting 0x3A4 || k.awaiting 0x3A5 || !k.fences.isEmpty)
    | 0x3E0 => b2w k.cmq.isEmpty
    | 0x460 => 1
    | 0x461 => b2w (k.latFence == 0)
    | _ => if interlockedPorts.contains p && k.arch.poison.contains p then 0 else k.port p

/-- A value written to a register or operand port (R41-R44, R62, R115); the timers and ipend of a member are outputs
and are not written here (R148). -/
def Core.writePort (k : Core) (p : Nat) (v : Word) : Core :=
  if p < 0x80 then k.setPort p v
  else if p = 0x80 then k
  else if p < 0x88 then k.setPort p (zextW v 1)
  else if p = 0xB0 then k.setPort p (k.port p &&& ~~~ v)
  else if p < 0x100 then k.setPort p (specialWrite p (k.port p) v)
  else match operandPorts.find? (fun e => e.1 == p) with
    | some e => k.setPort p (narrow e.2 v)
    | none => k

/-- The predicate a guard names holds with its sense (R31, R32). -/
def Core.guard (k : Core) (g : Nat) : Bool :=
  let v := if g % 8 = 0 then true else bit (k.port (0x80 + g % 8)) 0
  if g / 8 = 0 then v else !v

end Sys2Proof.Machine
end

