-- ==== Sys2Proof/Machine/Flags.lean ====
section
/-!
DEFINITION. The status bits and every flag computation the spec gives (R42, R91, R93, R98, R104, R110).
-/

namespace Sys2Proof.Machine
open Sys2Proof

/-- Sticky bits of status (R42), as masks. -/
def flagEarly : Word := 0x1
def flagOV : Word := 0x4
def flagDZ : Word := 0x8
def flagDOV : Word := 0x20
def flagNV : Word := 0x40
def flagFDZ : Word := 0x80
def flagOF : Word := 0x100
def flagUF : Word := 0x200
def flagNX : Word := 0x400

/-- Bit positions of the enables of status (R42). -/
def bitEarlyTe : Nat := 1
def bitDzTe : Nat := 4
def bitFtz : Nat := 14

/-- status.RM (R42, R97). -/
def statusRm (st : Word) : Nat := bits st.toNat 11 3

/-- status.FP_TE: bit 0 NV to bit 4 NX (R42, R104). -/
def statusFpTe (st : Word) : Nat := bits st.toNat 17 5

/-- Sticky bits set in a core's status. -/
def Core.accrue (k : Core) (f : Word) : Core := if f = 0 then k else k.setPort 0x8C (k.port 0x8C ||| f)

/-- A signed result outside 64 bits (R91). -/
def sOverflow (exact : Int) : Bool := decide (exact < -(2 ^ 63 : Int)) || decide ((2 ^ 63 : Int) ≤ exact)

/-- OV of an exact signed result (R91). -/
def ovFlag (exact : Int) : Word := if sOverflow exact then flagOV else 0

/-- The IEEE flags of an operation as status bits: bit 0 NV, 1 FDZ, 2 OF, 3 UF, 4 NX (R42, R104). -/
def ieeeFlags (f : Nat) : Word := Word.ofNat (f % 32 * 64)

/-- An operation with IEEE flags raises a completion trap under FP_TE (R104). -/
def fpTraps (flags te : Nat) : Bool := flags &&& te != 0

end Sys2Proof.Machine
end

