-- ==== Sys2Proof/Machine/IntArith.lean ====
section
/-!
DEFINITION. What the integer units compute (04 R91-R94, 03 R72, R482): results and flags of alu, sh, cmp, mul and div.
-/

namespace Sys2Proof.Machine
open Sys2Proof

/-- alu bitwise triggers (R72). -/
def aluBitRes (op : AluBit) (a b : Word) : Word :=
  match op with
  | .and => a &&& b
  | .or => a ||| b
  | .xor => a ^^^ b
  | .andn => a &&& ~~~ b

/-- alu minimum and maximum (R72). -/
def aluMinRes (op : AluMin) (a b : Word) : Word :=
  match op with
  | .min => if a.sle b then a else b
  | .max => if a.sle b then b else a
  | .minu => if a.toNat ≤ b.toNat then a else b
  | .maxu => if a.toNat ≤ b.toNat then b else a

/-- alu add and subtract: the result, wrapped, and OV as the .o forms set it (R91). -/
def aluAddRes (sub : Bool) (a b : Word) : Word × Word :=
  if sub then (a - b, ovFlag (a.toInt - b.toInt)) else (a + b, ovFlag (a.toInt + b.toInt))

/-- sh shifts and rotates a by b[5:0] (R72). -/
def shRes (op : ShOp) (a b : Word) : Word :=
  let n := b.toNat % 64
  match op with
  | .shl => a <<< n
  | .shr => a >>> n
  | .sar => a.sshiftRight n
  | .rol => a.rotateLeft n
  | .ror => a.rotateRight n

/-- sh.f: least significant bit position and field length (R72). -/
def shPos (f : Word) : Nat := bits f.toNat 0 6
def shLen (f : Word) : Nat := bits f.toNat 8 6 + 1

/-- sh.t.ext and sh.t.exts: field f of b; bits above 63 read 0 (R482). -/
def shExt (signed : Bool) (f b : Word) : Word :=
  let v := Word.ofNat (bits b.toNat (shPos f) (shLen f))
  if signed then sextW v (shLen f) else v

/-- sh.t.ins: a with field f replaced by the low bits of b, above bit 63 dropped (R482). -/
def shIns (f a b : Word) : Word :=
  let m := Word.ofNat ((2 ^ shLen f - 1) <<< shPos f)
  (a &&& ~~~ m) ||| (Word.ofNat ((b.toNat % 2 ^ shLen f) <<< shPos f) &&& m)

/-- The bit length of a number below 2^n. -/
def bitLen : Nat → Nat → Nat
  | 0, _ => 0
  | n + 1, x => if x = 0 then 0 else 1 + bitLen n (x / 2)

/-- Trailing zeros among n bits. -/
def ctzN : Nat → Nat → Nat
  | 0, _ => 0
  | n + 1, x => if x % 2 = 1 then 0 else 1 + ctzN n (x / 2)

/-- sh.t.clz, ctz, pop, bswap of b; clz and ctz of 0 give 64 (R72). -/
def shCountRes (op : ShCount) (b : Word) : Word :=
  match op with
  | .clz => Word.ofNat (64 - bitLen 64 b.toNat)
  | .ctz => Word.ofNat (ctzN 64 b.toNat)
  | .pop => Word.ofNat (popcount 64 b.toNat)
  | .bswap => Word.ofNat (beNat (leBytes 8 b.toNat))

/-- cmp conditions (R72). -/
def cmpHolds (op : CmpOp) (a b : Word) : Bool :=
  match op with
  | .eq => a == b
  | .ne => a != b
  | .lt => a.slt b
  | .le => a.sle b
  | .ltu => decide (a.toNat < b.toNat)
  | .leu => decide (a.toNat ≤ b.toNat)
  | .tst => a &&& b != 0
  | .ntst => a &&& b == 0

/-- mul: low half, or high half of the signed or unsigned product (R72, R91). -/
def mulRes (op : MulOp) (a b : Word) : Word :=
  match op with
  | .lo => a * b
  | .hs => BitVec.ofInt 64 (a.toInt * b.toInt / (2 ^ 64 : Int))
  | .hu => Word.ofNat (a.toNat * b.toNat / 2 ^ 64)

/-- mul.t.o: low half, OV if the signed product does not fit (R91). -/
def mulOFlag (a b : Word) : Word := ovFlag (a.toInt * b.toInt)

/-- div.t.s: quotient truncated toward zero, remainder with the sign of the dividend, flags (R92, R93). -/
def divS (a b : Word) : Word × Word × Word :=
  if b = 0 then (0, a, flagDZ)
  else if a = 0x8000000000000000 && b = 0xFFFFFFFFFFFFFFFF then (a, 0, flagOV)
  else (BitVec.ofInt 64 (a.toInt.tdiv b.toInt), BitVec.ofInt 64 (a.toInt.tmod b.toInt), 0)

/-- div.t.u: unsigned quotient and remainder, flags (R92, R93). -/
def divU (a b : Word) : Word × Word × Word :=
  if b = 0 then (0, a, flagDZ) else (Word.ofNat (a.toNat / b.toNat), Word.ofNat (a.toNat % b.toNat), 0)

end Sys2Proof.Machine
end

