-- ==== Sys2Proof/Machine/Fp.lean ====
section
/-!
DEFINITION. Floating point (04, R95-R106): binary32 and binary64, every rounding attribute, flags, NaNs and flush mode.
Each operation is computed exactly and rounded once.
-/

namespace Sys2Proof

/-- Significand precision, exponent bias and width of a format. -/
def Fmt.prec : Fmt → Nat
  | .d => 53
  | .s => 24
def Fmt.bias : Fmt → Nat
  | .d => 1023
  | .s => 127
def Fmt.expW : Fmt → Nat
  | .d => 11
  | .s => 8
def Fmt.width : Fmt → Nat
  | .d => 64
  | .s => 32

end Sys2Proof

namespace Sys2Proof.Machine
open Sys2Proof

/-- IEEE flags of an operation: bit 0 NV, 1 FDZ, 2 OF, 3 UF, 4 NX (R104). -/
def fNV : Nat := 1
def fFDZ : Nat := 2
def fOF : Nat := 4
def fUF : Nat := 8
def fNX : Nat := 16

/-- A floating-point datum taken apart: a finite value is mant × 2^exp. -/
inductive FVal where
  | fin (neg : Bool) (mant : Nat) (exp : Int)
  | inf (neg : Bool)
  | nan (neg : Bool) (quiet : Bool) (payload : Nat)
deriving DecidableEq, Repr

/-- A datum of a format from its bits, a subnormal read as a zero of its sign under flush (R96, R99). -/
def fpDecode (f : Fmt) (ftz : Bool) (x : Word) : FVal :=
  let n := x.toNat % 2 ^ f.width
  let neg := n / 2 ^ (f.width - 1) == 1
  let e := n / 2 ^ (f.prec - 1) % 2 ^ f.expW
  let m := n % 2 ^ (f.prec - 1)
  if e = 2 ^ f.expW - 1 then
    if m = 0 then .inf neg else .nan neg (m / 2 ^ (f.prec - 2) == 1) (m % 2 ^ (f.prec - 2))
  else if e = 0 then
    if ftz then .fin neg 0 0 else .fin neg m (1 - (f.bias : Int) - (f.prec - 1 : Nat))
  else .fin neg (m + 2 ^ (f.prec - 1)) ((e : Int) - f.bias - (f.prec - 1 : Nat))

/-- The sign bit of a format. -/
def fpSign (f : Fmt) (neg : Bool) : Nat := if neg then 2 ^ (f.width - 1) else 0

/-- Infinity, largest finite number and default NaN of a format (R98, R100). -/
def fpInf (f : Fmt) (neg : Bool) : Word := Word.ofNat (fpSign f neg + (2 ^ f.expW - 1) * 2 ^ (f.prec - 1))
def fpMax (f : Fmt) (neg : Bool) : Word := Word.ofNat (fpSign f neg + (2 ^ f.expW - 1) * 2 ^ (f.prec - 1) - 1)
def fpDefaultNan (f : Fmt) : Word :=
  Word.ofNat ((2 ^ f.expW - 1) * 2 ^ (f.prec - 1) + 2 ^ (f.prec - 2))

/-- A NaN of a format, quietened (R100). -/
def fpNan (f : Fmt) (neg : Bool) (payload : Nat) : Word :=
  Word.ofNat (fpSign f neg + (2 ^ f.expW - 1) * 2 ^ (f.prec - 1) + 2 ^ (f.prec - 2) + payload % 2 ^ (f.prec - 2))

/-- A result: value and flags raised. -/
abbrev FRes := Word × Nat

/-- Rounding attribute: whether a magnitude is rounded up, from its last bit, and how the rest compares with half an
ulp (R97). -/
def roundUp (rm : Nat) (neg odd : Bool) (rest half : Nat) : Bool :=
  match rm with
  | 1 => false
  | 2 => !neg && rest != 0
  | 3 => neg && rest != 0
  | 4 => decide (half ≤ rest) && rest != 0
  | _ => decide (half < rest) || (rest == half && rest != 0 && odd)

/-- mant × 2^exp rounded to a multiple of 2^q: the multiple, and whether it is inexact. -/
def roundAt (rm : Nat) (neg : Bool) (mant : Nat) (exp q : Int) : Nat × Bool :=
  if q ≤ exp then (mant * 2 ^ (exp - q).toNat, false)
  else
    let d := (q - exp).toNat
    let hi := mant / 2 ^ d
    let rest := mant % 2 ^ d
    (if roundUp rm neg (hi % 2 == 1) rest (2 ^ (d - 1)) then hi + 1 else hi, rest != 0)

/-- A nonzero exact value rounded to a format under RM, with overflow, tininess after rounding, UF as its enable
decides, and flush mode (R95, R97, R98, R99). -/
def fpRound (f : Fmt) (rm : Nat) (ftz ufEn : Bool) (neg : Bool) (mant : Nat) (exp : Int) : FRes :=
  let p : Int := f.prec
  let emin : Int := 1 - (f.bias : Int)
  let e : Int := (mant.log2 : Int) + exp
  let (ru, _) := roundAt rm neg mant exp (e - (p - 1))
  let tiny := decide (e < emin) && !(e == emin - 1 && decide (2 ^ f.prec ≤ ru))
  let q := max (e - (p - 1)) (emin - (p - 1))
  let (r, inexact) := roundAt rm neg mant exp q
  if tiny && ftz && !ufEn then (Word.ofNat (fpSign f neg), fUF + fNX)
  else
    let biased := q + (p - 1) + f.bias
    let enc := (biased * 2 ^ (f.prec - 1) + r - 2 ^ (f.prec - 1)).toNat
    if decide (2 ^ f.expW - 1 ≤ enc / 2 ^ (f.prec - 1)) then
      let toInf := match rm with | 1 => false | 2 => !neg | 3 => neg | _ => true
      (if toInf then fpInf f neg else fpMax f neg, fOF + fNX)
    else
      (Word.ofNat (fpSign f neg + enc),
        (if inexact then fNX else 0) + (if tiny && (inexact || ufEn) then fUF else 0))

/-- A value, zero included, rounded; the sign of a zero is given. -/
def fpFinish (f : Fmt) (rm : Nat) (ftz ufEn : Bool) (neg : Bool) (mant : Nat) (exp : Int) : FRes :=
  if mant = 0 then (Word.ofNat (fpSign f neg), 0) else fpRound f rm ftz ufEn neg mant exp

/-- Rounding controls of an operation, as status stands at its trigger (R66). -/
structure FpCtl where
  rm : Nat
  ftz : Bool
  ufEn : Bool
deriving DecidableEq, Repr

/-- The controls a status word holds. -/
def fpCtl (st : Word) : FpCtl :=
  { rm := statusRm st, ftz := bit st bitFtz, ufEn := bit st 20 }

/-- The datum is a NaN, a signalling NaN. -/
def FVal.isNan : FVal → Bool
  | .nan _ _ _ => true
  | _ => false
def FVal.isSnan : FVal → Bool
  | .nan _ q _ => !q
  | _ => false

/-- The NaN result of operands in order: the first NaN quietened, NV for any signalling NaN (R100). -/
def nanResult (f : Fmt) (ops : List FVal) : Option FRes :=
  match ops.find? FVal.isNan with
  | some (.nan n _ p) => some (fpNan f n p, if ops.any FVal.isSnan then fNV else 0)
  | _ => none

/-- An operation invalid without a NaN operand: the default NaN and NV (R100). -/
def fpInvalid (f : Fmt) : FRes := (fpDefaultNan f, fNV)

/-- Exact sum of two finite values: sign for a zero as R97 gives it. -/
def fpSum (f : Fmt) (c : FpCtl) (na : Bool) (ma : Nat) (ea : Int) (nb : Bool) (mb : Nat) (eb : Int) : FRes :=
  let e := min ea eb
  let x : Int := (if na then -1 else 1) * (ma * 2 ^ (ea - e).toNat : Nat)
  let y : Int := (if nb then -1 else 1) * (mb * 2 ^ (eb - e).toNat : Nat)
  let z := x + y
  let neg := if z = 0 then (if na == nb then na else c.rm == 3) else decide (z < 0)
  fpFinish f c.rm c.ftz c.ufEn neg z.natAbs e

/-- add and sub (R95). -/
def fpAdd (f : Fmt) (c : FpCtl) (sub : Bool) (a b : Word) : FRes :=
  let x := fpDecode f c.ftz a
  let y := fpDecode f c.ftz b
  match nanResult f [x, y] with
  | some r => r
  | none =>
    match x, y with
    | .inf n, .inf m => if n == (m != sub) then (fpInf f n, 0) else fpInvalid f
    | .inf n, _ => (fpInf f n, 0)
    | _, .inf m => (fpInf f (m != sub), 0)
    | .fin n ma ea, .fin m mb eb => fpSum f c n ma ea (m != sub) mb eb
    | _, _ => fpInvalid f

/-- mul (R95). -/
def fpMul (f : Fmt) (c : FpCtl) (a b : Word) : FRes :=
  let x := fpDecode f c.ftz a
  let y := fpDecode f c.ftz b
  match nanResult f [x, y] with
  | some r => r
  | none =>
    match x, y with
    | .fin n ma ea, .fin m mb eb => fpFinish f c.rm c.ftz c.ufEn (n != m) (ma * mb) (ea + eb)
    | .inf n, .fin m mb _ => if mb = 0 then fpInvalid f else (fpInf f (n != m), 0)
    | .fin n ma _, .inf m => if ma = 0 then fpInvalid f else (fpInf f (n != m), 0)
    | .inf n, .inf m => (fpInf f (n != m), 0)
    | _, _ => fpInvalid f

/-- a × b has the form 0 × ∞. -/
def zeroTimesInf : FVal → FVal → Bool
  | .fin _ m _, .inf _ => m == 0
  | .inf _, .fin _ m _ => m == 0
  | _, _ => false

/-- fma and fnma: a × b + c or −(a × b) + c with one rounding (R74, R100). -/
def fpFma (f : Fmt) (c : FpCtl) (neg : Bool) (a b cc : Word) : FRes :=
  let x := fpDecode f c.ftz a
  let y := fpDecode f c.ftz b
  let z := fpDecode f c.ftz cc
  match nanResult f [x, y, z] with
  | some r => r
  | none =>
    if zeroTimesInf x y then fpInvalid f
    else match x, y, z with
      | .fin n ma ea, .fin m mb eb, .fin k mc ec => fpSum f c ((n != m) != neg) (ma * mb) (ea + eb) k mc ec
      | .fin _ _ _, .fin _ _ _, .inf k => (fpInf f k, 0)
      | .fin n _ _, .inf m, .inf k => if ((n != m) != neg) == k then (fpInf f k, 0) else fpInvalid f
      | .inf n, .fin m _ _, .inf k => if ((n != m) != neg) == k then (fpInf f k, 0) else fpInvalid f
      | .inf n, .inf m, .inf k => if ((n != m) != neg) == k then (fpInf f k, 0) else fpInvalid f
      | .fin n _ _, .inf m, _ => (fpInf f ((n != m) != neg), 0)
      | .inf n, .fin m _ _, _ => (fpInf f ((n != m) != neg), 0)
      | .inf n, .inf m, _ => (fpInf f ((n != m) != neg), 0)
      | _, _, _ => fpInvalid f

/-- div: the correctly rounded quotient (R105). -/
def fpDiv (f : Fmt) (c : FpCtl) (a b : Word) : FRes :=
  let x := fpDecode f c.ftz a
  let y := fpDecode f c.ftz b
  match nanResult f [x, y] with
  | some r => r
  | none =>
    match x, y with
    | .inf _, .inf _ => fpInvalid f
    | .inf n, .fin m _ _ => (fpInf f (n != m), 0)
    | .fin n _ _, .inf m => (Word.ofNat (fpSign f (n != m)), 0)
    | .fin n ma ea, .fin m mb eb =>
      if mb = 0 then if ma = 0 then fpInvalid f else (fpInf f (n != m), fFDZ)
      else
        let k := 2 * f.prec + 4 + mb.log2 + 1
        let q := ma * 2 ^ k / mb
        let st := if ma * 2 ^ k % mb = 0 then 0 else 1
        fpFinish f c.rm c.ftz c.ufEn (n != m) (2 * q + st) (ea - eb - k - 1)
    | _, _ => fpInvalid f

/-- sqrt of b (R105). -/
def fpSqrt (f : Fmt) (c : FpCtl) (b : Word) : FRes :=
  let y := fpDecode f c.ftz b
  match nanResult f [y] with
  | some r => r
  | none =>
    match y with
    | .inf n => if n then fpInvalid f else (fpInf f false, 0)
    | .fin n m e =>
      if m = 0 then (Word.ofNat (fpSign f n), 0)
      else if n then fpInvalid f
      else
        let k : Nat := 2 * f.prec + 4 + (if (e % 2) = 0 then 0 else 1)
        let v := m * 2 ^ k
        let r := Nat.sqrt v
        let st := if r * r = v then 0 else 1
        fpFinish f c.rm c.ftz c.ufEn false (2 * r + st) ((e - k) / 2 - 1)
    | _ => fpInvalid f

/-- The value of a finite datum against another, both scaled to one exponent: a < b. -/
def finLt (n : Bool) (ma : Nat) (ea : Int) (m : Bool) (mb : Nat) (eb : Int) : Bool :=
  let e := min ea eb
  let x : Int := (if n then -1 else 1) * (ma * 2 ^ (ea - e).toNat : Nat)
  let y : Int := (if m then -1 else 1) * (mb * 2 ^ (eb - e).toNat : Nat)
  decide (x < y)

/-- a < b for data that are no NaN; −0 and +0 equal. -/
def fvLt : FVal → FVal → Bool
  | .inf n, .inf m => n && !m
  | .inf n, _ => n
  | _, .inf m => !m
  | .fin n ma ea, .fin m mb eb => finLt n ma ea m mb eb
  | _, _ => false

/-- The sign of a datum. -/
def FVal.neg : FVal → Bool
  | .fin n _ _ => n
  | .inf n => n
  | .nan n _ _ => n

/-- min and max: IEEE 754-2019 minimum and maximum, −0 below +0 (R102). A subnormal operand read as zero under flush
returns that zero. A subnormal result is tiny and exact: it signals underflow where the UF trap enable is 1 (R98). -/
def fpMinMax (f : Fmt) (c : FpCtl) (mx : Bool) (a b : Word) : FRes :=
  let x := fpDecode f c.ftz a
  let y := fpDecode f c.ftz b
  match nanResult f [x, y] with
  | some r => r
  | none =>
    let lt := fvLt x y || (!fvLt y x && x.neg && !y.neg)
    let z := if lt == mx then y else x
    match z with
    | .fin n m e => (if m = 0 then Word.ofNat (fpSign f n) else (fpRound f c.rm c.ftz c.ufEn n m e).1, (if m = 0 then 0 else (fpRound f c.rm c.ftz c.ufEn n m e).2))
    | .inf n => (fpInf f n, 0)
    | .nan n _ p => (fpNan f n p, 0)

/-- cmpeq, cmplt, cmple (R102). -/
def fpCmp (f : Fmt) (c : FpCtl) (op : FpCmp) (a b : Word) : FRes :=
  let x := fpDecode f c.ftz a
  let y := fpDecode f c.ftz b
  let nan := x.isNan || y.isNan
  let snan := x.isSnan || y.isSnan
  let fl := match op with | .eq => if snan then fNV else 0 | _ => if nan then fNV else 0
  if nan then (0, fl)
  else
    let r := match op with
      | .eq => !fvLt x y && !fvLt y x
      | .lt => fvLt x y
      | .le => !fvLt y x
    (b2w r, fl)

/-- cvti: a float to a signed 64-bit integer under RM (R103). -/
def fpToInt (f : Fmt) (c : FpCtl) (b : Word) : FRes :=
  match fpDecode f c.ftz b with
  | .nan _ _ _ => (0x8000000000000000, fNV)
  | .inf n => (if n then 0x8000000000000000 else 0x7FFFFFFFFFFFFFFF, fNV)
  | .fin n m e =>
    let (r, inexact) := roundAt c.rm n m e 0
    let v : Int := if n then -(r : Int) else r
    if sOverflow v then (if n then 0x8000000000000000 else 0x7FFFFFFFFFFFFFFF, fNV)
    else (BitVec.ofInt 64 v, if inexact then fNX else 0)

/-- cvtf: a signed 64-bit integer to a float (R96, R99). -/
def fpFromInt (f : Fmt) (c : FpCtl) (b : Word) : FRes :=
  fpFinish f c.rm false c.ufEn (decide (b.toInt < 0)) b.toInt.natAbs 0

/-- cvtx: binary64 to binary32 (.d) or binary32 to binary64 (.s) (R101). -/
def fpConvert (src : Fmt) (c : FpCtl) (b : Word) : FRes :=
  let dst : Fmt := match src with | .d => .s | .s => .d
  match fpDecode src c.ftz b with
  | .nan n q p =>
    let p' := match src with
      | .d => bits p 29 22
      | .s => p * 2 ^ 29
    (fpNan dst n p', if q then 0 else fNV)
  | .inf n => (fpInf dst n, 0)
  | .fin n m e => fpFinish dst c.rm c.ftz c.ufEn n m e

end Sys2Proof.Machine
end

