-- ==== Sys2Proof/Machine/Dec.lean ====
section
/-!
DEFINITION. Packed decimal (04, R107-R111): operands of 31 digits and a sign in nibble 0.
-/

namespace Sys2Proof.Machine
open Sys2Proof

/-- Nibble i of a 16-byte operand. -/
def nib (x i : Nat) : Nat := bits x (4 * i) 4

/-- A nibble is valid: a sign 0xA-0xF in nibble 0, a digit elsewhere (R108). -/
def nibValid (x i : Nat) : Bool := if i = 0 then decide (10 ≤ nib x 0) else decide (nib x i ≤ 9)

/-- The first invalid nibble of an operand, in order 0 to 31 (R109). -/
def badNibble (x : Nat) : Option Nat := firstIdx 32 (fun i => !nibValid x i)

/-- The number that digit nibbles 1 to n spell. -/
def decDigits (x : Nat) : Nat → Nat
  | 0 => 0
  | n + 1 => decDigits x n + nib x (n + 1) * 10 ^ n

/-- The sign is minus: 0xB or 0xD (R108). -/
def decNeg (x : Nat) : Bool := nib x 0 == 0xB || nib x 0 == 0xD

/-- The value of a valid operand. -/
def decValue (x : Nat) : Int := if decNeg x then -(decDigits x 31 : Int) else decDigits x 31

/-- The digit nibbles of a number, n of them, above the sign nibble. -/
def decPack : Nat → Nat → Nat
  | 0, _ => 0
  | n + 1, v => v % 10 * 16 + 16 * decPack n (v / 10)

/-- An exact result packed: its low 31 digits, sign 0xC or 0xD, and DOV for more than 31 digits (R108, R110). -/
def decResult (v : Int) : Nat × Word :=
  (decPack 31 (v.natAbs % 10 ^ 31) + (if v < 0 then 0xD else 0xC), if 10 ^ 31 ≤ v.natAbs then flagDOV else 0)

/-- Significant digits of an operand: nibbles up to the highest nonzero digit nibble, valid or not (R111). -/
def decSig (x : Nat) : Nat := (List.range 32).foldl (fun m i => if i != 0 && nib x i != 0 then i else m) 0

/-- The latency of a decimal operation by significant digits (R74, R111). -/
def decLatency (n : Nat) : Nat := if n ≤ 15 then 6 else if n ≤ 23 then 12 else 18

/-- The detail of a data exception: bit 5, the operand, the nibble (R104, R109). -/
def decDetail (operandB : Bool) (i : Nat) : Nat := 0x20 + (if operandB then 0x40 else 0) + i * 128

/-- What a decimal operation does at completion: a result with flags, or a data exception with its detail. -/
def decAddSub (sub : Bool) (a b : Nat) : (Nat × Word) ⊕ Nat :=
  match badNibble a, badNibble b with
  | some i, _ => .inr (decDetail false i)
  | none, some i => .inr (decDetail true i)
  | none, none => .inl (decResult (if sub then decValue a - decValue b else decValue a + decValue b))

/-- dec.t.chk: b unchanged, or its data exception (R109). -/
def decChk (b : Nat) : (Nat × Word) ⊕ Nat :=
  match badNibble b with
  | some i => .inr (decDetail true i)
  | none => .inl (b, 0)

end Sys2Proof.Machine
end

