-- ==== Sys2Proof/Machine/Translate.lean ====
section
/-!
DEFINITION. Translation (08): reaches, TLBs, the table walk with its marks and faults, probes and invalidations. The
reach and walk functions serve the I/O walker too (R199).
-/

namespace Sys2Proof.Machine
open Sys2Proof Csr

/-! Reaches (R200-R203) -/

/-- A reach register is accepted: TYPE not 0b11, SIZE in range for FLAT and TABLED (R202). -/
def reachAccepted (v : Word) : Bool :=
  match XLT_GREACH.TYPE.get v with
  | 0 => true
  | 1 => decide (24 ≤ XLT_GREACH.SIZE.get v) && decide (XLT_GREACH.SIZE.get v ≤ 44)
  | 2 => decide (29 ≤ XLT_GREACH.SIZE.get v) && decide (XLT_GREACH.SIZE.get v ≤ 42)
  | _ => false

/-- The bits of a reach register that a write sets, by its TYPE (R202, R6). With TYPE = OFF bits [63:8] are set to 0: R202 gives
that TYPE no layout (DESIGN CHOICE). -/
def reachBits (v : Word) : Word :=
  match XLT_GREACH.TYPE.get v with
  | 1 => v &&& 0x0FFFFFFFFFFFF7FF
  | 2 => v &&& 0x07FFFFFFFFFFFFFF
  | _ => v &&& 0xFF

/-- A reach matches a virtual address below 2^48 (R200); VBASE bits below SIZE are treated as 0. -/
def reachMatches (r : Word) (va : Nat) : Bool :=
  let size := XLT_GREACH.SIZE.get r
  match XLT_GREACH.TYPE.get r with
  | 1 => va / 2 ^ size == REACH_FLAT.VBASE.get r * 2 ^ 24 / 2 ^ size
  | 2 => va / 2 ^ size == REACH_TABLED.VBASE.get r * 2 ^ 29 / 2 ^ size
  | _ => false

/-- The lowest-numbered reach of a bank that matches (R200). -/
def selectReach (bank : Nat → Word) (va : Nat) : Option Nat :=
  if va < 2 ^ 48 then firstIdx 16 (fun n => reachMatches (bank n) va) else none

/-- The address a FLAT reach gives (R203). -/
def flatAddr (r : Word) (va : Nat) : Nat :=
  let size := XLT_GREACH.SIZE.get r
  REACH_FLAT.PBASE.get r * 2 ^ 24 / 2 ^ size * 2 ^ size + va % 2 ^ size

/-- An access kind is permitted by R, W and X (R203). -/
def permits (r w x : Bool) (k : AccKind) : Bool :=
  match k with
  | .read | .probeR | .pref => r
  | .write | .probeW => w
  | .fetch => x
  | .iinv => true

/-- ACCESS of DETAIL (R216). -/
def accCode (k : AccKind) : Nat :=
  match k with
  | .read | .probeR | .pref | .iinv => 0
  | .write | .probeW => 1
  | .fetch => 2

/-- Fault kinds of R216. -/
def kNOREACH : Nat := 1
def kPERM : Nat := 2
def kINVALID : Nat := 3
def kWALK : Nat := 4
def kWALKDEV : Nat := 5
def kRSVD : Nat := 6
def kCONTEND : Nat := 7

/-- A translation fault: kind, level (0 or 1), reach, entry address. -/
structure XFault where
  kind : Nat
  level : Nat
  reach : Nat
  entry : Nat
deriving DecidableEq, Repr

/-- The DETAIL word of a fault (R216). -/
def detailWord (f : XFault) (k : AccKind) (host : Bool) : Word :=
  Word.ofNat (1 + f.kind * 2 + accCode k * 32 + f.level * 128 + f.reach * 256 + b2n host * 4096 + f.entry * 65536)

/-! Entries and the walk (R206-R208, R213) -/

/-- Reserved bits of a level-1 and a level-2 entry (R207, R208). -/
def l1Reserved (e : Nat) : Bool := bits e 1 15 != 0 || bits e 48 16 != 0
def l2Reserved (e : Nat) : Bool := bits e 7 1 != 0 || bits e 48 16 != 0 || (e.testBit 2 && !e.testBit 1)

/-- An entry read within its 16-byte pair (R213, fetch_entry): the entry, or the fault's kind. -/
def State.fetchEntry (s : State) (a : Nat) : Nat ⊕ Nat :=
  match s.rangeClass a with
  | .device => .inr kWALKDEV
  | .normal => if s.poisonedRange (alignDown a 16) 16 then .inr kWALK else .inl (s.num a 8)
  | _ => .inr kWALK

/-- The address of the level-1 entry of a walk, and of the level-2 entry that a level-1 entry leads to (R206, R207). -/
def walkEntry1 (reach : Word) (va : Nat) : Nat :=
  REACH_TABLED.ROOT.get reach * 65536 + 8 * bits va 29 (XLT_GREACH.SIZE.get reach - 29)
def walkEntry2 (e1 va : Nat) : Nat := bits e1 16 32 * 65536 + 8 * bits va 16 13

/-- The outcome of a walk before its marks: the level-2 entry and its address, or a fault. -/
def State.walkTables (s : State) (reach : Word) (n va : Nat) (k : AccKind) : (Nat × Nat) ⊕ XFault :=
  let a1 := walkEntry1 reach va
  match s.fetchEntry a1 with
  | .inr kd => .inr ⟨kd, 0, n, a1⟩
  | .inl e1 =>
    if !e1.testBit 0 then .inr ⟨kINVALID, 0, n, a1⟩
    else if l1Reserved e1 then .inr ⟨kRSVD, 0, n, a1⟩
    else
      let a2 := walkEntry2 e1 va
      match s.fetchEntry a2 with
      | .inr kd => .inr ⟨kd, 1, n, a2⟩
      | .inl e2 =>
        if !e2.testBit 0 then .inr ⟨kINVALID, 1, n, a2⟩
        else if l2Reserved e2 then .inr ⟨kRSVD, 1, n, a2⟩
        else if !permits (e2.testBit 1) (e2.testBit 2) (e2.testBit 3) k then .inr ⟨kPERM, 1, n, a2⟩
        else .inl (e2, a2)

/-- The entry with the marks an access sets (R213): A for read, write and fetch, D for write. -/
def marked (e : Nat) (k : AccKind) : Nat :=
  let a := match k with | .read | .write | .fetch => true | _ => false
  let e := if a && !e.testBit 4 then e + 16 else e
  if k == .write && !e.testBit 5 then e + 32 else e

/-- A walk of this kind installs its entry (R213). -/
def installs (e : Nat) (k : AccKind) : Bool :=
  match k with
  | .probeR | .pref | .iinv => e.testBit 4
  | .probeW => e.testBit 4 && e.testBit 5
  | _ => true

/-- The TLB entry of a level-2 entry: one page, or its 1 MiB group where CONT is 1 (R211). -/
def entryOf (tag : Option Nat) (va e : Nat) : TlbEnt :=
  let group := e.testBit 6
  { tag := tag, vpage := if group then alignDown (va / 65536) 16 else va / 65536, group := group,
    page := if group then alignDown (bits e 16 32) 16 else bits e 16 32,
    r := e.testBit 1, w := e.testBit 2, x := e.testBit 3, a := e.testBit 4,
    dirty := if e.testBit 5 then (if group then 2 ^ (va / 65536 % 16) else 1) else 0, used := true }

/-- The address an entry gives (R211). A group's gives PAGE[47:20] with va[19:0] for the access that walked too, where R213 names the
entry's own PAGE: the two differ only where PAGE[19:16] does not match the group (R211; DESIGN CHOICE). -/
def TlbEnt.addr (t : TlbEnt) (va : Nat) : Nat :=
  if t.group then t.page * 65536 + va % 2 ^ 20 else t.page * 65536 + va % 65536

/-- An entry covers a virtual address under a tag. -/
def TlbEnt.covers (t : TlbEnt) (tag : Option Nat) (va : Nat) : Bool :=
  t.tag == tag && (if t.group then va / 2 ^ 20 == t.vpage / 16 else va / 65536 == t.vpage)

/-- The dirty-known bit of the page of an address (R209). -/
def TlbEnt.dirtyKnown (t : TlbEnt) (va : Nat) : Bool :=
  t.dirty.testBit (if t.group then va / 65536 % 16 else 0)

/-- A TLB set with an entry put in: over the entry of the same page or group, else in free room, else over a
not-recently-used entry (R209): the first of those not used since the marks were cleared, which they are when every entry is
marked (R209 names the policy alone; DESIGN CHOICE). -/
def tlbInstall (cap : Nat) (l : List TlbEnt) (t : TlbEnt) : List TlbEnt :=
  let same (u : TlbEnt) : Bool := u.tag == t.tag && u.group == t.group && u.vpage == t.vpage
  if l.any same then
    l.map (fun u => if same u then { t with dirty := t.dirty ||| (if t.group then u.dirty else 0) } else u)
  else if l.length < cap then l ++ [t]
  else
    let l := if l.all (fun u => u.used) then l.map (fun u => { u with used := false }) else l
    match l.findIdx? (fun u => !u.used) with
    | some i => modifyNth l i (fun _ => t)
    | none => l

/-- The D-TLB set of an address (R209). -/
def dtlbSet (va : Nat) : Nat := bits va 20 5

/-- The entries an access can hit. -/
def Core.tlbSet (k : Core) (va : Nat) (kind : AccKind) : List TlbEnt :=
  if kind == .fetch then k.itlb else k.dtlb.get [] (dtlbSet va)

/-- The core with that TLB set replaced. -/
def Core.setTlb (k : Core) (va : Nat) (kind : AccKind) (l : List TlbEnt) : Core :=
  if kind == .fetch then { k with itlb := l } else { k with dtlb := k.dtlb.put (dtlbSet va) l }

/-! The translation of a core's access (R199) -/

/-- What a translation finds without a walk. -/
inductive Xlat where
  | ok (pa : Nat)
  /-- The untranslated address has bits [63:48] not zero (R199). -/
  | address
  | fault (detail : Word)
  | walk
  | conflict
deriving DecidableEq, Repr

/-- Host-class addresses of the core are physical (R199). -/
def State.untranslated (s : State) (c : Nat) : Bool :=
  decide (80 ≤ c) || ((s.core c).host && XLT_CTX.HXEN.get (s.coreCsr c (XLT_CTX c)) == 0)

/-- The core translates through its host bank. -/
def State.hostBank (s : State) (c : Nat) : Bool := (s.core c).host

/-- The TLB tag of the core's accesses (R199). -/
def State.tag (s : State) (c : Nat) (host : Bool) : Option Nat :=
  if host then none else some (((s.core c).port 0xB3).toNat % 4096)

/-- A reach register of a core's bank, as it is in force. -/
def State.reach (s : State) (c : Nat) (host : Bool) (n : Nat) : Word :=
  s.coreCsr c (if host then XLT_HREACH c n else XLT_GREACH c n)

/-- The physical address of a core's access, or what stands in its way (R200, R203, R209, R210, R213). -/
def State.xlatAs (s : State) (c : Nat) (host : Bool) (va : Word) (kind : AccKind) : Xlat :=
  match selectReach (s.reach c host) va.toNat with
  | none => .fault (detailWord ⟨kNOREACH, 0, 0, 0⟩ kind host)
  | some n =>
    let r := s.reach c host n
    if XLT_GREACH.TYPE.get r = 1 then
      if permits (bit r 8) (bit r 9) (bit r 10) kind then .ok (flatAddr r va.toNat)
      else .fault (detailWord ⟨kPERM, 0, n, 0⟩ kind host)
    else
      match ((s.core c).tlbSet va.toNat kind).filter (fun t => t.covers (s.tag c host) va.toNat) with
      | [] => .walk
      | [t] =>
        if kind == .write && !t.dirtyKnown va.toNat then .walk
        else if permits t.r t.w t.x kind then .ok (t.addr va.toNat)
        else .fault (detailWord ⟨kPERM, 1, n, 0⟩ kind host)
      | _ => .conflict

/-- The same, for the core's current class (R199). -/
def State.xlat (s : State) (c : Nat) (va : Word) (kind : AccKind) : Xlat :=
  if s.untranslated c then if va.toNat < 2 ^ 48 then .ok va.toNat else .address
  else s.xlatAs c (s.hostBank c) va kind

/-- A hit of a TLB marks the entry as recently used (R209). -/
def State.tlbUse (s : State) (c : Nat) (host : Bool) (va : Word) (kind : AccKind) : State :=
  let hit (t : TlbEnt) : Bool := t.covers (s.tag c host) va.toNat
  let tabled := match selectReach (s.reach c host) va.toNat with
    | some n => XLT_GREACH.TYPE.get (s.reach c host n) != 1
    | none => false
  if tabled && ((s.core c).tlbSet va.toNat kind).any (fun t => hit t && !t.used) then
    s.modCore c (fun k => k.setTlb va.toNat kind ((k.tlbSet va.toNat kind).map (fun t => if hit t then { t with used := true } else t)))
  else s

/-- The same of the core's current class, where it translates. -/
def State.tlbHit (s : State) (c : Nat) (va : Word) (kind : AccKind) : State :=
  if s.untranslated c then s else s.tlbUse c (s.hostBank c) va kind

/-- XLT-CONFLICT: the set concerned, or the whole I-TLB, invalidated and counted (R210). -/
def State.conflict (s : State) (c : Nat) (va : Word) (kind : AccKind) : State :=
  (s.modCore c (fun k => k.setTlb va.toNat kind [])).bump (XLT_CNT c) XLT_CNT.CONFLICTS 1

/-- A store of the walker or the core to NORMAL memory through its caches, dirty there (R180, R213). -/
def State.coreWrite (s : State) (c pa : Nat) (l : List Byte) : State :=
  if s.rangeClass pa == .normal then
    if c < 80 then ((s.keepRes pa l.length).writeCached pa l).storeCaches c pa else s.writeNormal pa l false
  else s.writeThrough pa l

/-- A mark that the walker writes: through the core's L2, with the copy in L1D brought up to date (R180, R213). -/
def State.walkerWrite (s : State) (c pa : Nat) (l : List Byte) : State :=
  if s.rangeClass pa == .normal && decide (c < 80) then
    let s := (s.keepRes pa l.length).writeCached pa l
    (((s.invalidateOthers (lineOf pa) (some c)).retireFills c (lineOf pa)).storeL2 c pa)
  else s.coreWrite c pa l

/-- This core may set marks: in split mode, or as leading member (R215). -/
def State.setsMarks (s : State) (c : Nat) : Bool :=
  match s.groupOf c with
  | some _ => s.indexOf c == 0
  | none => true

/-- A walk installs its entry. A group entry that the entry of a stored-to page contradicts is dropped, and the page is
entered alone (R211, R212). -/
def State.tlbFill (s : State) (c : Nat) (host : Bool) (va e : Nat) (kind : AccKind) : State :=
  s.modCore c (fun k =>
    let l := k.tlbSet va kind
    let tag := s.tag c host
    let clash (t : TlbEnt) : Bool := kind == .write && t.group && t.covers tag va
      && (!e.testBit 6 || t.page / 16 != bits e 20 28)
    let e := if l.any clash && e.testBit 6 then e - 64 else e
    k.setTlb va kind (tlbInstall (if kind == .fetch then 64 else 8) (l.filter (fun t => !clash t)) (entryOf tag va e)))

/-- The lines of the entries that a walk reads, through the core's L2 (R213). -/
def State.walkReads (s : State) (c : Nat) (reach : Word) (va : Nat) : State :=
  let a1 := walkEntry1 reach va
  let s := (s.l2Access c a1).retireFills c (lineOf a1)
  match s.fetchEntry a1 with
  | .inr _ => s
  | .inl e1 =>
    if !e1.testBit 0 || l1Reserved e1 then s
    else (s.l2Access c (walkEntry2 e1 va)).retireFills c (lineOf (walkEntry2 e1 va))

/-- The array's check of an entry that a walk reads, the level-1 or the level-2 one (R192, R217). -/
def State.walkCheck (s : State) (c : Nat) (host : Bool) (va : Word) (e : Ecc) (second : Bool) : State :=
  match selectReach (s.reach c host) va.toNat with
  | none => s
  | some n =>
    let a1 := walkEntry1 (s.reach c host n) va.toNat
    let a := if second then (match s.fetchEntry a1 with | .inl e1 => walkEntry2 e1 va.toNat | .inr _ => a1) else a1
    if XLT_GREACH.TYPE.get (s.reach c host n) = 1 || s.rangeClass a != .normal then s
    else s.arrayCheck c (lineOf a) e (BitVec.ofNat 4 (2 ^ subOf a)) accWalk

/-- A group entry that the entry of a stored-to page contradicts is dropped, whatever that entry permits (R212). -/
def State.dropClash (s : State) (c : Nat) (host : Bool) (va e : Nat) (kind : AccKind) : State :=
  let clash (t : TlbEnt) : Bool := kind == .write && t.group && t.covers (s.tag c host) va
    && (!e.testBit 6 || t.page / 16 != bits e 20 28)
  if ((s.core c).tlbSet va kind).any clash then
    s.modCore c (fun k => k.setTlb va kind ((k.tlbSet va kind).filter (fun t => !clash t)))
  else s

/-- The walk of a miss (R213): `fails` compare-and-swaps meet another master's change first. The answer is the
translation's fault, if it has one. A reach made FLAT meanwhile translates by its new fields (R204). A cm.t.pref records no fault
(R187). -/
def State.walk (s : State) (c : Nat) (host : Bool) (va : Word) (kind : AccKind) (fails : Nat) : State × Option XFault :=
  match selectReach (s.reach c host) va.toNat with
  | none => (s, some ⟨kNOREACH, 0, 0, 0⟩)
  | some n =>
    let r := s.reach c host n
    if XLT_GREACH.TYPE.get r = 1 then
      (s, if permits (bit r 8) (bit r 9) (bit r 10) kind then none else some ⟨kPERM, 0, n, 0⟩)
    else
    let s := if c < 80 then s.bump (XLT_CNT c) XLT_CNT.WALKS 1 else s
    let s := s.walkReads c r va.toNat
    match s.walkTables r n va.toNat kind with
    | .inr f =>
      let s := if (f.kind = kWALK || f.kind = kWALKDEV) && kind != .pref then
        s.fault 0x2C (mstCore c) accWalk (Word.ofNat f.entry) else s
      (if f.level = 1 && f.kind != kWALK && f.kind != kWALKDEV then s.dropClash c host va.toNat (s.num f.entry 8) kind else s, some f)
    | .inl (e, a2) =>
      let new := marked e kind
      if new != e && s.setsMarks c && decide (0 < fails) && decide (64 ≤ fails) then
        ((s.bump (XLT_CNT c) XLT_CNT.REWALKS 64).dropClash c host va.toNat e kind, some ⟨kCONTEND, 1, n, a2⟩)
      else
        let s := if new != e && s.setsMarks c then
          (if 0 < fails then s.bump (XLT_CNT c) XLT_CNT.REWALKS fails else s).walkerWrite c a2 (leBytes 8 new) else s
        (if installs new kind then s.tlbFill c host va.toNat new kind else s, none)

/-- xlt.res of a probe that finds its translation in a TLB or a FLAT reach (R218). -/
def State.probeResult (s : State) (c : Nat) (va : Word) (kind : AccKind) : Option Word :=
  if s.untranslated c then
    if va.toNat < 2 ^ 48 then some (Word.ofNat (0xE + va.toNat * 65536))
    else some (detailWord ⟨kNOREACH, 0, 0, 0⟩ kind true)
  else
    let host := s.hostBank c
    match s.xlatAs c host va kind with
    | .ok pa =>
      let n := (selectReach (s.reach c host) va.toNat).getD 0
      let r := s.reach c host n
      if XLT_GREACH.TYPE.get r = 1 then
        some (Word.ofNat (bits r.toNat 8 3 * 2 + 128 + n * 256 + pa * 65536))
      else
        match ((s.core c).tlbSet va.toNat kind).find? (fun t => t.covers (s.tag c host) va.toNat) with
        | some t => some (Word.ofNat (b2n t.r * 2 + b2n t.w * 4 + b2n t.x * 8 + b2n t.a * 16
            + b2n (t.dirtyKnown va.toNat) * 32 + b2n t.group * 64 + n * 256 + pa * 65536))
        | none => none
    | .fault d => some d
    | _ => none

/-- xlt.res of a probe after its walk (R218): from the level-2 entry, or the DETAIL word. -/
def State.probeWalk (s : State) (c : Nat) (va : Word) (kind : AccKind) : State × Word :=
  let host := s.hostBank c
  match selectReach (s.reach c host) va.toNat with
  | none => (s, detailWord ⟨kNOREACH, 0, 0, 0⟩ kind host)
  | some n =>
    if XLT_GREACH.TYPE.get (s.reach c host n) = 1 then (s, (s.probeResult c va kind).getD 0)
    else
    let (s, f) := s.walk c host va kind 0
    match f with
    | some f => (s, detailWord f kind host)
    | none =>
      match s.walkTables (s.reach c host n) n va.toNat kind with
      | .inl (e, _) =>
        let t := entryOf none va.toNat e
        (s, Word.ofNat (bits e 1 3 * 2 + bits e 4 2 * 16 + b2n t.group * 64 + n * 256 + t.addr va.toNat * 65536))
      | .inr f => (s, detailWord f kind host)

/-- The page that the tables give cm.t.iinv after a walk; none where translation faults (R187). -/
def State.iinvWalk (s : State) (c : Nat) (va : Word) : State × Option Nat :=
  let host := s.hostBank c
  let r := s.walk c host va .iinv 0
  match r.2, selectReach (s.reach c host) va.toNat with
  | none, some n =>
    let reach := s.reach c host n
    if XLT_GREACH.TYPE.get reach = 1 then (r.1, some (flatAddr reach va.toNat))
    else match r.1.walkTables reach n va.toNat .iinv with
      | .inl (e, _) => (r.1, some ((entryOf none va.toNat e).addr va.toNat))
      | .inr _ => (r.1, none)
  | _, _ => (r.1, none)

/-! Invalidations (R219) -/

/-- The entries an invalidation keeps. -/
def Core.keepTlb (k : Core) (keep : TlbEnt → Bool) : Core :=
  { k with itlb := k.itlb.filter keep, dtlb := k.dtlb.mapv (fun l => l.filter keep) }

/-- Entries removed from the TLBs of every core; a probe whose walk came before the invalidation walks again (R219). -/
def State.invTlb (s : State) (drop : TlbEnt → Bool) : State :=
  { s with cores := s.cores.mapv (fun k => { k.keepTlb (fun t => !drop t) with walked := none }) }

/-- xlt.t.inv.va: entries of the tag that b names covering the address. -/
def State.invVa (s : State) (b : Word) : State :=
  let va := bits b.toNat 0 48
  let tag : Option Nat := if bit b 48 then none else some (bits b.toNat 52 12)
  s.invTlb (fun t => t.covers tag va)

/-- xlt.t.inv.ctx: entries of the host tag or of the allotment in xlt.ctx. -/
def State.invCtx (s : State) (c : Nat) (b : Word) : State :=
  let tag : Option Nat := if bit b 0 then none else some (((s.core c).port 0x3C0).toNat % 4096)
  s.invTlb (fun t => t.tag == tag)

/-- xlt.t.inv.all: every entry. -/
def State.invAll (s : State) : State := s.invTlb (fun _ => true)

end Sys2Proof.Machine
end

