-- ==== Sys2Proof/Machine/Units.lean ====
section
/-!
DEFINITION. The fixed-latency units of a core (03, 04): starting an operation, completing it, and the triggers of alu,
sh, cmp, mul, div, fpu and dec.
-/

namespace Sys2Proof.Machine
open Sys2Proof Csr

/-- A member's group exchanges its asynchronous inputs: a triad, or a twin with IXCH = 1; a write of IXCH is in force from the
checkpoint after it (R146, R153). -/
def State.exchanges (s : State) (g i : Nat) : Bool :=
  s.fld (TWN_GCFG g) TWN_GCFG.MODE == 2 ||
    (((s.group g).ixch.find? (fun e => decide (s.openInterval (s.memberCore g i) ≤ e.1))).map Prod.snd).getD
      (s.flag (TWN_GCFG g) TWN_GCFG.IXCH)

/-- The unconfirmed entries of a member, oldest first (R148). -/
def Member.unconfirmed (m : Member) : List StoreEnt := m.closed.flatMap Interval.outs ++ m.outs

/-- The interval a member has open, where another member has closed it (R146). -/
def Group.ahead (g : Group) (i : Nat) : Option Interval :=
  let m := g.members.get Member.reset i
  (g.members.filter (fun e => e.1 != i)).findSome? (fun e => e.2.closed[m.closed.length]?)

/-- 14 of the 16 ways of some L2 set hold lines filled in intervals not yet confirmed (R147 item 4). -/
def Core.barredFull (k : Core) : Bool :=
  let l := k.l2.filter (fun e => e.2.barred != 0)
  l.any (fun e => decide (14 ≤ (l.filter (fun f => f.1 / 16 == e.1 / 16)).length))

/-- A CSR is an entry of CST_CPATCH. -/
def isCpatch (a : Nat) : Bool := decide (0xA001000 ≤ a) && decide (a < 0xA001000 + 80 * 0x40)

/-- A write to IXCH, or to CST_CPATCH of a member, waits for the end of the leading member's interval (R147 item 7). -/
def State.closesFor (s : State) (g : Nat) : Bool :=
  let n := s.openInterval (s.memberCore g 0)
  (s.group g).ixch.any (fun e => e.1 == n) || (s.group g).later.any (fun e => e.1 == n && isCpatch e.2.1)

/-- A result that the checker holds has still to be taken by a member at the checkpoint where it stands (R156). -/
def Group.heldWaits (g : Group) (i : Nat) : Bool :=
  let m := g.members.get Member.reset i
  m.retired == 0 && !m.taken && g.held.any (fun e => e.2.epoch == g.confirmed + m.closed.length)

/-- No close condition of R147 holds for the leading member at its bundle boundary. The bounds are looked at before a bundle: one
with several outputs may take a member past 64 entries (R147 closes at bundle boundaries, R148 has 64 registers; DEDUCED). -/
def State.opens (s : State) (g : Nat) : Bool :=
  let m := (s.group g).members.get Member.reset 0
  decide (m.retired < 256) && decide (m.unconfirmed.length < 64)
    && (s.exchanges g 0 || decide (m.inputs.length < 16)) && !(s.core (s.memberCore g 0)).barredFull && !s.closesFor g

/-- The leading member waits at a poisoned value that it read again as its interval is run again (R161): a trailing member goes up
to its place. -/
def State.poisonWait (s : State) (g : Nat) : Option Nat :=
  match (s.core (s.memberCore g 0)).stall with
  | some (.poison _) => some ((s.group g).members.get Member.reset 0).retired
  | _ => none

/-- A bundle of a member may retire (R146, R147): the leading member within its interval's bounds, and no command waiting, unless
it has a held result to take; a trailing member up to where the leading one closed; an outvoted one not before it is refreshed
(R159). -/
def State.mayRetire (s : State) (g i : Nat) : Bool :=
  let gr := s.group g
  let m := gr.members.get Member.reset i
  gr.refresh != some i &&
  match gr.ahead i with
  | some iv => decide (m.retired < iv.count)
  | none =>
    if i = 0 then (gr.cmd.isNone || gr.heldWaits 0) && s.opens g
    else m.closed.isEmpty && (match s.poisonWait g with | some n => decide (m.retired < n) | none => false)

/-- A member may take up its next bundle: one that may retire, or one whose exception another member entered at the end of
its interval, or where the leading member waits at poison. -/
def State.mayIssue (s : State) (g i : Nat) : Bool :=
  let gr := s.group g
  let m := gr.members.get Member.reset i
  s.mayRetire g i || (match gr.ahead i with
    | some iv => gr.refresh != some i && m.retired == iv.count && decide (m.entries < iv.entries)
    | none => i != 0 && m.closed.isEmpty && gr.refresh != some i && s.poisonWait g == some m.retired)

/-- A member may enter a trap: the leading member while its interval need not close, a trailing one up to where the leading one
closed or waits at poison; none while its bundle waits for a result that the checker holds (R114, R156). -/
def State.mayEnter (s : State) (g i : Nat) : Bool :=
  let gr := s.group g
  let m := gr.members.get Member.reset i
  gr.refresh != some i && !gr.heldWaits i &&
  match gr.ahead i with
  | some iv => decide (m.retired ≤ iv.count)
  | none =>
    if i = 0 then gr.cmd.isNone && s.opens g
    else m.closed.isEmpty && (match s.poisonWait g with | some n => decide (m.retired ≤ n) | none => false)

/-- A core executes: SPLIT or a MEMBER of a group that runs and whose checks pass, once a start has reached TRICKLE (a
headworks core always), its island in RUN, out of fallow (R19, R145, R146, R401). -/
def State.coreActive (s : State) (c : Nat) (may : Nat → Nat → Bool) : Bool :=
  s.islandRuns (coreIsland c) && !s.fallow && !s.inReset && !(s.core c).failed && !(s.core c).restoring && !(s.core c).returning &&
    (if 80 ≤ c then s.startStage != .begun && s.startStage != .image 3 else s.fld HWK_SSTAT HWK_SSTAT.PHASE != 0 &&
      (match s.role c with
       | 0 => true
       | 2 =>
         let g := s.fld (TWN_CSTATE c) TWN_CSTATE.GROUP
         match s.fld (TWN_GSTAT g) TWN_GSTAT.STATE with
         | 1 | 2 | 4 => may g (s.indexOf c)
         | 3 => true
         | _ => false
       | _ => false))

/-- A core issues bundles. -/
def State.coreRuns (s : State) (c : Nat) : Bool := s.coreActive c s.mayIssue

/-- The clock latencies are counted in (R64). -/
def State.clock (s : State) (c : Nat) : Nat := (s.core c).cc

/-- The issue distance by which a group member's reads are judged (R154), none for any other core. -/
def State.distance (s : State) (c : Nat) : Option Nat := if (s.groupOf c).isSome then some (s.core c).dist else none

/-- The issue distance from which a member's reads see a result of a latency. -/
def seenAt (d : Option Nat) (lat : Nat) : Nat :=
  match d with
  | some d => d + lat
  | none => 0

/-- The order in which operations complete: by completion, then trigger, then unit number (R65). -/
def Op.before (a b : Op) : Bool :=
  decide (a.due < b.due) || (a.due == b.due &&
    (decide (a.issued < b.issued) || (a.issued == b.issued && decide (a.path ≤ b.path))))

/-- An operation put among those in flight. -/
def insertOp : List Op → Op → List Op
  | [], o => [o]
  | p :: t, o => if o.before p && !p.before o then o :: p :: t else p :: insertOp t o

/-- A completion trap put among those arisen, earliest-triggered first (R69). -/
def insertTrap : List CTrap → CTrap → List CTrap
  | [], o => [o]
  | p :: t, o => if o.issued < p.issued then o :: p :: t else p :: insertTrap t o

/-- A result register written: an interlocked one takes the poison mark of its data, and poisoned data reads 0 (R118, R128). -/
def Core.result (k : Core) (p : Nat) (v : Word) (poison : Option Nat) : Core :=
  let k := k.setPort p (if poison.isSome then 0 else v)
  if interlockedPorts.contains p then
    { k with
      arch := { k.arch with poison := if poison.isSome then insertNat k.arch.poison p else removeNat k.arch.poison p }
      poisonAt := (match poison with | some a => k.poisonAt.put p a | none => k.poisonAt.erase p) }
  else k

/-- A member's results put among those its reads do not see yet, in the order in which they will (R154). -/
def insertHidden : List (Nat × List (Nat × Word)) → Nat × List (Nat × Word) → List (Nat × List (Nat × Word))
  | [], o => [o]
  | p :: t, o => if o.1 < p.1 then o :: p :: t else p :: insertHidden t o

/-- An operation completes: flags accrue, results are written unless it traps (R65, R69); a member's reads see them by issue
distance (R154). -/
def Core.complete (k : Core) (o : Op) : Core :=
  let k := k.accrue o.flags
  match o.trap with
  | some (cause, detail) => { k with ctraps := insertTrap k.ctraps ⟨cause, detail, o.port, o.bundle, o.issued⟩ }
  | none =>
    if o.seen = 0 then o.writes.foldl (fun k w => k.result w.1 w.2 o.poison) k
    else { k with hidden := insertHidden k.hidden (o.seen, o.writes) }

/-- A member's results that its reads see from an issue distance on (R154). -/
def Core.reveal (k : Core) (dist : Nat) : Core :=
  (k.hidden.filter (fun e => decide (e.1 ≤ dist))).foldl (fun k e => k.setPorts e.2)
    { k with hidden := k.hidden.filter (fun e => !decide (e.1 ≤ dist)) }

/-- Every operation due by a time completes, in order (R64, R65). -/
def Core.settle (k : Core) (now : Nat) : Core :=
  ((k.inflight.filter (fun o => decide (o.due ≤ now))).foldl Core.complete
    { k with inflight := k.inflight.filter (fun o => !decide (o.due ≤ now)) }).reveal k.dist

/-- Every operation in flight completes, as the wait of R82 lets it; the core's clock reaches the last completion. -/
def Core.settleOps (k : Core) : Core :=
  k.inflight.foldl Core.complete { k with inflight := [], cc := k.inflight.foldl (fun n o => max n o.due) k.cc }

/-- Every result of a member is seen by its reads, as after a trap or at a checkpoint that it goes back to (R82, R154). -/
def Core.revealAll (k : Core) : Core := k.hidden.foldl (fun k e => k.setPorts e.2) { k with hidden := [] }

/-- Both. -/
def Core.settleAll (k : Core) : Core := k.settleOps.revealAll

/-- A result no longer outstanding, for the core and for the fences behind it. -/
def Core.dropAwait (k : Core) (a : Await) : Core :=
  { k with awaits := k.awaits.erase a, fences := k.fences.map (fun f => { f with loads := f.loads.erase a }) }

/-- The results outstanding on the port of one of them, older and newer than it. -/
def olderAwaits (l : List Await) (a : Await) : List Await := (l.takeWhile (fun x => x != a)).filter (fun x => x.port == a.port)
def newerAwaits (l : List Await) (a : Await) : List Await :=
  ((l.dropWhile (fun x => x != a)).drop 1).filter (fun x => x.port == a.port)

/-- The value of an interlocked port arrives. On a main core it is stored unless a newer operation targets the port, and an older
one's is then not stored even if it arrives later (R70); on a headworks core each is stored as it arrives (R65, R84). -/
def Core.deliver (k : Core) (hw : Bool) (a : Await) : Core :=
  let r := k.dropAwait a
  if hw then r.result a.port a.value (if a.poison then some a.addr else none)
  else if !(newerAwaits k.awaits a).isEmpty then r
  else ((olderAwaits k.awaits a).foldl Core.dropAwait r).result a.port a.value (if a.poison then some a.addr else none)

/-- Every value outstanding arrives, and every operation in flight completes; a member's reads go on to see results by issue
distance (R150 step 2, R154). -/
def Core.quietOps (k : Core) (hw : Bool) : Core := k.awaits.foldl (fun k a => k.deliver hw a) k.settleOps

/-- The wait of R82: every operation in flight completes and every interlocked value arrives. -/
def Core.quiet (k : Core) (hw : Bool) : Core := k.awaits.foldl (fun k a => k.deliver hw a) k.settleAll

/-- The paths that are not pipelined: div, the divide path of each fpu, dec (R64). -/
def slowPath (p : Nat) : Bool := p == 0x2C0 || p == 0x301 || p == 0x341 || p == 0x380

/-- An operation started; an uncompleted one on the same non-pipelined path is abandoned (R64). -/
def Core.start (k : Core) (o : Op) : Core :=
  { k with inflight := insertOp (if slowPath o.path then k.inflight.filter (fun q => q.path != o.path)
                                 else k.inflight) o }

/-- A fixed-latency operation before it has a time: path, latency, results, flags, completion trap. -/
structure Fixed where
  path : Nat
  lat : Nat
  writes : List (Nat × Word)
  flags : Word
  trap : Option (Nat × Nat)
deriving DecidableEq, Repr

/-- One result, no trap. -/
def simple (path lat port : Nat) (v flags : Word) : Fixed := ⟨path, lat, [(port, v)], flags, none⟩

/-- A trigger of alu k (R72, R91). -/
def aluFixed (k : Core) (base op : Nat) (b : Word) : Fixed :=
  let a := k.port base
  let res := base + 1
  match op with
  | 0x8 => simple base 1 res (aluAddRes false a b).1 0
  | 0x9 => simple base 1 res (aluAddRes true a b).1 0
  | 0xA => simple base 1 res (aluAddRes false a b).1 (aluAddRes false a b).2
  | 0xB => simple base 1 res (aluAddRes true a b).1 (aluAddRes true a b).2
  | 0xC => simple base 1 res (aluBitRes .and a b) 0
  | 0xD => simple base 1 res (aluBitRes .or a b) 0
  | 0xE => simple base 1 res (aluBitRes .xor a b) 0
  | 0xF => simple base 1 res (aluBitRes .andn a b) 0
  | 0x10 => simple base 1 res (aluMinRes .min a b) 0
  | 0x11 => simple base 1 res (aluMinRes .max a b) 0
  | 0x12 => simple base 1 res (aluMinRes .minu a b) 0
  | 0x13 => simple base 1 res (aluMinRes .maxu a b) 0
  | _ => simple base 1 res b 0

/-- A trigger of sh (R72, R482). -/
def shFixed (k : Core) (op : Nat) (b : Word) : Fixed :=
  let a := k.port 0x180
  let f := k.port 0x181
  simple 0x180 1 0x182
    (match op with
     | 0x8 => shRes .shl a b
     | 0x9 => shRes .shr a b
     | 0xA => shRes .sar a b
     | 0xB => shRes .rol a b
     | 0xC => shRes .ror a b
     | 0xD => shExt false f b
     | 0xE => shExt true f b
     | 0xF => shIns f a b
     | 0x10 => shCountRes .clz b
     | 0x11 => shCountRes .ctz b
     | 0x12 => shCountRes .pop b
     | _ => shCountRes .bswap b) 0

/-- The condition of a cmp trigger by its offset. -/
def cmpOpOf (op : Nat) : CmpOp :=
  match op with
  | 0x8 => .eq | 0x9 => .ne | 0xA => .lt | 0xB => .le | 0xC => .ltu | 0xD => .leu | 0xE => .tst | _ => .ntst

/-- A trigger of cmp: cmp.res, and the predicate that cmp.pd names (R72, R73). -/
def cmpFixed (k : Core) (op : Nat) (b : Word) : Fixed :=
  let v := b2w (cmpHolds (cmpOpOf op) (k.port 0x1A0) b)
  let pd := (k.port 0x1A1).toNat % 8
  ⟨0x1A0, 1, (0x1A2, v) :: (if pd = 0 then [] else [(0x80 + pd, v)]), 0, none⟩

/-- A trigger of mul, into the mx register that mul.d selects (R72, R91). -/
def mulFixed (k : Core) (op : Nat) (b : Word) : Fixed :=
  let a := k.port 0x2A0
  let d := 0x90 + (k.port 0x2A1).toNat % 4
  match op with
  | 0x8 => simple 0x2A0 4 d (mulRes .lo a b) 0
  | 0x9 => simple 0x2A0 4 d (mulRes .hs a b) 0
  | 0xA => simple 0x2A0 4 d (mulRes .hu a b) 0
  | _ => simple 0x2A0 4 d (mulRes .lo a b) (mulOFlag a b)

/-- A trigger of div, into dq and dm (R72, R92, R93). -/
def divFixed (k : Core) (op : Nat) (b : Word) : Fixed :=
  let r := if op = 0x8 then divS (k.port 0x2C0) b else divU (k.port 0x2C0) b
  ⟨0x2C0, 26, [(0x94, r.1), (0x95, r.2.1)], r.2.2, none⟩

/-- An fpu result, in bits [31:0] for a binary32 one, with its flags and its completion trap (R104). -/
def fpFixed (path lat port : Nat) (te : Nat) (r : FRes) : Fixed :=
  ⟨path, lat, [(port, r.1)], ieeeFlags r.2, if fpTraps r.2 te then some (0x40, r.2 % 32) else none⟩

/-- A trigger of an fpu (R74, R95-R105). -/
def fpuFixed (k : Core) (base op : Nat) (f : Fmt) (b : Word) : Fixed :=
  let a := k.port base
  let c := fpCtl (k.port 0x8C)
  let te := statusFpTe (k.port 0x8C)
  let d := 0x96 + (k.port (base + 2)).toNat % 4
  match op with
  | 0x0 => fpFixed base 4 d te (fpAdd f c false a b)
  | 0x1 => fpFixed base 4 d te (fpAdd f c true a b)
  | 0x2 => fpFixed base 4 d te (fpMul f c a b)
  | 0x3 => fpFixed base 5 d te (fpFma f c false a b (k.port (base + 1)))
  | 0x4 => fpFixed base 5 d te (fpFma f c true a b (k.port (base + 1)))
  | 0x5 => fpFixed (base + 1) (match f with | .d => 22 | .s => 14) d te (fpDiv f c a b)
  | 0x6 => fpFixed (base + 1) (match f with | .d => 26 | .s => 16) d te (fpSqrt f c b)
  | 0x7 => fpFixed base 4 d te (fpMinMax f c false a b)
  | 0x8 => fpFixed base 4 d te (fpMinMax f c true a b)
  | 0x9 => fpFixed base 4 d te (fpCmp f c .eq a b)
  | 0xA => fpFixed base 4 d te (fpCmp f c .lt a b)
  | 0xB => fpFixed base 4 d te (fpCmp f c .le a b)
  | 0xC => fpFixed base 4 d te (fpToInt f c b)
  | 0xD => fpFixed base 4 d te (fpFromInt f c b)
  | _ => fpFixed base 4 d te (fpConvert f c b)

/-- A 16-byte decimal value from its halves. -/
def decWide (h l : Word) : Nat := h.toNat * 2 ^ 64 + l.toNat

/-- A trigger of dec (R74, R107-R111). -/
def decFixed (k : Core) (op : Nat) (b : Word) : Fixed :=
  let x := decWide (k.port 0x380) (k.port 0x381)
  let y := decWide (k.port 0x382) b
  let lat := if op = 0xA then decLatency (decSig y) else decLatency (max (decSig x) (decSig y))
  match (if op = 0xA then decChk y else decAddSub (op == 0x9) x y) with
  | .inl (v, fl) => ⟨0x380, lat, [(0x383, Word.ofNat (v / 2 ^ 64)), (0x384, Word.ofNat v)], fl, none⟩
  | .inr d => ⟨0x380, lat, [(0x383, 0), (0x384, 0)], 0, some (0x41, d)⟩

/-- The operation a fixed-latency trigger starts, none for other ports and for the triggers of other units (R62, R63). -/
def Core.fixed (k : Core) (p : Nat) (b : Word) : Option Fixed :=
  let u := unitOf p
  if !isTrigger p then none
  else if u = 0x100 || u = 0x120 || u = 0x140 || u = 0x160 then some (aluFixed k u (p - u) b)
  else if u = 0x180 then some (shFixed k (p - u) b)
  else if u = 0x1A0 then some (cmpFixed k (p - u) b)
  else if u = 0x2A0 then some (mulFixed k (p - u) b)
  else if u = 0x2C0 then some (divFixed k (p - u) b)
  else if u = 0x300 || u = 0x340 then
    some (if p - u < 0x20 then fpuFixed k u (p - u - 0x10) .d b else fpuFixed k u (p - u - 0x20) .s b)
  else if u = 0x380 then some (decFixed k (p - u) b)
  else none

/-- The operation started at a time, and an issue distance for a member, by a bundle. -/
def Core.startFixed (k : Core) (p : Nat) (b : Word) (now : Nat) (d : Option Nat) (bundle : Word) : Core :=
  match k.fixed p b with
  | some f => k.start ⟨f.path, p, bundle, now, now + f.lat, f.writes, f.flags, f.trap, seenAt d f.lat, none⟩
  | none => k

/-- The exception is a machine check of the control store, which no bundle raises again (R142, R143). -/
def Exc.cstore (e : Exc) : Bool := e.cause == 0x60 && (e.sub == 3 || e.sub == 4)

/-- A synchronous exception of the bundle about to issue, kept until TRAP_ENTRY; the first one stands (R114), but for a machine check
of the control store: what the bundle itself raised it raises again (R142, R143). -/
def State.raise (s : State) (c : Nat) (e : Exc) : State :=
  s.modCore c (fun k => if k.exc.any (fun x => !e.cstore || x.cstore) then k else { k with exc := some e })

/-- An exception without a data address or a detail. -/
def plainExc (cause sub slot : Nat) : Exc := ⟨cause, sub, slot, 0, 0, 0, [], false⟩

/-- INT-DIVIDE-BY-ZERO: a div trigger of 0 under DZ_TE (R94). -/
def Core.divTraps (k : Core) (p : Nat) (b : Word) : Bool :=
  isTrigger p && unitOf p == 0x2C0 && b == 0 && bit (k.port 0x8C) bitDzTe

/-- Offsets of the operation selectors. -/
def aluBitOff : AluBit → Nat
  | .and => 0xC | .or => 0xD | .xor => 0xE | .andn => 0xF
def aluMinOff : AluMin → Nat
  | .min => 0x10 | .max => 0x11 | .minu => 0x12 | .maxu => 0x13
def shOpOff : ShOp → Nat
  | .shl => 0x188 | .shr => 0x189 | .sar => 0x18A | .rol => 0x18B | .ror => 0x18C
def shCountOff : ShCount → Nat
  | .clz => 0x190 | .ctz => 0x191 | .pop => 0x192 | .bswap => 0x193
def cmpOpOff : CmpOp → Nat
  | .eq => 0x1A8 | .ne => 0x1A9 | .lt => 0x1AA | .le => 0x1AB | .ltu => 0x1AC | .leu => 0x1AD | .tst => 0x1AE
  | .ntst => 0x1AF
def mulOpOff : MulOp → Nat
  | .lo => 0x2A8 | .hs => 0x2A9 | .hu => 0x2AA
def fpCmpOff : FpCmp → Nat
  | .eq => 9 | .lt => 0xA | .le => 0xB

end Sys2Proof.Machine
end

