-- ==== Sys2Proof/Machine/Repair.lean ====
section
/-!
DEFINITION. The repair store (19, R453) and the use of spares every block shares (R451).
-/

namespace Sys2Proof.Machine
open Sys2Proof Csr

/-- Kinds of a repair record: the spec names the kinds of R451, not their encoding (log entry 11). -/
def repCore : Nat := 0
def repChecker : Nat := 1
def repLane : Nat := 2
def repRow : Nat := 3
def repChannel : Nat := 4
def repCisRow : Nat := 5
def repCipher : Nat := 6
def repCmp : Nat := 7
def repHrRx : Nat := 8
def repHrTx : Nat := 9

/-- A completed substitution appended to the repair store; a full store records SPR-STORE (R453). -/
def State.repaired (s : State) (kind unit : Nat) : State :=
  if s.repair.length < 262144 then
    let s := { s with repair := s.repair ++ [(kind, unit)] }
    s.setFs SPR_RSTAT [(SPR_RSTAT.RECORDS, s.repair.length), (SPR_RSTAT.FULL, b2n (s.repair.length == 262144))]
  else s.fault0 0x9F mstNone accNone

/-- The spare receivers of the chain stay in use: the substitution is complete (R423, R453). -/
def State.keepSpareRx (s : State) : State :=
  if s.flag HRC_STAT HRC_STAT.SPARE_RX && !s.repair.contains (repHrRx, 0) then s.repaired repHrRx 0 else s

/-- SPR-EXHAUSTED: no spare of the kind is left, the unit stays in service as it is (R451). -/
def State.exhausted (s : State) : State := s.fault0 0x9E mstNone accNone

/-- The role of a core set (R145). -/
def State.setRole (s : State) (c r : Nat) : State := s.setF (TWN_CSTATE c) TWN_CSTATE.ROLE r

/-- The spare core of a core's cluster, while it is SPARE (01, R24; R451). -/
def State.clusterSpare (s : State) (c : Nat) : Option Nat :=
  let sp := c / 10 * 10 + 9
  if s.role sp == roleSpare then some sp else none

/-- The cluster's spare taken into use in place of a core: SPR_LEFT and the repair store (R451, R453). -/
def State.spendCore (s : State) (c : Nat) : State :=
  (s.wr SPR_LEFT (setBit (s.rd SPR_LEFT) (c / 10) false)).repaired repCore c

end Sys2Proof.Machine
end

