-- ==== Sys2Proof/Machine/Dram.lean ====
section
/-!
DEFINITION. Stacked DRAM (09, R225-R235): reads and their outcomes, scrubbing, row and channel sparing, the ledger
mirror.
-/

namespace Sys2Proof.Machine
open Sys2Proof Csr

/-- The key of a bank and of a row of it. -/
def bankKey (stack ch bank : Nat) : Nat := (stack * 16 + ch) * 16 + bank
def rowKey (stack ch bank row : Nat) : Nat := bankKey stack ch bank * 131072 + row

/-- The row of a DRAM address. -/
def rowOf (pa : Nat) : Nat := rowKey (dramStack pa) (dramChannel pa) (dramBank pa) (dramRow pa)

/-- A corrected DRAM read: counted, recorded, and its row's count raised (R228). -/
def State.dramCorrected (s : State) (pa master access : Nat) : State :=
  let s := s.bump (DRM_SCNT (dramStack pa)) DRM_SCNT.CORRECTED 1
  let s := { s with rowErrs := s.rowErrs.modify 0 (rowOf pa) (· + 1) }
  s.fault 0x30 master access (Word.ofNat pa)

/-- An uncorrectable DRAM read: the poison codeword is written, DRM-UE recorded (R228). -/
def State.dramUncorr (s : State) (pa master access : Nat) : State :=
  let s := s.bump (DRM_SCNT (dramStack pa)) DRM_SCNT.UNCORR 1
  (s.spoilDram pa).fault 0x34 master access (Word.ofNat pa)

/-- A read of a sub-block of DRAM with what its check finds; a poison codeword records nothing further (R228). -/
def State.dramRead (s : State) (pa : Nat) (e : Ecc) (master access : Nat) : State :=
  if s.dramPoisoned pa then s
  else match e with
    | .ok => s
    | .corrected => s.dramCorrected pa master access
    | .uncorrectable => s.dramUncorr pa master access

/-- The symbols of a codeword that bad pins reach: each comes from two adjacent pins (R227). -/
def badSymbols (pins : BitVec 144) : Nat :=
  ((List.range 72).filter (fun n => pins.getLsbD (2 * n) || pins.getLsbD (2 * n + 1))).length

/-- What the check of a codeword finds (R227): up to 3 bad symbols are corrected, 4 or 5 detected; what more of them look
like the spec leaves open, and the command says. -/
def codewordEcc (pins : BitVec 144) (wide : Ecc) : Ecc :=
  let n := badSymbols pins
  if n = 0 then .ok else if n ≤ 3 then .corrected else if n ≤ 5 then .uncorrectable else wide

/-- DRAM_REFRESH (R225): a channel's refresh command changes no content; it is the unit boundary at which the stack takes up
new values of the L fields of DRM_CFG (R7). -/
def execDramRefresh (stack : Fin 8) (_ch : Fin 17) (s : State) : Host.Outcome State Fault Refusal :=
  .next (s.unitBoundary DRM_CFG stack.val)

/-- The sub-block of a DRAM address by stack, channel, device line and place in the line (R226). -/
def dramAddr (stack ch line sub : Nat) : Nat :=
  let base := line * 32768
  base + (ch ^^^ bits base 21 4) * 2048 + (stack ^^^ bits base 15 3 ^^^ bits base 26 3) * 256 + sub * 64

/-- Sub-block n of a stack, as the patrol orders them (log entry 13). -/
def scrubAddr (stack n : Nat) : Nat :=
  dramAddr stack (n / 4 % 16) (n / 64 % 2 ^ 24) (n % 4)

/-- The other copy of a ledger address (R233). -/
def ledgerOther (pa : Nat) : Nat := pa ^^^ 0x10000000

/-- A copy of a ledger sub-block is bad. -/
def State.copyBad (s : State) (pa : Nat) (e : Ecc) : Bool := s.poisoned pa || e == .uncorrectable

/-- A sub-block rewritten from the other copy (R230, R233). -/
def State.rewriteFrom (s : State) (pa src : Nat) : State := s.writeThrough pa (s.bytes src 64)

/-- DRAM_SCRUB (R230): the stack's scrubber reads and corrects its next sub-block; a bad ledger sub-block is rewritten
from its other copy. -/
def execDramScrub (stack : Fin 8) (e other : Ecc) (s : State) : Host.Outcome State Fault Refusal :=
  if s.fldIn DRM_CFG stack.val DRM_CFG.SCRUB_EN == 1 && s.fld (DRM_SSTAT stack.val) DRM_SSTAT.STATE == 0 then
    let n := s.scrubPos.get 0 stack.val
    let pa := scrubAddr stack.val n
    let bad := s.copyBad pa e
    let s := { s with scrubPos := s.scrubPos.put stack.val ((n + 1) % 2 ^ 30) }
    let s := s.dramRead pa e mstDram accPatrol
    if decide (0x7FE0000000 ≤ pa) && bad then
      let bad2 := s.copyBad (ledgerOther pa) other
      let s := s.dramRead (ledgerOther pa) other mstDram accPatrol
      .next (if bad2 then s else (s.rewriteFrom pa (ledgerOther pa)).bump LGR_CNT1 LGR_CNT1.MIRROR_FIX 1)
    else .next s
  else .next s

/-- The spare rows left across a stack's 16 channels in service (R235). -/
def State.rowsLeft (s : State) (stack : Nat) : Nat :=
  16384 - (((List.range 256).map (fun i => s.rowsUsed.get 0 (stack * 256 + i))).foldl (· + ·) 0)

/-- A row is copied to a spare row of its bank and remapped; without a spare the spares manager is notified (R231). -/
def State.spareRow (s : State) (stack ch bank row : Nat) : State :=
  let key := rowKey stack ch bank row
  let b := bankKey stack ch bank
  if s.rowsUsed.get 0 b < 64 then
    let s := { s with rowErrs := s.rowErrs.erase key, rowsUsed := s.rowsUsed.modify 0 b (· + 1) }
    let s := s.setF (DRM_SSTAT stack) DRM_SSTAT.ROWS_LEFT (s.rowsLeft stack)
    (s.bump (DRM_SCNT stack) DRM_SCNT.ROWS_SPARED 1).repaired repRow key
  else s.exhausted

/-- A copy reads sub-blocks of a channel, each as R228 says: what it cannot correct is poison in the copy (R231, R232). -/
def State.copyReads (s : State) (l : List (Nat × Ecc)) : State := l.foldl (fun s e => s.dramRead e.1 e.2 mstDram accPatrol) s

/-- ROW_SPARING (R231): a row that recorded ROW_THRESH corrected errors in this rotation is spared; `met` is what the copy
meets in its 32 sub-blocks. -/
def execRowSparing (stack : Fin 8) (ch bank : Fin 16) (row : BitVec 17) (met : List (BitVec 5 × Ecc)) (s : State) :
    Host.Outcome State Fault Refusal :=
  let t := s.fldIn DRM_CFG stack.val DRM_CFG.ROW_THRESH
  let place (n : BitVec 5) : Nat := dramAddr stack.val ch.val (row.toNat * 128 + bank.val * 8 + n.toNat / 4) (n.toNat % 4)
  .next (if t ≠ 0 ∧ t ≤ s.rowErrs.get 0 (rowKey stack.val ch.val bank.val row.toNat) then
    let s := if s.rowsUsed.get 0 (bankKey stack.val ch.val bank.val) < 64 then s.copyReads (met.map (fun e => (place e.1, e.2))) else s
    s.spareRow stack.val ch.val bank.val row.toNat
  else s)

/-- Substitution of a channel by the stack's spare starts, unless one runs or the spare is in use (R232, R235). -/
def State.substitute (s : State) (stack ch : Nat) : State :=
  if s.flag (DRM_SSTAT stack) DRM_SSTAT.COPYING || s.fld (DRM_SSTAT stack) DRM_SSTAT.SPARED != 0x1F then s
  else { s.setF (DRM_SSTAT stack) DRM_SSTAT.COPYING 1 with subst := s.subst.put stack ch }

/-- DRM_SUBSTITUTE (R232): GO in DRM_SCMD, with the channel it names. -/
def execDrmSubstitute (stack : Fin 8) (s : State) : Host.Outcome State Fault Refusal :=
  .next (s.substitute stack.val (s.fld (DRM_SCMD stack.val) DRM_SCMD.CHANNEL))

/-- A stack's spare serves in place of a channel: the rows of that channel are no longer in service (R232, R235). -/
def State.spareServes (s : State) (stack ch : Nat) : State :=
  let s := { s with rowsUsed := s.rowsUsed.filter (fun e => e.1 / 16 != stack * 16 + ch) }
  s.setFs (DRM_SSTAT stack) [(DRM_SSTAT.SPARED, ch), (DRM_SSTAT.ROWS_LEFT, s.rowsLeft stack)]

/-- CHANNEL_COPY_COMPLETE (R232): at the refresh boundary after the copy the spare channel serves; `met` is what the copy
meets in the channel's 2^26 sub-blocks, and one that it could not correct is poison there. -/
def execChannelCopyComplete (stack : Fin 8) (met : List (BitVec 26 × Ecc)) (s : State) : Host.Outcome State Fault Refusal :=
  if s.flag (DRM_SSTAT stack.val) DRM_SSTAT.COPYING then
    let ch := s.subst.get 0 stack.val
    let s := s.copyReads (met.map (fun e => (dramAddr stack.val ch (e.1.toNat / 4) (e.1.toNat % 4), e.2)))
    let s := s.unitBoundary DRM_CFG stack.val
    let s := ({ s with subst := s.subst.erase stack.val }.setF (DRM_SSTAT stack.val) DRM_SSTAT.COPYING 0).spareServes stack.val ch
    .next ((s.wr SPR_LEFT (setBit (s.rd SPR_LEFT) (27 + stack.val) false)).repaired repChannel (stack.val * 16 + ch))
  else .next s

/-- SPARE_CHANNEL_FAILURE (R232): the copy is abandoned, DRM-SPARE recorded. -/
def execSpareChannelFailure (stack : Fin 8) (s : State) : Host.Outcome State Fault Refusal :=
  if s.flag (DRM_SSTAT stack.val) DRM_SSTAT.COPYING then
    let s := { s with subst := s.subst.erase stack.val }
    .next ((s.setFs (DRM_SSTAT stack.val) [(DRM_SSTAT.COPYING, 0), (DRM_SSTAT.SPARED, 0x1F)]).fault0 0x38 mstDram accNone)
  else .next s

/-- A staged S-class field of a register put in force, and its STAGED bit cleared (R8). -/
def State.commitField (s : State) (reg : Nat) (f : Fld) (st : Nat) (sf : Fld) : State :=
  match s.staged.find reg with
  | some v => { (s.setF reg f (f.get v)).setF st sf 0 with staged := s.staged.erase reg }
  | none => s

/-- The staged fields of the DRM block (R235). -/
def State.commitDrm (s : State) : State :=
  s.commitField DRM_CFG DRM_CFG.SCRUB_HOURS DRM_STAT DRM_STAT.STAGED

/-- DRM_COMMIT. -/
def execDrmCommit (s : State) : Host.Outcome State Fault Refusal := .next s.commitDrm

/-! The ledger mirror (R233) -/

/-- The primary and the mirror of a record. -/
def ledgerPrimary (i : Nat) : Nat := 0x7FE0000000 + 64 * i
def ledgerMirror (i : Nat) : Nat := 0x7FF0000000 + 64 * i

/-- A record written to both copies; a record write is the unit boundary of the LGR block (R7, R321). -/
def State.ledgerPut (s : State) (i : Nat) (l : List Byte) : State :=
  ((s.writeThrough (ledgerPrimary i) l).writeThrough (ledgerMirror i) l).unitBoundary LGR_CFG 0

/-- A record read with what the checks of the two copies find: the record, or LOST (R233). -/
def State.ledgerGet (s : State) (i : Nat) (e1 e2 : Ecc) (master : Nat) : State × Option (List Byte) :=
  let p := ledgerPrimary i
  let bad := s.copyBad p e1
  let s := s.dramRead p e1 master accRead
  if !bad then (s, some (s.bytes p 64))
  else
    let q := ledgerMirror i
    let bad2 := s.copyBad q e2
    let s := s.dramRead q e2 master accRead
    if bad2 then (s.fault 0x40 mstNone accNone (Word.ofNat p), none)
    else
      let s := (s.rewriteFrom p q).bump LGR_CNT1 LGR_CNT1.MIRROR_FIX 1
      (s.fault 0x3C mstNone accNone (Word.ofNat p), some (s.bytes q 64))

end Sys2Proof.Machine
end

