-- ==== Sys2Proof/Machine/Cistern.lean ====
section
/-!
DEFINITION. The cistern banks and the strongroom (09, R236-R244).
-/

namespace Sys2Proof.Machine
open Sys2Proof Csr

/-- The states of CIS_BSTAT. -/
def cisRunning : Nat := 0
def cisStopping : Nat := 1
def cisStopped : Nat := 2
def cisRetained : Nat := 3
def cisClearing : Nat := 4
def cisOff : Nat := 5

/-- The state of a bank, and the bank in a state. -/
def State.cisState (s : State) (b : Nat) : Nat := s.fld (CIS_BSTAT b) CIS_BSTAT.STATE
def State.setCis (s : State) (b st : Nat) : State := s.setF (CIS_BSTAT b) CIS_BSTAT.STATE st

/-- A bank counts as stopped for the F-class fields (R239). -/
def State.cisCountsStopped (s : State) (b : Nat) : Bool :=
  s.cisState b == cisStopped || s.cisState b == cisRetained || s.cisState b == cisOff

/-- A bank reaches stopped: with STOP 0 it runs (R239). -/
def State.cisReachStopped (s : State) (b : Nat) : State :=
  s.setCis b (if s.flag (CIS_BCTL b) CIS_BCTL.STOP then cisStopped else cisRunning)

/-- A bank's clear begins; `fin` is the state it ends in (R240). -/
def State.cisClear (s : State) (b fin : Nat) : State :=
  { s.setCis b cisClearing with cisEnd := s.cisEnd.put b fin }

/-- Every key slot emptied, metadata and all (R349). -/
def State.wipeSlots (s : State) : State := { s with slots := [] }

/-- A bank's 8 MiB zeroed with good check bits (R240); the strongroom banks hold the key slots, the cipher
bank what the reservations of the basin were written. -/
def State.cisZero (s : State) (b : Nat) : State :=
  let s := s.zeroRange (cisBase b) 0x800000
  if b = 8 || b = 9 then s.wipeSlots
  else if b = 14 then { s with basins := s.basins.mapv (fun x => { x with data := x.data.map (fun _ => 0) }) }
  else s

/-- A corrected error of a bank's row: counted, and at 8 in one rotation a spare row takes its place (R241). -/
def State.cisCorrected (s : State) (b off master access : Nat) : State :=
  let key := b * 1024 + off / 8192
  let n := s.cisErrs.get 0 key + 1
  let s := s.fault 0x44 master access (Word.ofNat (cisBase b + off))
  if n < 8 then { s with cisErrs := s.cisErrs.put key n }
  else
    let s := { s with cisErrs := s.cisErrs.erase key }
    if 0 < s.fld (CIS_BSTAT b) CIS_BSTAT.ROWS_LEFT then
      (s.drop (CIS_BSTAT b) CIS_BSTAT.ROWS_LEFT).repaired repCisRow key
    else s.exhausted

/-- The key slot that holds a byte of the strongroom: 48 B of key each, then 16 B of metadata each (R236, R346). -/
def slotAt (b off : Nat) : Nat :=
  let a := (b - 8) * 0x800000 + off
  if a < 0xC00000 then a / 48 else (a - 0xC00000) / 16

/-- A slot emptied, its generation kept (R241). -/
def State.loseSlot (s : State) (n : Nat) : State :=
  { s with slots := s.slots.put n { KeySlot.empty with gen := (s.slots.get KeySlot.empty n).gen } }

/-- An uncorrectable error: poison and CIS-UE; in the strongroom the slot is lost (R241). -/
def State.cisUncorr (s : State) (b off master access : Nat) : State :=
  let pa := cisBase b + off
  if b = 8 || b = 9 then
    ((s.fault 0x48 master access (Word.ofNat pa)).loseSlot (slotAt b off)).fault 0x49 mstNone accNone
      (Word.ofNat (slotAt b off))
  else (s.setPoison pa).fault 0x48 master access (Word.ofNat pa)

/-- An ECC read of a bank (R241). -/
def State.cisRead (s : State) (b off : Nat) (e : Ecc) (master access : Nat) : State :=
  if s.poisoned (cisBase b + off) then s
  else match e with
    | .ok => s
    | .corrected => s.cisCorrected b off master access
    | .uncorrectable => s.cisUncorr b off master access

/-- The strongroom bank that holds a slot's key, and the key's place in it (R236, R346). -/
def slotBank (n : Nat) : Nat := 8 + 48 * n / 0x800000
def slotOff (n : Nat) : Nat := 48 * n % 0x800000

/-- The banks of a slot, of its key and of its metadata (bank 9), serve the cipher's key path (R236, R239). -/
def State.slotServed (s : State) (n : Nat) : Bool := s.cisState (slotBank n) == cisRunning && s.cisState 9 == cisRunning

/-- A read of a slot over the key path: refused with an address fault while its bank does not run (R21, R239), and an error
met counts as every one of a bank does (R241). -/
def State.keyRead (s : State) (n : Nat) (e : Ecc) : State :=
  if s.slotServed n then s.cisRead (slotBank n) (slotOff n) e mstCipher accRead
  else s.addrFault .cipher accRead (cisBase (slotBank n) + slotOff n)

/-- The master ID recorded for a cistern master (R237, R447): the first core of a cluster stands for it. -/
def cisMaster (m : Nat) : Nat :=
  if m < 8 then m * 10 else if m = 8 then 0x80 else if m = 9 then 0x90 else if m = 10 then mstCipher
  else if m = 11 then mstCmp else mstFlume 0

/-- The next master after the last one granted, among those that request (R238). -/
def roundRobin (last : Nat) (req : List Nat) : Option Nat :=
  match req.filter (fun m => decide (last < m)) with
  | m :: _ => some m
  | [] => req.head?

/-- CIS_BANK_ACCESS (R237, R238, R239, R241): in one island-8 cycle the masters of `req` request a bank. Those it does
not serve are refused; of the others one is granted, and the rest wait a cycle. -/
def execCisBankAccess (bank : Fin 16) (req : BitVec 13) (off : BitVec 23) (e : Ecc) (s : State) :
    Host.Outcome State Fault Refusal :=
  let b := bank.val
  let asking := (List.range 13).filter (fun m => req.toNat.testBit m)
  let mask := s.fld (CIS_BCTL b) CIS_BCTL.MASK
  let run := s.cisState b == cisRunning
  let served := asking.filter (fun m => run && mask.testBit m)
  let s := (asking.filter (fun m => !(run && mask.testBit m))).foldl (fun s m =>
    s.fault 0x04 (cisMaster m) accRead (Word.ofNat (cisBase b + off.toNat))) s
  match roundRobin (s.cisGrant.get 12 b) served with
  | none => .next s
  | some m =>
    let s := { s.bump (CIS_MCNT m) CIS_MCNT.ACCESSES 1 with cisGrant := s.cisGrant.put b m }
    let s := (served.filter (· != m)).foldl (fun s w => s.bump (CIS_MCNT w) CIS_MCNT.CONFLICTS 1) s
    .next (s.cisRead b off.toNat e (cisMaster m) accRead)

/-- A write of CIS_BCTL.STOP (R239, R240). -/
def State.cisStop (s : State) (b : Nat) (v : Bool) : State :=
  let s := s.setF (CIS_BCTL b) CIS_BCTL.STOP (b2n v)
  if v && s.cisState b == cisRunning then s.setCis b cisStopping
  else if !v && s.cisState b == cisStopped then s.setCis b cisRunning
  else s

/-- CIS_STOP. -/
def execCisStop (b : Fin 16) (v : Bool) (s : State) : Host.Outcome State Fault Refusal := .next (s.cisStop b.val v)

/-- CIS_BANK_STOPPED (R239): the last granted access of a stopping bank has drained. -/
def execCisBankStopped (b : Fin 16) (s : State) : Host.Outcome State Fault Refusal :=
  .next (if s.cisState b.val = cisStopping then s.cisReachStopped b.val else s)

/-- The bank's MASK and POWER are fixed (R244). -/
def cisFixed (b : Nat) : Bool := b == 8 || b == 9 || b == 14 || b == 15

/-- The bank moves by a POWER that takes effect (R239). -/
def State.cisPowerMove (s : State) (b p : Nat) : State :=
  match s.cisState b, p with
  | 2, 1 => s.setCis b cisRetained
  | 2, 2 => s.setCis b cisOff
  | 3, 0 => s.cisReachStopped b
  | 3, 2 => s.setCis b cisOff
  | 5, 0 => s.cisClear b cisStopped
  | 5, 1 => s.cisClear b cisRetained
  | _, _ => s

/-- A write of MASK and POWER of CIS_BCTL (R239, R244, R481): a value that differs while the bank counts as running is
ignored, accepted or not; a stopped bank takes the values it accepts. -/
def State.cisPower (s : State) (b mask p : Nat) : State :=
  let old := CIS_BCTL b
  let mask := if cisFixed b then s.fld old CIS_BCTL.MASK else mask
  if mask = s.fld old CIS_BCTL.MASK ∧ p = s.fld old CIS_BCTL.POWER then s
  else if s.cisCountsStopped b then
    let p := if p = 3 || (cisFixed b && p != 0) then s.fld old CIS_BCTL.POWER else p
    (s.setFs old [(CIS_BCTL.MASK, mask), (CIS_BCTL.POWER, p)]).cisPowerMove b p
  else s.setF (CIS_BSTAT b) CIS_BSTAT.FENCED_WRITE 1

/-- CIS_POWER. -/
def execCisPower (b : Fin 16) (mask : BitVec 13) (p : BitVec 2) (s : State) : Host.Outcome State Fault Refusal :=
  .next (s.cisPower b.val mask.toNat p.toNat)

/-- A stopped bank is cleared; an OFF bank holds nothing, and one that is clearing already goes on (R240). -/
def State.cisWipeStopped (s : State) (b : Nat) : State :=
  if s.cisState b = cisOff ∨ s.cisState b = cisClearing then s else s.cisClear b (s.cisState b)

/-- A write of 1 to WIPE: an F-class field, so a running bank ignores it (R239, R240). -/
def State.cisWipe (s : State) (b : Nat) : State :=
  if s.cisCountsStopped b then s.cisWipeStopped b else s.setF (CIS_BSTAT b) CIS_BSTAT.FENCED_WRITE 1

/-- CIS_WIPE. -/
def execCisWipe (b : Fin 16) (s : State) : Host.Outcome State Fault Refusal := .next (s.cisWipe b.val)

/-- The clear of a bank ends: zeros throughout, and the state it was to end in (R240). -/
def State.cisClearDone (s : State) (b : Nat) : State :=
  let s := s.cisZero b
  if s.cisEnd.get cisStopped b = cisRetained then s.setCis b cisRetained else s.cisReachStopped b

/-- CIS_CLEAR_COMPLETE. -/
def execCisClearComplete (b : Fin 16) (s : State) : Host.Outcome State Fault Refusal :=
  .next (if s.cisState b.val = cisClearing then s.cisClearDone b.val else s)

/-- CIS_PATROL (R241): the patrol reads a place of a powered bank. -/
def execCisPatrol (b : Fin 16) (off : BitVec 23) (e : Ecc) (s : State) : Host.Outcome State Fault Refusal :=
  .next (if s.cisState b.val = cisOff then s else s.cisRead b.val (alignDown off.toNat 8) e mstCisPatrol accPatrol)

/-- Both banks of the strongroom written with zeros, once island 8 runs (R243, R387). -/
def State.wipeBanks (s : State) : State :=
  if s.flag CIS_SRSTAT CIS_SRSTAT.WIPING && s.islandRuns 8 then (s.cisZero 8).cisZero 9 else s

/-- A strongroom wipe begins or restarts (R243): counted with its cause, triggers of one hc once; with island 8 OFF nothing is left
to wipe, and with it waking the banks are written when it runs (R387). -/
def State.beginWipe (s : State) (cause : Nat) : State :=
  let now := (s.rd HRC_TIME).toNat
  let s := if s.wipeAt = some now then s else { s.bump CIS_SRSTAT CIS_SRSTAT.WIPES 1 with wipeAt := some now }
  let s := (s.setF CIS_SRSTAT CIS_SRSTAT.CAUSE cause).fault0 0x4C mstNone accNone
  if s.fld (CLK_ISTAT 8) CLK_ISTAT.STATE = 3 then s
  else (s.setF CIS_SRSTAT CIS_SRSTAT.WIPING 1).wipeBanks

/-- STRONGROOM_WIPE_END (R243): the read-back completes; one that is not zero is fatal. A wipe that waits for island 8 has no end yet
(R387). -/
def execStrongroomWipeEnd (zero : Bool) (s : State) : Host.Outcome State Fault Refusal :=
  if s.flag CIS_SRSTAT CIS_SRSTAT.WIPING && s.islandRuns 8 then
    let s := s.wipeBanks.setF CIS_SRSTAT CIS_SRSTAT.WIPING 0
    .next (if zero then s else s.fault0 0x50 mstNone accNone)
  else .next s

end Sys2Proof.Machine
end

