-- ==== Sys2Proof/Machine/Cipher.lean ====
section
/-!
DEFINITION. The cipher engine (14): key slots and key commands, requests of cores, the cross-check.
-/

namespace Sys2Proof.Machine
open Sys2Proof Csr

/-- The status codes of R350. -/
def cipOK : Nat := 0
def cipEMPTY : Nat := 1
def cipDENIED : Nat := 2
def cipKWFAIL : Nat := 3
def cipBADKEK : Nat := 4
def cipBUSY : Nat := 5
def cipBADARG : Nat := 6
def cipWIPING : Nat := 7
def cipTAG : Nat := 8
def cipOVERRUN : Nat := 9
def cipBADOP : Nat := 0xA

/-- Bits of USE from bit 0: ENC, DEC, CORE, FLUME, WRAP (R349). -/
def useENC : Nat := 1
def useDEC : Nat := 2
def useCORE : Nat := 4
def useFLUME : Nat := 8
def useWRAP : Nat := 16

/-- A key slot; none hold a key while a wipe runs or TAMPER_N is held (R349, R467). -/
def State.slot (s : State) (n : Nat) : KeySlot := s.slots.get KeySlot.empty n

/-- The strongroom is being wiped, or tamper holds it (R349, R467). -/
def State.wiping (s : State) : Bool := s.flag CIS_SRSTAT CIS_SRSTAT.WIPING || s.flag LCS_STAT LCS_STAT.TAMPER

/-- The key bytes of a slot in use. -/
def KeySlot.bytes (k : KeySlot) : List Nat := k.key.take (16 + 8 * k.ksize)

/-- The status of a request for a slot with uses it needs, and an owner it must have (R345, R351); a slot whose bank does not
run reads as nothing, so EMPTY (R239, log entry 69). -/
def State.slotStatus (s : State) (n uses : Nat) (owner : Option Nat) : Nat :=
  let k := s.slot n
  if s.wiping || !s.slotServed n || k.state != 1 then cipEMPTY
  else if k.use &&& uses != uses then cipDENIED
  else match owner with
    | some a => if k.owner = a then cipOK else cipDENIED
    | none => cipOK

/-- A block under a slot's key. -/
def KeySlot.run (k : KeySlot) (op : CipOp) (x : Nat) : Nat :=
  match op with
  | .enc => num128 (aesEnc k.bytes (block128 x))
  | .dec => num128 (aesDec k.bytes (block128 x))

/-! The cross-check (R358) -/

/-- A spare block core takes the place of another (R358, R451). -/
def State.swapCipher (s : State) : State :=
  let s := s.drop CIP_STAT CIP_STAT.SPARES_LEFT
  (s.setF SPR_LEFT SPR_LEFT.CIPHER (s.fld CIP_STAT CIP_STAT.SPARES_LEFT)).repaired repCipher
    (s.fld CIP_STAT CIP_STAT.SPARES_LEFT)

/-- A block core that failed its test is replaced by a spare, or the engine runs on those remaining. -/
def State.retireCipher (s : State) : State :=
  if 0 < s.fld CIP_STAT CIP_STAT.SPARES_LEFT then s.swapCipher else (s.drop CIP_STAT CIP_STAT.ACTIVE).exhausted

/-- The sampled cross-check of a block: a difference, with how many of the two cores fail the known-answer test. The
block is computed a third time and that result delivered, so the answer stays. -/
def State.crossCheck (s : State) (x : KeyRead) : State :=
  match x.xchk with
  | none => s
  | some n =>
    if s.flag CIP_CFG CIP_CFG.XCHK_EN then
      let s := (s.bump CIP_CNT1 CIP_CNT1.XCHK_FAIL 1).fault0 0x74 mstCipher accNone
      (List.range n.val).foldl (fun s _ => s.retireCipher) s
    else s

/-! Requests of cores (R344, R345) -/

/-- A refused core request: counted, recorded in CIP_CFAIL and by the collector (R345). -/
def State.cipRefuse (s : State) (c op slot status : Nat) : State :=
  let s := s.bump CIP_CNT0 CIP_CNT0.REFUSED 1
  let s := if s.flag (CIP_CFAIL c) CIP_CFAIL.VALID then s
    else s.setFs (CIP_CFAIL c) [(CIP_CFAIL.STATUS, status), (CIP_CFAIL.OP, op), (CIP_CFAIL.SLOT, slot), (CIP_CFAIL.VALID, 1)]
  s.fault 0x70 (mstCore c) accNone (Word.ofNat (slot + status * 0x1000000))

/-- What a core's request answers: the high and low words, and whether they are poisoned (R344, R345). -/
def State.cipCore (s : State) (c : Nat) (op : CipOp) (b : Word) (x : KeyRead) : State × Word × Word × Bool :=
  let k := s.core c
  let slot := (k.port 0x400).toNat
  let use := match op with | .enc => useENC + useCORE | .dec => useDEC + useCORE
  let s := if s.wiping then s else s.keyRead slot x.ecc
  let st := s.slotStatus slot use (if k.host then none else some (k.port 0xB3).toNat)
  if st = cipOK then
    let y := (s.slot slot).run op ((k.port 0x401).toNat * 2 ^ 64 + b.toNat)
    let s := (s.bump CIP_CNT0 CIP_CNT0.BLOCKS 1).crossCheck x
    (s, Word.ofNat (y / 2 ^ 64), Word.ofNat y, false)
  else (s.cipRefuse c (match op with | .enc => 1 | .dec => 2) slot st, 0, 0, true)

/-- The GF(2^128) product of a core's factors (R344). -/
def Core.cipGmul (k : Core) (b : Word) : Word × Word :=
  let y := ghashMul ((k.port 0x401).toNat * 2 ^ 64 + b.toNat) ((k.port 0x402).toNat * 2 ^ 64 + (k.port 0x403).toNat)
  (Word.ofNat (y / 2 ^ 64), Word.ofNat y)

/-! Key commands (R347, R348, R349) -/

/-- A key command ends with a RESULT. -/
def State.endKey (s : State) (r : Nat) : State :=
  s.setFs CIP_KSTAT [(CIP_KSTAT.BUSY, 0), (CIP_KSTAT.DONE, 1), (CIP_KSTAT.RESULT, r)]

/-- The key-encryption key that a LOAD descriptor names (R347, R349). -/
def State.kekOf (s : State) (w0 : Nat) : Option (List Nat) :=
  if w0.testBit 18 then s.kik
  else
    let k := s.slot (bits w0 0 18)
    if s.slotServed (bits w0 0 18) && k.state = 1 && k.use &&& useWRAP != 0 then some k.bytes else none

/-- LOAD of a slot from a descriptor (R347, R349), a poisoned one ending BAD-ARG (log entry 79); `e` is what the read of a KEK in a slot meets. A key command on a bank that
does not run ends EMPTY (log entry 69). -/
def State.keyLoad (s : State) (slot addr : Nat) (e : Ecc) : State :=
  if s.wiping then s.endKey cipWIPING
  else if !s.slotServed slot then (s.keyRead slot .ok).endKey cipEMPTY
  else if addr % 64 != 0 || s.rangeClass addr != .normal then s.endKey cipBADARG
  else if (s.slot slot).state != 0 then s.endKey cipBUSY
  else if !s.mayReach .cipher addr then (s.addrFault .cipher accRead addr).endKey cipBADARG
  else
    let w0 := s.num addr 8
    let ksize := bits w0 19 2
    let n := 24 + 8 * ksize
    let use := bits w0 44 5
    if s.poisonedRange addr 64 || bits w0 21 11 != 0 || bits w0 51 13 != 0 || ksize = 3 || (use &&& useWRAP != 0 && use != useWRAP)
        || (s.bytes (addr + 8 + n) (56 - n)).any (fun b => b != 0) then s.endKey cipBADARG
    else
      let s := if w0.testBit 18 then s else s.keyRead (bits w0 0 18) e
      match s.kekOf w0 with
      | none => s.endKey cipBADKEK
      | some kek =>
        match aesUnwrap kek ((s.bytes (addr + 8) n).map BitVec.toNat) with
        | none => (s.bump CIP_CNT1 CIP_CNT1.KW_FAIL 1).endKey cipKWFAIL
        | some key =>
          let k : KeySlot := ⟨1, key ++ List.replicate (32 - key.length) 0, num128 (aesEnc key (List.replicate 16 0)),
            ksize, bits w0 32 12, use, bits w0 49 2, ((s.slot slot).gen + 1) % 2 ^ 32⟩
          ({ s with slots := s.slots.put slot k }).endKey cipOK

/-- LOAD commanded: in a cold start it waits, BUSY, for DRAM (R402; log entry 87). -/
def State.keyLoadGo (s : State) (slot addr : Nat) (e : Ecc) : State :=
  if s.dramHeld then { s.setF CIP_KSTAT CIP_KSTAT.BUSY 1 with keyWait := some (slot, addr) } else s.keyLoad slot addr e

/-- A LOAD that waited goes on. -/
def State.keyResume (s : State) : State :=
  match s.keyWait with
  | some (slot, addr) => { s with keyWait := none }.keyLoad slot addr .ok
  | none => s

/-- CLEAR of a slot (R348): requests admitted before it have completed. -/
def State.keyClear (s : State) (slot : Nat) : State :=
  if s.wiping then s.endKey cipWIPING
  else if !s.slotServed slot then (s.keyRead slot .ok).endKey cipEMPTY
  else ({ s with slots := s.slots.put slot { KeySlot.empty with gen := ((s.slot slot).gen + 1) % 2 ^ 32 } }).endKey cipOK

/-- INFO of a slot (R346, R359). -/
def State.keyInfo (s : State) (slot : Nat) (e : Ecc) : State :=
  if s.wiping then s.endKey cipWIPING
  else if !s.slotServed slot then (s.keyRead slot .ok).endKey cipEMPTY
  else
    let s := s.keyRead slot e
    let k := s.slot slot
    (s.setFs CIP_KINFO [(CIP_KINFO.STATE, k.state), (CIP_KINFO.KSIZE, k.ksize), (CIP_KINFO.OWNER, k.owner),
      (CIP_KINFO.USE, k.use), (CIP_KINFO.HMIN, k.hmin), (CIP_KINFO.GEN, k.gen)]).endKey cipOK

/-- The slot that CIP_KCMD names. -/
def State.kslot (s : State) : Nat := s.fld CIP_KCMD CIP_KCMD.SLOT

/-- CIP_LOAD: GO of CIP_KCMD with OP LOAD. -/
def execCipLoad (e : Ecc) (s : State) : Host.Outcome State Fault Refusal :=
  .next (if s.flag CIP_KSTAT CIP_KSTAT.BUSY then s else s.keyLoadGo s.kslot (s.fld CIP_KARG CIP_KARG.ADDR) e)

/-- CIP_CLEAR. -/
def execCipClear (s : State) : Host.Outcome State Fault Refusal :=
  .next (if s.flag CIP_KSTAT CIP_KSTAT.BUSY then s else s.keyClear s.kslot)

/-- CIP_INFO. -/
def execCipInfo (e : Ecc) (s : State) : Host.Outcome State Fault Refusal :=
  .next (if s.flag CIP_KSTAT CIP_KSTAT.BUSY then s else s.keyInfo s.kslot e)

/-- The staged fields of the CIP block (R359). -/
def State.commitCip (s : State) : State := s.commitField CIP_CFG CIP_CFG.HARDEN CIP_STAT CIP_STAT.STAGED

/-- CIP_COMMIT. -/
def execCipCommit (s : State) : Host.Outcome State Fault Refusal := .next s.commitCip

/-- GO in CIP_KCMD. -/
def State.goCip (s : State) : State :=
  if s.flag CIP_KSTAT CIP_KSTAT.BUSY then s
  else match s.fld CIP_KCMD CIP_KCMD.OP with
    | 0 => s.endKey cipOK
    | 1 => s.keyLoadGo s.kslot (s.fld CIP_KARG CIP_KARG.ADDR) .ok
    | 2 => s.keyClear s.kslot
    | _ => s.keyInfo s.kslot .ok

end Sys2Proof.Machine
end

