-- ==== Sys2Proof/Machine/Inflate.lean ====
section
/-!
DEFINITION. The compressed formats (15, R361-R367): decompression of raw DEFLATE, zlib, gzip and GSF with their checks,
and the bound of the length of compressed output.
-/

namespace Sys2Proof.Machine
open Sys2Proof

/-! Check values (R361, R362) -/

/-- One byte into a reflected 32-bit CRC. -/
def crc32Byte (poly : Nat) (x : Nat) (b : Byte) : Nat :=
  (List.range 8).foldl (fun x _ => if x % 2 = 1 then (x / 2) ^^^ poly else x / 2) (x ^^^ b.toNat)

/-- A CRC from all ones, complemented at the end. -/
def crc32 (poly : Nat) (l : List Byte) : Nat := (l.foldl (crc32Byte poly) 0xFFFFFFFF) ^^^ 0xFFFFFFFF

/-- CRC-32C (R255), and the CRC-32 of gzip and of the IEEE 802.3 FCS (R263). -/
def crc32c (l : List Byte) : Nat := crc32 0x82F63B78 l
def fcs32 (l : List Byte) : Nat := crc32 0xEDB88320 l

/-- Adler-32 (RFC 1950). -/
def adler32 (l : List Byte) : Nat :=
  let r := l.foldl (fun (p : Nat × Nat) b =>
    let a := (p.1 + b.toNat) % 65521
    (a, (p.2 + a) % 65521)) (1, 0)
  r.2 * 65536 + r.1

/-! The bit stream -/

/-- The bits of bytes, least significant first. -/
def bitsOf (l : List Byte) : List Bool := l.flatMap (fun b => (List.range 8).map (fun i => b.getLsbD i))

/-- A number of n bits, least significant first, and the bits that follow; none where the input ends. -/
def takeBits : Nat → List Bool → Option (Nat × List Bool)
  | 0, l => some (0, l)
  | _ + 1, [] => none
  | n + 1, b :: t => (takeBits n t).map (fun r => (b2n b + 2 * r.1, r.2))

/-- The bits from the next byte boundary on. -/
def alignBits (l : List Bool) : List Bool := l.drop (l.length % 8)

/-- A decompressor at work: bits to come, data seen with the newest byte first, and how many of it are output. -/
structure Inf where
  bits : List Bool
  hist : List Byte
  n : Nat
deriving DecidableEq, Repr

/-- The output so far. -/
def Inf.out (x : Inf) : List Byte := (x.hist.take x.n).reverse

/-- A byte of output. -/
def Inf.emit (x : Inf) (b : Byte) : Inf := { x with hist := b :: x.hist, n := x.n + 1 }

/-- A match copied, byte by byte. -/
def Inf.copy (x : Inf) (dist : Nat) : Nat → Inf
  | 0 => x
  | k + 1 => (x.emit (x.hist.getD (dist - 1) 0)).copy dist k

/-! Huffman codes (RFC 1951, 3.2.2) -/

/-- A canonical code: how many symbols have each length 1-15, and the symbols by length, then value. -/
structure Huff where
  count : List Nat
  syms : List Nat
deriving DecidableEq, Repr

/-- The code of a list of code lengths. -/
def huffOf (lens : List Nat) : Huff :=
  let idx := (List.range lens.length).map (fun i => (i, lens.getD i 0))
  ⟨(List.range 15).map (fun k => (idx.filter (fun p => p.2 == k + 1)).length),
   (List.range 15).flatMap (fun k => (idx.filter (fun p => p.2 == k + 1)).map Prod.fst)⟩

/-- Code space left after every length, 0 for a complete code; none where a length has too many symbols. -/
def huffLeft (h : Huff) : Option Nat :=
  h.count.foldl (fun l c => match l with
    | none => none
    | some n => if 2 * n < c then none else some (2 * n - c)) (some 1)

/-- The next symbol. -/
def decodeSym : List Nat → List Nat → Nat → Nat → List Bool → Option (Nat × List Bool)
  | [], _, _, _, _ => none
  | _, _, _, _, [] => none
  | c :: cs, syms, code, first, b :: t =>
    let code := code + b2n b
    if code < first + c then some (syms.getD (code - first) 0, t)
    else decodeSym cs (syms.drop c) (2 * code) (2 * (first + c)) t

/-- The next symbol of a code. -/
def Huff.next (h : Huff) (l : List Bool) : Option (Nat × List Bool) := decodeSym h.count h.syms 0 0 l

/-- Extra bits and base of the length codes 257-285. -/
def lenExtra (k : Nat) : Nat := if k < 8 || k = 28 then 0 else k / 4 - 1
def lenBase (k : Nat) : Nat := if k < 8 then 3 + k else if k = 28 then 258 else (4 + k % 4) * 2 ^ (k / 4 - 1) + 3

/-- Extra bits and base of the distance codes; codes 30-39 only in GSF (R363). -/
def distExtra (k : Nat) : Nat := if k < 2 then 0 else k / 2 - 1
def distBase (k : Nat) : Nat := if k < 2 then 1 + k else (2 + k % 2) * 2 ^ (k / 2 - 1) + 1

/-! Blocks -/

/-- Literals and matches up to the end of the block; an error keeps what was put out before it. -/
def inflateCodes (gsf : Bool) (hl hd : Huff) : Nat → Inf → Except Inf Inf
  | 0, x => .error x
  | f + 1, x =>
    match hl.next x.bits with
    | none => .error x
    | some (sym, l) =>
      if sym < 256 then inflateCodes gsf hl hd f ({ x with bits := l }.emit (BitVec.ofNat 8 sym))
      else if sym = 256 then .ok { x with bits := l }
      else if 285 < sym then .error x
      else
        match takeBits (lenExtra (sym - 257)) l with
        | none => .error x
        | some (e, l) =>
          match hd.next l with
          | none => .error x
          | some (d, l) =>
            if d < (if gsf then 40 else 30) then
              match takeBits (distExtra d) l with
              | none => .error x
              | some (ed, l) =>
                let dist := distBase d + ed
                if x.hist.length < dist then .error x
                else inflateCodes gsf hl hd f ({ x with bits := l }.copy dist (lenBase (sym - 257) + e))
            else .error x

/-- The order of the code length code lengths (RFC 1951, 3.2.7). -/
def clOrder : List Nat := [16, 17, 18, 0, 8, 7, 9, 6, 10, 5, 11, 4, 12, 3, 13, 2, 14, 1, 15]

/-- n numbers of 3 bits. -/
def takeThrees : Nat → List Bool → Option (List Nat × List Bool)
  | 0, l => some ([], l)
  | n + 1, l =>
    match takeBits 3 l with
    | none => none
    | some (v, l) => (takeThrees n l).map (fun r => (v :: r.1, r.2))

/-- Code lengths of a dynamic block until there are n, the list built newest first. -/
def takeLens (h : Huff) (n : Nat) : Nat → List Nat → List Bool → Option (List Nat × List Bool)
  | 0, _, _ => none
  | f + 1, acc, l =>
    if acc.length = n then some (acc.reverse, l)
    else
      match h.next l with
      | none => none
      | some (sym, l) =>
        if sym < 16 then takeLens h n f (sym :: acc) l
        else if sym = 16 && acc.isEmpty then none
        else
          match takeBits (if sym = 16 then 2 else if sym = 17 then 3 else 7) l with
          | none => none
          | some (e, l) =>
            let k := e + (if sym = 18 then 11 else 3)
            if n < acc.length + k then none
            else takeLens h n f (List.replicate k (if sym = 16 then acc.headD 0 else 0) ++ acc) l

/-- The codes of a dynamic block; in GSF the distance count has 6 bits (R363). -/
def dynamicCodes (gsf : Bool) (l : List Bool) : Option (Huff × Huff × List Bool) := do
  let (nl, l) ← takeBits 5 l
  let (nd, l) ← takeBits (if gsf then 6 else 5) l
  let (nc, l) ← takeBits 4 l
  let nl := nl + 257
  let nd := nd + 1
  if 286 < nl || (if gsf then 40 else 32) < nd then none
  let (threes, l) ← takeThrees (nc + 4) l
  let cl := huffOf ((List.range 19).map (fun i => (((clOrder.zip threes).find? (fun p => p.1 == i)).map Prod.snd).getD 0))
  if huffLeft cl != some 0 then none
  let (lens, l) ← takeLens cl (nl + nd) (nl + nd + 1) [] l
  let ll := lens.take nl
  let dl := lens.drop nl
  let hl := huffOf ll
  let hd := huffOf dl
  if ll.getD 256 0 = 0 || huffLeft hl != some 0 then none
  if huffLeft hd = none || (huffLeft hd != some 0 && decide (1 < hd.syms.length)) then none
  some (hl, hd, l)

/-- The codes of a fixed block (RFC 1951, 3.2.6; R363). -/
def fixedLit : Huff :=
  huffOf (List.replicate 144 8 ++ List.replicate 112 9 ++ List.replicate 24 7 ++ List.replicate 8 8)
def fixedDist (gsf : Bool) : Huff := if gsf then huffOf (List.replicate 64 6) else huffOf (List.replicate 32 5)

/-- n bytes of a stored block. -/
def takeStored : Nat → Inf → Except Inf Inf
  | 0, x => .ok x
  | n + 1, x =>
    match takeBits 8 x.bits with
    | none => .error x
    | some (v, l) => takeStored n ({ x with bits := l }.emit (BitVec.ofNat 8 v))

/-- Blocks up to the one with BFINAL. -/
def inflateBlocks (gsf : Bool) : Nat → Inf → Except Inf Inf
  | 0, x => .error x
  | f + 1, x =>
    match takeBits 1 x.bits, takeBits 3 x.bits with
    | some (fin, _), some (h, l) =>
      let x := { x with bits := l }
      let r : Except Inf Inf := match h / 2 with
        | 0 =>
          if gsf then .error x
          else match takeBits 32 (alignBits l) with
            | none => .error x
            | some (v, l) =>
              if v % 65536 + v / 65536 = 65535 then takeStored (v % 65536) { x with bits := l } else .error x
        | 1 => inflateCodes gsf fixedLit (fixedDist gsf) (l.length + 1) x
        | 2 => match dynamicCodes gsf l with
          | none => .error x
          | some (hl, hd, l) => inflateCodes gsf hl hd (l.length + 1) { x with bits := l }
        | _ => .error x
      match r with
      | .error x => .error x
      | .ok x => if fin = 1 then .ok x else inflateBlocks gsf f x
    | _, _ => .error x

/-! Streams -/

/-- What a decompression gives: output, status of R374, and input consumed. -/
structure Inflated where
  out : List Byte
  status : Nat
  eaten : Nat
deriving DecidableEq, Repr

/-- The statuses of R374 that a stream can end with. -/
def cmOK : Nat := 0x00
def cmTRASH : Nat := 0x03
def cmSPILL : Nat := 0x04
def cmDATA : Nat := 0x05
def cmCHECK : Nat := 0x06
def cmDICT : Nat := 0x08
def cmADDRESS : Nat := 0x0A
def cmPOISON : Nat := 0x0B
def cmFAULT : Nat := 0x10
def cmTRAILING : Nat := 0x11

/-- Blocks of DEFLATE from bytes, after a dictionary of which the last 32 KiB count (R364). -/
def inflateRaw (dict l : List Byte) : Except Inf Inf :=
  inflateBlocks false (8 * l.length + 1) ⟨bitsOf l, dict.reverse.take 32768, 0⟩

/-- The end of a stream: its trailer's length and check, then any input that remains. -/
def endStream (l : List Byte) (head : Nat) (body : List Byte) (r : Except Inf Inf) (tail : Nat)
    (good : List Byte → List Byte → Bool) : Inflated :=
  match r with
  | .error x => ⟨x.out, cmDATA, head + body.length - x.bits.length / 8⟩
  | .ok x =>
    let at_ := head + body.length - x.bits.length / 8
    let t := (l.drop at_).take tail
    if t.length < tail then ⟨x.out, cmDATA, l.length⟩
    else if !good x.out t then ⟨x.out, cmCHECK, at_ + tail⟩
    else ⟨x.out, if at_ + tail < l.length then cmTRAILING else cmOK, at_ + tail⟩

/-- A zlib stream (RFC 1950; R361, R364). -/
def inflateZlib (id : Nat) (dict l : List Byte) : Inflated :=
  let cmf := leNat (l.take 1)
  let flg := leNat ((l.drop 1).take 1)
  if l.length < 2 || cmf % 16 != 8 || decide (7 < cmf / 16) || (cmf * 256 + flg) % 31 != 0 then ⟨[], cmDATA, min l.length 2⟩
  else
    let fd := flg.testBit 5
    let head := if fd then 6 else 2
    if l.length < head then ⟨[], cmDATA, l.length⟩
    else if (if fd then beNat ((l.drop 2).take 4) else 0) != id || (fd && id == 0) then ⟨[], cmDICT, head⟩
    else endStream l head (l.drop head) (inflateRaw dict (l.drop head)) 4 (fun o t => beNat t == adler32 o)

/-- Bytes up to and with the first zero byte; none where there is none. -/
def skipZ : List Byte → Option (List Byte)
  | [] => none
  | b :: t => if b = 0 then some t else skipZ t

/-- What follows the header of a gzip member (RFC 1952); none where it is malformed. -/
def gzipBody (l : List Byte) : Option (List Byte) := do
  let flg := leNat ((l.drop 3).take 1)
  if l.length < 10 || leNat (l.take 3) != 0x088B1F || decide (31 < flg) then none
  let r := l.drop 10
  let r ← if flg.testBit 2 then
      (let n := leNat (r.take 2)
       if r.length < 2 + n then none else some (r.drop (2 + n)))
    else some r
  let r ← if flg.testBit 3 then skipZ r else some r
  let r ← if flg.testBit 4 then skipZ r else some r
  if flg.testBit 1 then
    if r.length < 2 || leNat (r.take 2) != fcs32 (l.take (l.length - r.length)) % 65536 then none else some (r.drop 2)
  else some r

/-- The first member of a gzip stream (R361). -/
def inflateGzip (l : List Byte) : Inflated :=
  match gzipBody l with
  | none => ⟨[], cmDATA, min l.length 10⟩
  | some r => endStream l (l.length - r.length) r (inflateRaw [] r) 8
      (fun o t => leNat (t.take 4) == fcs32 o && leNat (t.drop 4) == o.length % 2 ^ 32)

/-- Frames of a GSF stream up to the one with LAST (R362, R363): what is left of the input, and the data. A coded body ends with the
zero bits that pad its last block. -/
def gsfFrames : Nat → List Byte → Inf → Except Inf (List Byte × Inf)
  | 0, _, x => .error x
  | f + 1, l, x =>
    let w := leNat (l.take 4)
    let u := leNat ((l.drop 4).take 4)
    let clen := w / 256
    if l.length < 8 + clen || decide (1 < w % 4) || bits w 4 4 != 0 || decide (65536 < clen) || decide (65536 < u) then
      .error x
    else
      let body := (l.drop 8).take clen
      let rest := l.drop (8 + clen)
      let r : Except Inf Inf :=
        if w % 4 = 0 then
          if clen = u then .ok (body.foldl Inf.emit x) else .error x
        else if u < clen then .error x
        else match inflateBlocks true (8 * clen + 1) { x with bits := bitsOf body } with
          | .error y => .error y
          | .ok y => if y.n = x.n + u && decide (y.bits.length < 8) && y.bits.all (· == false) then .ok y else .error y
      match r with
      | .error y => .error y
      | .ok y => if w.testBit 2 then .ok (rest, y) else gsfFrames f rest y

/-- A GSF stream (R362-R364). -/
def inflateGsf (id : Nat) (dict l : List Byte) : Inflated :=
  if l.length < 8 || leNat (l.take 4) != 0x01465347 then ⟨[], cmDATA, min l.length 4⟩
  else if leNat ((l.drop 4).take 4) != id then ⟨[], cmDICT, 8⟩
  else
    match gsfFrames (l.length + 1) (l.drop 8) ⟨[], dict.reverse, 0⟩ with
    | .error x => ⟨x.out, cmDATA, l.length⟩
    | .ok (rest, x) =>
      let used := l.length - rest.length
      if rest.length < 8 then ⟨x.out, cmDATA, l.length⟩
      else if leNat (rest.take 4) != crc32c x.out || leNat ((rest.drop 4).take 4) != x.n % 2 ^ 32 then
        ⟨x.out, cmCHECK, used + 8⟩
      else ⟨x.out, if 8 < rest.length then cmTRAILING else cmOK, used + 8⟩

/-- Decompression of a format, with the dictionary named and its bytes (R361-R364). -/
def inflate (fmt id : Nat) (dict l : List Byte) : Inflated :=
  match fmt with
  | 0 => endStream l 0 l (inflateRaw dict l) 0 (fun _ _ => true)
  | 1 => inflateZlib id dict l
  | 2 => inflateGzip l
  | _ => inflateGsf id dict l

/-! The bound (R367) -/

/-- The bound of the compressed output of n bytes with f flush points (R367). -/
def cmpBound (fmt n f : Nat) : Nat :=
  if fmt = 3 then n + 8 * max 1 ((n + 65535) / 65536) + 16 + 8 * f
  else n + 5 * max 1 ((n + 65534) / 65535) + 18 + 5 * f

/-- The check value of an output by format (R370, word 3). -/
def checkValue (fmt : Nat) (l : List Byte) : Nat :=
  match fmt with
  | 1 => adler32 l
  | 2 => fcs32 l
  | _ => crc32c l

end Sys2Proof.Machine
end

