-- ==== Sys2Proof/Machine/Masters.lean ====
section
/-!
DEFINITION. The sluice masters as every block sees them (12, R307-R310, R315): their states, the water turn, and the numbering of
their outputs through the check gate.
-/

namespace Sys2Proof.Machine
open Sys2Proof Csr

/-- The states of ASTATE and BSTATE (R320). -/
def slOFF : Nat := 0
def slHOLDER : Nat := 1
def slSTANDBY : Nat := 2
def slJOINING : Nat := 3
def slFAILED : Nat := 4

/-- STATE and fence of a master: false is A, true is B. -/
def sluFld (b : Bool) : Fld := if b then SLU_STAT.BSTATE else SLU_STAT.ASTATE
def fenceFld (b : Bool) : Fld := if b then SLU_LEASE.FENCE_B else SLU_LEASE.FENCE_A
def State.sluState (s : State) (b : Bool) : Nat := s.fld SLU_STAT (sluFld b)
def State.setSlu (s : State) (b : Bool) (st : Nat) : State := s.setF SLU_STAT (sluFld b) st
def State.fenced (s : State) (b : Bool) : Bool := s.flag SLU_LEASE (fenceFld b)

/-- A master's counters. -/
def State.slu (s : State) (b : Bool) : Sluice := if b then s.sluB else s.sluA
def State.putSlu (s : State) (b : Bool) (m : Sluice) : State := if b then { s with sluB := m } else { s with sluA := m }

/-- The water turn is held (R262, R310). -/
def State.turnHeld (s : State) : Bool := s.fld SLU_STAT SLU_STAT.HOLDER != 2

/-- A master holds the water turn. -/
def State.holds (s : State) (b : Bool) : Bool := s.fld SLU_STAT SLU_STAT.HOLDER == b2n b

/-- A master takes part: it is holder or standby. -/
def State.sluRuns (s : State) (b : Bool) : Bool := s.sluState b == slHOLDER || s.sluState b == slSTANDBY

/-- A word of the master's control store is being restored: the micro-trap holds it (R142). -/
def State.masterRestoring (s : State) (b : Bool) : Bool :=
  bit (s.rd (CST_SMSAVE (b2n b) 0)) 20 && bits (s.rd (CST_SMSAVE (b2n b) 0)).toNat 16 4 == 2

/-- A master that takes part has stopped, or its control-store word is being restored: it holds the other back too (R142, R308). -/
def State.sluStalled (s : State) : Bool :=
  [false, true].any (fun b => s.sluRuns b && ((s.slu b).stopped || s.masterRestoring b))

/-- A master's outputs pass the check gate, in island 8: it holds the turn, takes part, is not fenced, and the culvert that brings
them is not shut (R309-R311, R390). -/
def State.passes (s : State) (b : Bool) : Bool :=
  s.holds b && s.sluState b == slHOLDER && !s.fenced b && !s.culvertShut (14 + b2n b) 8

/-- The control plane takes inputs and acts on them: some master's outputs pass the check gate, and neither master is stalled (R308-R310,
R317). -/
def State.sluActs (s : State) : Bool := s.turnHeld && [false, true].any s.passes && !s.sluStalled

/-- hc that remain until the next scheduled change: SWAP_HOURS from the last change, switch-over or start, or 1 h from a skipped one
(R315). -/
def State.swapRemains (s : State) : Nat := max (s.fld SLU_CFG SLU_CFG.SWAP_HOURS * 562500000000) s.swapRetry - s.swapHc

/-- SWAP_LEFT follows the time to the next scheduled change: minutes, 0 with SWAP_EN = 0 (R320). -/
def State.syncSwap (s : State) : State :=
  s.setF SLU_STAT SLU_STAT.SWAP_LEFT
    (if s.flag SLU_CFG SLU_CFG.SWAP_EN then (s.swapRemains + 9374999999) / 9375000000 else 0)

/-- The interval of scheduled changes begins (R315). -/
def State.restartSwap (s : State) : State := { s with swapHc := 0, swapRetry := 0 }.syncSwap

/-- A SLU command ends with a RESULT. -/
def State.endSlu (s : State) (r : Nat) : State :=
  s.setFs SLU_STAT [(SLU_STAT.BUSY, 0), (SLU_STAT.DONE, 1), (SLU_STAT.RESULT, r)]

/-- The first output of a new holder completes the switch-over or change (R312 step 8, R315 step 5). -/
def State.turnChanged (s : State) : State :=
  match s.turnChange with
  | 0 => s
  | 1 => ({ s with turnChange := 0 }.bump SLU_CNT SLU_CNT.SWITCHOVERS 1).restartSwap
  | _ => (({ s with turnChange := 0 }.bump SLU_CNT SLU_CNT.SWAPS 1).endSlu 0).restartSwap

/-- An input computes n outputs in every master that takes part, numbered on from its last (R309). -/
def State.compute (s : State) (n : Nat) : State :=
  ([false, true].filter s.sluRuns).foldl (fun s b =>
    s.putSlu b { s.slu b with oseq := max (s.slu b).oseq (s.fld SLU_OSEQ SLU_OSEQ.EMITTED) + n }) s

/-- n outputs of the holder pass the check gate, after those it computed before them (R309); each master that takes part computes
them. -/
def State.emit (s : State) (n : Nat) : State :=
  match n, [false, true].find? s.passes with
  | _ + 1, some b =>
    let s := s.compute n
    (s.setF SLU_OSEQ SLU_OSEQ.EMITTED (s.slu b).oseq).turnChanged
  | _, _ => s

end Sys2Proof.Machine
end

