-- ==== Sys2Proof/Machine/LinkOps.lean ====
section
/-!
DEFINITION. Link frames and link retry (10): the frame format and its CRC, the retry and credit state, sending, and
taking a link between its states.
-/

namespace Sys2Proof.Machine
open Sys2Proof Csr

/-! Frames (R254) -/

/-- The frame types. -/
def ftDATA : Nat := 0
def ftACK : Nat := 1
def ftNAK : Nat := 2
def ftHOLD : Nat := 3
def ftINIT : Nat := 4
def ftMOVE : Nat := 5

/-- The header of a frame. -/
def Frame.header (f : Frame) : Nat :=
  f.typ * 2 ^ 60 + f.seq * 2 ^ 44 + f.ackseq * 2 ^ 28 + b2n f.ackv * 2 ^ 27 + f.payload.length * 2 ^ 14
    + f.cls * 2 ^ 12 + f.crcls * 2 ^ 10 + f.cred

/-- The bytes of a frame as sent: header, payload, CRC-32C least significant byte first. -/
def Frame.bytes (f : Frame) : List Byte :=
  let l := beBytes 8 f.header ++ f.payload
  l ++ leBytes 4 (crc32c l)

/-- The frame a packet's header spells. -/
def frameOf (l : List Byte) : Frame :=
  let h := beNat (l.take 8)
  ⟨bits h 60 4, bits h 44 16, bits h 28 16, h.testBit 27, bits h 12 2, bits h 10 2, bits h 0 10,
   (l.drop 8).take (l.length - 12)⟩

/-- LEN is valid for the TYPE (R254). -/
def lenValid (typ n : Nat) : Bool :=
  match typ with
  | 0 => decide (n ≤ 4096)
  | 1 => n == 0
  | 2 => n == 0
  | 3 => n == 0
  | 4 => n == 32
  | 5 => n == 8
  | _ => false

/-- What the receiver's checks find of a packet (R247, R255). -/
inductive RxCheck where
  | good (f : Frame)
  | badCrc
  | discard
deriving DecidableEq, Repr

/-- The checks of a packet of link-frame bytes: the CRC first, whatever the length (R247). -/
def checkPacket (l : List Byte) : RxCheck :=
  if l.length < 4 then .discard
  else if leNat (l.drop (l.length - 4)) != crc32c (l.take (l.length - 4)) then .badCrc
  else if l.length < 12 then .discard
  else
    let f := frameOf l
    let len := bits (beNat (l.take 8)) 14 13
    if len + 12 != l.length || !lenValid f.typ len || (f.typ == ftNAK && !f.ackv) then .discard else .good f

/-! Link state -/

/-- The states of R248. -/
def lsOFF : Nat := 0
def lsAN : Nat := 1
def lsTRAIN : Nat := 2
def lsLOCK : Nat := 3
def lsINIT : Nat := 4
def lsUP : Nat := 5
def lsRETRAIN : Nat := 6
def lsFAILED : Nat := 7

/-- A link's retry and credit state. -/
def State.link (s : State) (l : Nat) : Link := s.links.get (Link.cleared 0) l
def State.setLink (s : State) (l : Nat) (k : Link) : State := { s with links := s.links.put l k }
def State.modLink (s : State) (l : Nat) (f : Link → Link) : State := s.setLink l (f (s.link l))

/-- STATE of a link. -/
def State.lstate (s : State) (l : Nat) : Nat := s.fld (LNK_STAT l) LNK_STAT.STATE

/-- A link enters a state: EVENT sets at every change (R268). -/
def State.enterLink (s : State) (l st : Nat) : State :=
  if s.lstate l = st then s else s.setFs (LNK_STAT l) [(LNK_STAT.STATE, st), (LNK_STAT.EVENT, 1)]

/-- The lane that carries a link. -/
def State.laneOf (s : State) (l : Nat) : Nat := s.fld (LNK_STAT l) LNK_STAT.LANE

/-- Credit units of a payload (R260). -/
def unitsOf (n : Nat) : Nat := (12 + n + 63) / 64

/-- An element of a four-class list, and the list with it changed. -/
def cget (l : List Nat) (c : Nat) : Nat := l.getD c 0
def cmod (l : List Nat) (c : Nat) (f : Nat → Nat) : List Nat := modifyNth l c f

/-! The levee's check (R267) -/

/-- The states of R270. -/
def ssCLOSED : Nat := 0
def ssOPENING : Nat := 1
def ssOPEN : Nat := 2
def ssBROKEN : Nat := 3
def ssCLOSING : Nat := 4

/-- A 64-bit word of a descriptor by its offset. -/
def dword (d : List Byte) (o : Nat) : Nat := leNat ((d.drop o).take 8)

/-- The link of a path of the descriptor in force. -/
def Session.path (k : Session) (j : Nat) : Nat := bits (dword k.desc 8) (16 * j) 9

/-- No descriptor is known: never opened, or broken when its context was lost (R271). One in force offers a WLOG2 of 10 or more. -/
def Session.blank (k : Session) : Bool := dword k.desc 0 == 0

/-- The links of the named paths, in priority order. -/
def Session.links (k : Session) : List Nat :=
  if k.blank then [] else ((List.range 4).map k.path).filter (fun l => decide (l < 256))

/-- The sessions not CLOSED that name a link (R267, R281). -/
def State.namers (s : State) (l : Nat) : List Nat :=
  (s.sessions.filter (fun e => e.2.state != ssCLOSED && e.2.links.contains l)).map Prod.fst

/-- Link scope. -/
def linkScope : Nat := 0xFFFFFF

/-- The sender's session of a message (R281). -/
def msgSsess (m : List Byte) : Nat := beNat ((m.drop 5).take 3)

/-- The levee's check of frame work: link scope, or a session with a path on the link (R267, R281). -/
def State.leveePasses (s : State) (l : Nat) (m : List Byte) : Bool :=
  msgSsess m == linkScope || (s.namers l).contains (msgSsess m)

/-- LNK-LEVEE recorded: [17:0] session, [39:32] link (R267, R447). -/
def State.leveeFault (s : State) (l : Nat) (m : List Byte) : State :=
  s.fault 0x58 (mstFlume l) accNone (Word.ofNat (msgSsess m % 2 ^ 18 + l * 2 ^ 32))

/-- The bytes of a link frame in the Ethernet frame that carries it (R263). -/
def State.encapsulate (s : State) (l : Nat) (p : List Byte) : List Byte :=
  let tag := if s.flag (LNK_CTL l) LNK_CTL.VLAN then
      beBytes 2 0x8100 ++ beBytes 2 (s.fld (LNK_CTL l) LNK_CTL.PCP * 2 ^ 13 + s.fld (LNK_CTL l) LNK_CTL.VID)
    else []
  let f := beBytes 6 (s.fld (LNK_DMAC l) LNK_DMAC.MAC) ++ beBytes 6 (s.fld (LNK_SMAC l) LNK_SMAC.MAC) ++ tag
    ++ beBytes 2 (s.fld (LNK_CTL l) LNK_CTL.ETHERTYPE) ++ p
  let f := f ++ List.replicate (60 - f.length) 0
  f ++ leBytes 4 (fcs32 f)

/-- What goes out on a link's lane for a frame: the frame itself, or the Ethernet frame that carries it (R247, R263). -/
def State.onWire (s : State) (l : Nat) (f : Frame) : Output :=
  if s.flag (LNK_CTL l) LNK_CTL.ENCAP then .ether (s.laneOf l) (s.encapsulate l f.bytes) else .frame (s.laneOf l) f

/-- A frame sent on a link's lane, with the acknowledgement and the credit return of a class that every frame but INIT
carries (R254, R256, R261). -/
def State.sendFrame (s : State) (l : Nat) (typ seq cls crcls : Nat) (payload : List Byte) : State :=
  let k := s.link l
  let ack := typ != ftINIT
  let f : Frame := ⟨typ, seq, if ack then (k.expect + 65535) % 65536 else 0, ack, cls, if ack then crcls else 0,
    if ack then cget k.ownFreed crcls % 1024 else 0, payload⟩
  let told := cmod k.reported crcls (fun _ => cget k.ownFreed crcls)
  let s := if ack then s.setLink l { k with unsent := 0, reported := told } else s
  s.send (s.onWire l f)

/-- The bytes of the unacknowledged frames (R257). -/
def Link.held (k : Link) : Nat := (k.unacked.map (fun f => 12 + f.payload.length)).foldl (· + ·) 0

/-- Credit covers a frame (R260). -/
def Link.credit (k : Link) (cls n : Nat) : Bool :=
  let used := (cget k.consumed cls + 65536 - cget k.freed cls) % 65536
  decide (used + unitsOf n ≤ cget k.buf cls)

/-- A new frame may be sent: window and credit (R257, R260), and no replay before it (R259). -/
def Link.maySend (k : Link) (f : TxFrame) : Bool :=
  k.replaying.isEmpty && decide (k.unacked.length < 4096) && decide (k.held + 12 + f.payload.length ≤ 131072)
    && k.credit f.cls f.payload.length

/-- A new DATA frame sent: numbered, held for replay, charged (R257, R260). -/
def State.sendNew (s : State) (l : Nat) (f : TxFrame) : State :=
  let k := s.link l
  let f : TxFrame := ⟨k.next, f.cls, f.payload⟩
  let used := cmod k.consumed f.cls (fun n => (n + unitsOf f.payload.length) % 65536)
  let s := s.setLink l { k with next := (k.next + 1) % 65536, unacked := k.unacked ++ [f], consumed := used }
  (s.sendFrame l ftDATA f.seq f.cls f.cls f.payload).bump (LNK_CNT0 l) LNK_CNT0.TX_DATA 1

/-! Lanes (R245, R246, R264, R265) -/

/-- The transition has begun, or full service: links 16-255 may run (R413, R414). -/
def State.fullService (s : State) : Bool := decide (2 ≤ s.fld HWK_SSTAT HWK_SSTAT.PHASE)

/-- A lane may transmit and receive: no start, reset or fallow holds it idle, and in trickle service only lanes 0-15 run. -/
def State.laneRuns (s : State) (lane : Nat) : Bool := !s.lanesIdle && (s.fullService || decide (lane < 16))

/-- The lane that carries a link may. -/
def State.laneMayRun (s : State) (l : Nat) : Bool := s.laneRuns (s.laneOf l)

/-- Every frame still to be sent again is sent, before any new one; a replay consumes no credits (R259). -/
def State.sendReplay (s : State) (l : Nat) : State :=
  let q := (s.link l).replaying
  let s := s.modLink l (fun k => { k with replaying := [] })
  q.foldl (fun s f => (s.sendFrame l ftDATA f.seq f.cls f.cls f.payload).bump (LNK_CNT0 l) LNK_CNT0.TX_DATA 1) s

/-- The waiting frame work that may be sent is sent, in order within a class; a class without credit holds up no other
(R260); one whose session has no path on the link any more is not sent (R267). -/
def State.pump (s : State) (l : Nat) : State :=
  if s.lstate l = lsUP && s.laneMayRun l then
    let s := s.sendReplay l
    let q := (s.link l).work
    let s := s.modLink l (fun k => { k with work := [] })
    q.foldl (fun s f =>
      let k := s.link l
      if k.maySend f && !k.work.any (fun w => w.cls == f.cls) then
        (if s.leveePasses l f.payload then s.sendNew l f else s.leveeFault l f.payload)
      else s.setLink l { k with work := k.work ++ [f] }) s
  else s

/-- Frame work accepted by a flume (R262): it goes out now or waits for window and credit. -/
def State.sendData (s : State) (l cls : Nat) (payload : List Byte) : State :=
  (s.modLink l (fun k => { k with work := k.work ++ [⟨0, cls, payload⟩] })).pump l

/-! Acknowledgement and replay (R257, R259) -/

/-- An ACKSEQ names a frame in the window. -/
def Link.inWindow (k : Link) (a : Nat) : Bool :=
  match k.unacked with
  | [] => false
  | f :: _ => decide ((a + 65536 - f.seq) % 65536 < k.unacked.length)

/-- The frames an ACKSEQ covers are released. -/
def Link.ackTo (k : Link) (a : Nat) : Link :=
  match k.unacked with
  | [] => k
  | f :: _ =>
    let n := (a + 65536 - f.seq) % 65536 + 1
    { k with unacked := k.unacked.drop n, replays := 0 }

/-- An ACKSEQ received: released, or ignored and counted (R257). -/
def State.rxAck (s : State) (l a : Nat) : State :=
  let k := s.link l
  if k.inWindow a then s.setLink l (k.ackTo a)
  else s.bump (LNK_CNT1 l) LNK_CNT1.DISCARDS 1

/-- A replay starts from the oldest unacknowledged frame (R259). -/
def State.startReplay (s : State) (l : Nat) : State :=
  let s := s.modLink l (fun k => { k with replaying := k.unacked, nakReplay := none })
  s.bump (LNK_CNT1 l) LNK_CNT1.REPLAYS 1

/-- A credit return: freed advances by the change modulo 1,024 (R261). -/
def State.rxCredit (s : State) (l cls cred : Nat) : State :=
  s.modLink l (fun k =>
    { k with freed := cmod k.freed cls (fun n => (n + (cred + 1024 - cget k.lastCred cls) % 1024) % 65536),
             lastCred := cmod k.lastCred cls (fun _ => cred) })

/-! Lanes (R246, R249, R252) -/

/-- The rate a lane runs at now: 1 PAM4, 2 NRZ on lanes 0-15 in trickle service and until step 6 of the transition (R245, R246,
R413). -/
def State.laneMode (s : State) (lane : Nat) : Nat :=
  if decide (lane < 16) && (!s.fullService || s.rateDue) then 2 else 1

/-- The spare lane that may carry a link: SERVES bit set, no link carried, and its loopback not failed (R252, R403). -/
def State.freeSpare (s : State) (l : Nat) : Option Nat :=
  let k := l / 8
  if bits (s.fld (LNK_SPCFG k) LNK_SPCFG.SERVES) (l % 8) 1 == 1
      && s.fld (LNK_PSTAT (256 + k)) LNK_PSTAT.CARRIES == 0x1FF && !s.loopFail.contains (256 + k) then some k else none

/-- A free serving spare that may run now: none in trickle service (R246; log entry 73). -/
def State.runSpare (s : State) (l : Nat) : Option Nat := if s.laneRuns (256 + l / 8) then s.freeSpare l else none

/-- Retry, credit and epoch state cleared as in OFF (R248, R256). -/
def State.clearLink (s : State) (l : Nat) : State :=
  s.setLink l (Link.cleared (((s.link l).epoch + 1) % 2 ^ 32))

/-- The lane's transmitter goes to electrical idle: no mode, no lock. -/
def State.idleLane (s : State) (lane : Nat) : State :=
  s.setFs (LNK_PSTAT lane) [(LNK_PSTAT.MODE, 0), (LNK_PSTAT.LOCK, 0)]

/-- A lane carries no link any more. -/
def State.freeLane (s : State) (lane : Nat) : State := (s.setF (LNK_PSTAT lane) LNK_PSTAT.CARRIES 0x1FF).idleLane lane

/-- A link moves to a spare lane: the old lane carries nothing, the spare is used up (R252, R253, R451). -/
def State.takeSpare (s : State) (l k : Nat) : State :=
  let s := s.freeLane (s.laneOf l)
  let s := s.setF (LNK_PSTAT (256 + k)) LNK_PSTAT.CARRIES l
  let s := s.setF (LNK_STAT l) LNK_STAT.LANE (256 + k)
  (s.drop SPR_LEFT SPR_LEFT.LANES).repaired repLane (l * 512 + 256 + k)

/-- A link enters AN and its lane starts a training (R249). -/
def State.enterAN (s : State) (l : Nat) : State :=
  (s.enterLink l lsAN).bump (LNK_PCNT (s.laneOf l)) LNK_PCNT.TRAINS 1

/-- A link enters INIT: nothing received or sent in it yet (R256). -/
def State.enterInit (s : State) (l : Nat) : State :=
  (s.modLink l (fun k => { k with initRx := false, initSeenRx := false, initSeenTx := false })).enterLink l lsINIT

/-- The INIT payload of a link (R256). -/
def State.initPayload (s : State) (l : Nat) : List Byte :=
  let k := s.link l
  beBytes 2 l ++ beBytes 1 1 ++ beBytes 1 (b2n k.initRx) ++ beBytes 4 k.epoch
    ++ beBytes 2 (s.fld (LNK_RXBUF l) LNK_RXBUF.CTL) ++ beBytes 2 (s.fld (LNK_RXBUF l) LNK_RXBUF.REQ)
    ++ beBytes 2 (s.fld (LNK_RXBUF l) LNK_RXBUF.DATA) ++ beBytes 2 (s.fld (LNK_RXBUF l) LNK_RXBUF.RSP)
    ++ (List.range 4).flatMap (fun c => beBytes 2 (cget k.ownFreed c)) ++ beBytes 2 k.next ++ beBytes 2 k.expect
    ++ beBytes 4 0

/-- The MOVE payload (R256). -/
def State.movePayload (s : State) (l phase k : Nat) : List Byte :=
  beBytes 1 phase ++ beBytes 1 k ++ beBytes 2 (s.link l).next ++ beBytes 4 0

/-- HOLDING of every link follows the water turn (R262). -/
def State.markHolding (s : State) : State :=
  (List.range 256).foldl (fun s l =>
    if s.lstate l = lsUP then s.setF (LNK_STAT l) LNK_STAT.HOLDING (b2n (!s.turnHeld)) else s) s

end Sys2Proof.Machine
end

