-- ==== Sys2Proof/Machine/Ledger.lean ====
section
/-!
DEFINITION. Ledger records (12, R300-R304): their layout, the free records, every write of one, and the masters' reads of DRAM. The
two copies in DRAM are the records' only home.
-/

namespace Sys2Proof.Machine
open Sys2Proof Csr

/-- The states of R300. -/
def rFREE : Nat := 0
def rACCEPTED : Nat := 1
def rISSUED : Nat := 2
def rACKED : Nat := 3
def rCOMPLETED : Nat := 4
def rFAILED : Nat := 5
def rRETIRED : Nat := 6

/-- NEXT of the last record of a chain. -/
def recNone : Nat := 0x400000

/-- The words of a record (R300). -/
def Rec.words (r : Rec) : List Nat :=
  [r.state + b2n r.tpv * 2 ^ 3 + r.path * 2 ^ 4 + r.attempt * 2 ^ 6 + r.widx * 2 ^ 14 + r.session * 2 ^ 22
     + r.status * 2 ^ 40 + r.unitstat * 2 ^ 48,
   r.tseq + r.ver * 2 ^ 48,
   r.cmd + b2n r.isSealed * 2 ^ 4 + b2n r.squeeze * 2 ^ 5 + r.unit * 2 ^ 16 + r.count * 2 ^ 32,
   r.addr, r.order + r.tag * 2 ^ 32, r.dict + r.wirelen * 2 ^ 32, r.residual + r.detail * 2 ^ 32,
   r.tpos + r.next * 2 ^ 32]

/-- The 64 bytes of a record. -/
def Rec.bytes (r : Rec) : List Byte := r.words.flatMap (fun w => leBytes 8 w)

/-- The record that 64 bytes spell. -/
def recOf (l : List Byte) : Rec :=
  let w (i : Nat) : Nat := leNat ((l.drop (8 * i)).take 8)
  { state := bits (w 0) 0 3, tpv := (w 0).testBit 3, path := bits (w 0) 4 2, attempt := bits (w 0) 6 8,
    widx := bits (w 0) 14 8, session := bits (w 0) 22 18, status := bits (w 0) 40 8, unitstat := bits (w 0) 48 16,
    tseq := bits (w 1) 0 48, ver := bits (w 1) 48 16, cmd := bits (w 2) 0 4, isSealed := (w 2).testBit 4,
    squeeze := (w 2).testBit 5, unit := bits (w 2) 16 16, count := bits (w 2) 32 32, addr := w 3,
    order := bits (w 4) 0 32, tag := bits (w 4) 32 32, dict := bits (w 5) 0 32, wirelen := bits (w 5) 32 32,
    residual := bits (w 6) 0 32, detail := bits (w 6) 32 32, tpos := bits (w 7) 0 32, next := bits (w 7) 32 23 }

/-- A record as the masters read it: the primary, else the mirror (R233). -/
def State.record (s : State) (i : Nat) : Rec :=
  if s.poisoned (ledgerPrimary i) then recOf (s.bytes (ledgerMirror i) 64) else recOf (s.bytes (ledgerPrimary i) 64)

/-- The least number not in a rising list, from a start. -/
def leastFree : Nat → List Nat → Nat
  | n, [] => n
  | n, k :: t => if k = n then leastFree (n + 1) t else n

/-- The next free record: the lowest index that is FREE or RETIRED (R301; log entry 14). -/
def State.freeRecord (s : State) : Nat := leastFree 0 s.live

/-- NEXT of a free record: the next free one in index order, 0x400000 after the last (R300, R301, R319). -/
def State.nextFree (s : State) (i : Nat) : Nat := leastFree (i + 1) (s.live.filter (fun k => decide (i < k)))

/-- NEXT of a record that is not free: the session's next one in TSEQ order, 0x400000 after the last (R300, R301, R319). -/
def State.nextOfSession (s : State) (i : Nat) : Nat :=
  let r := s.record i
  let ahead (j : Nat) : Nat := ((s.record j).tseq + 2 ^ 48 - r.tseq) % 2 ^ 48
  let later := s.live.filter (fun j => (s.record j).session == r.session && decide (0 < ahead j) && decide (ahead j < 2 ^ 47))
  later.foldl (fun m j => if m = recNone ∨ ahead j < ahead m then j else m) recNone

/-- A record's bytes as read: the links of the free chain and of the sessions' chains stand in NEXT (log entry 14). -/
def State.shown (s : State) (i : Nat) (l : List Byte) : List Byte :=
  let r := recOf l
  { r with next := if r.state = rFREE || r.state = rRETIRED then s.nextFree i else s.nextOfSession i }.bytes

/-- Free records left. -/
def State.freeRecords (s : State) : Nat := 4194304 - s.live.length

/-- LGR_STAT follows the free records: LOW sets, with LGR-LOW, when they fall below LOWMARK (R321). -/
def State.countFree (s : State) : State :=
  let n := s.freeRecords
  let mark := s.fldIn LGR_CFG 0 LGR_CFG.LOWMARK
  let low := mark != 0 && decide (n < mark)
  let was := s.flag LGR_STAT LGR_STAT.LOW
  let s := s.setFs LGR_STAT [(LGR_STAT.FREE, n), (LGR_STAT.LOW, b2n low)]
  if low && !was then s.fault0 0x6C mstNone accNone else s

/-- Every write of a record is an output that goes to both copies and raises VER (R300, R302, R309); a new LOWMARK takes effect with it
(R7). -/
def State.putRec (s : State) (i : Nat) (r : Rec) : State :=
  let t := (s.emit 1).ledgerPut i { r with ver := (r.ver + 1) % 65536 }.bytes
  if s.fldIn LGR_CFG 0 LGR_CFG.LOWMARK = s.fld LGR_CFG LGR_CFG.LOWMARK then t else t.countFree

/-- The record has a state of a transaction that has not ended (R302). -/
def Rec.unended (r : Rec) : Bool := r.state == rACCEPTED || r.state == rISSUED || r.state == rACKED

/-- The record has ended. -/
def Rec.ended (r : Rec) : Bool := r.state == rCOMPLETED || r.state == rFAILED

/-- The live records of a session, by index. -/
def State.sessionRecs (s : State) (n : Nat) : List Nat := s.live.filter (fun i => (s.record i).session == n)

/-- Records put in TSEQ order, modulo 2^48 from a base. -/
def insertTseq (base : Nat) (l : List (Nat × Nat)) (e : Nat × Nat) : List (Nat × Nat) :=
  match l with
  | [] => [e]
  | p :: t =>
    if (e.1 + 2 ^ 48 - base) % 2 ^ 48 < (p.1 + 2 ^ 48 - base) % 2 ^ 48 then e :: p :: t else p :: insertTseq base t e

/-- The unended records of a session in TSEQ order, oldest first; `next` is the next TSEQ to be assigned. -/
def State.unendedRecs (s : State) (n next : Nat) : List Nat :=
  let l := (s.sessionRecs n).filter (fun i => (s.record i).unended)
  ((l.map (fun i => ((s.record i).tseq, i))).foldl (insertTseq ((next + 2 ^ 47) % 2 ^ 48)) []).map Prod.snd

/-- The record of a session's transaction. -/
def State.findTseq (s : State) (n t : Nat) : Option Nat := (s.sessionRecs n).find? (fun i => (s.record i).tseq == t)

/-- The allotment of a session, from its descriptor (R273). -/
def Session.allot (k : Session) : Nat := bits (leNat (k.desc.take 8)) 18 12

/-- A session's context. -/
def State.session (s : State) (n : Nat) : Session := s.sessions.get Session.closed n

/-- The context image entry of an allotment written through (R326): its registers at 0x000-0x1FB and their CRC-32C. -/
def State.altSync (s : State) (a : Nat) : State :=
  if s.altImage then
    let l := ((List.range 64).flatMap (fun i => leBytes 8 (s.rd (ALT_ASTAT a + 8 * i)).toNat)).take 0x1FC
    s.imageWrite (s.fld ALT_CFG ALT_CFG.CTXBASE * 2 ^ 21 + 512 * a) (l ++ leBytes 4 (crc32c l))
  else s

/-- An allotment's QUEUED changed by one, with OVER_ALLOTMENT (R332, R334). -/
def State.setQueued (s : State) (a n : Nat) : State :=
  let s := s.setF (ALT_ASTAT a) ALT_ASTAT.QUEUED n
  (if n ≤ s.fld (ALT_SHARE a) ALT_SHARE.QLIMIT then s.setF (ALT_ASTAT a) ALT_ASTAT.OVER_ALLOTMENT 0 else s).altSync a

/-- QUEUED of an allotment. -/
def State.queued (s : State) (a : Nat) : Nat := s.fld (ALT_ASTAT a) ALT_ASTAT.QUEUED

/-- A free record taken for an accepted transaction (R301, R302). -/
def State.takeRec (s : State) (r : Rec) : State × Nat :=
  let i := s.freeRecord
  let old := s.ledgerGet i .ok .ok (s.masterCode .sluice)
  let ver := ((old.2.map recOf).map Rec.ver).getD 0
  let s := { old.1 with live := insertNat s.live i, xfers := s.xfers.erase i }
  let s := s.putRec i { r with state := rACCEPTED, ver := ver, next := recNone }
  let a := (s.session r.session).allot
  ((s.setQueued a (s.queued a + 1)).bump LGR_CNT0 LGR_CNT0.ACCEPTED 1, i)

/-- A record retired: free again (R302). -/
def State.retireRec (s : State) (i : Nat) : State :=
  let r := s.record i
  let s := { s with live := removeNat s.live i, xfers := s.xfers.erase i }
  let s := s.putRec i { r with state := rRETIRED, next := recNone }
  (s.bump LGR_CNT1 LGR_CNT1.RETIRED 1).countFree

/-- A master code names a sluice master whose outputs do not pass the check gate: its read is discarded (R307, R309). -/
def State.gateShut (s : State) (master : Nat) : Bool := (master == 0x090 && !s.passes false) || (master == 0x091 && !s.passes true)

/-- DRAM_READ (R227, R228): a master reads the 64-byte sub-block at an address, as DRAM holds it, over the channel's pins; the ledger
is read by the sluice masters alone, each copy at its own address (R233, R300). -/
def execDramRead (master : BitVec 10) (pa : BitVec 39) (pins : BitVec 144) (wide : Ecc) (dma : Bool) (s : State) :
    Host.Outcome State Fault Refusal :=
  let a := alignDown pa.toNat 64
  let m := master.toNat
  let acc := if dma then accDmaRead else accRead
  let t := s.dramRead a (codewordEcc pins wide) m acc
  let l := t.dramBytes a 64
  .next (if s.gateShut m then s
    else if a < 0x7FE0000000 then t.send (.memoryData m (some l) (t.dramPoisoned a))
    else if m = 0x090 ∨ m = 0x091 then
      t.send (.memoryData m (some (t.shown ((a - 0x7FE0000000) / 64 % 4194304) l)) (t.dramPoisoned a))
    else s.fault 0x04 m acc (Word.ofNat a))

/-- The changes of a record that R302 gives. -/
def recMoves (a b : Rec) : Bool :=
  let ends := b.state == rCOMPLETED || b.state == rFAILED
  if a.state = rFREE ∨ a.state = rRETIRED then b.state == rACCEPTED
  else if a.state = rACCEPTED then b.state == rISSUED || b.state == rFAILED
  else if a.state = rISSUED then b.state == rISSUED || b.state == rACKED || ends
  else if a.state = rACKED then b.state == rACKED || ends
  else (b.state == a.state && !a.tpv && b.tpv) || b.state == rRETIRED

/-- LEDGER_WRITE (R233, R300, R302): sluice master A or B writes a record, which goes to both copies with VER raised; a write to the
mirror range is refused under R21. The check gate discards it where the master's outputs do not pass, and no program makes a change
that R302 does not give, which changes nothing (log entry 82). -/
def execLedgerWrite (b mirror : Bool) (i : BitVec 22) (data : BitVec 512) (s : State) : Host.Outcome State Fault Refusal :=
  let n := i.toNat
  let r := recOf (leBytes 64 data.toNat)
  let old := s.record n
  .next (if !s.passes b then s
    else if mirror then s.fault 0x04 (0x090 + b2n b) accWrite (Word.ofNat (ledgerMirror n))
    else if recMoves old r then
      ({ s with live := if r.unended || r.ended then insertNat s.live n else removeNat s.live n }.putRec n { r with ver := old.ver }).countFree
    else s)

end Sys2Proof.Machine
end

