-- ==== Sys2Proof/Machine/IoXlt.lean ====
section
/-!
DEFINITION. I/O translation (13, R329-R331, R336-R338): the I/O reaches, the I/O TLB, siphon rings, and DMA through them.
-/

namespace Sys2Proof.Machine
open Sys2Proof Csr

/-- The set of the I/O TLB of an address (R330). -/
def ioSet (va : Nat) : Nat := bits va 20 10

/-- Unconsumed entries of an allotment's siphon ring (R338). -/
def State.siphonLevel (s : State) (a : Nat) : Nat :=
  (s.fld (ALT_SPROD a) ALT_SPROD.PROD + 2 ^ 32 - s.fld (ALT_SCONS a) ALT_SCONS.CONS) % 2 ^ 32

/-- LINE on CORE of an allotment's siphon ring, when enabled (R338). -/
def State.siphonIrq (s : State) (a : Nat) : State :=
  if s.flag (ALT_SIRQ a) ALT_SIRQ.IRQ_EN && decide (s.fld (ALT_SIRQ a) ALT_SIRQ.CORE < 80) then
    s.setLine (s.fld (ALT_SIRQ a) ALT_SIRQ.CORE) (s.fld (ALT_SIRQ a) ALT_SIRQ.LINE)
  else s

/-- One entry appended to an allotment's siphon ring, or dropped on a full one (R336-R338); nothing where SLOG2 = 0, no ring. -/
def State.siphonAppend (s : State) (a va reach : Nat) : State :=
  if s.flag (ALT_ACTL a) ALT_ACTL.LOGDIRTY && s.fld (ALT_SIPHON a) ALT_SIPHON.SLOG2 != 0 then
    let slog := s.fld (ALT_SIPHON a) ALT_SIPHON.SLOG2
    if s.siphonLevel a = 2 ^ slog then
      (((s.bump (ALT_SPROD a) ALT_SPROD.DROPPED 1).setF (ALT_SPROD a) ALT_SPROD.OVERFLOW 1).altSync a).siphonIrq a
    else
      let p := s.fld (ALT_SPROD a) ALT_SPROD.PROD
      let e := va / 65536 % 2 ^ 32 + reach * 2 ^ 32 + (1 - bits p slog 1) * 2 ^ 63
      let s := s.blockWrite (s.fld (ALT_SIPHON a) ALT_SIPHON.SBASE * 4096 + 8 * (p % 2 ^ slog)) (leBytes 8 e) false
      let s := (s.setF (ALT_SPROD a) ALT_SPROD.PROD (p + 1)).altSync a
      if s.fld (ALT_SIRQ a) ALT_SIRQ.THRESH != 0 && s.siphonLevel a == s.fld (ALT_SIRQ a) ALT_SIRQ.THRESH then
        s.siphonIrq a
      else s
  else s

/-- An I/O translation fault recorded (R331). -/
def State.ioFault (s : State) (a va master : Nat) (f : XFault) (k : AccKind) : State :=
  let s := (s.wr (ALT_IOFAULT a) (detailWord f k false)).wr (ALT_IOFVA a) (Word.ofNat va)
  let s := (s.bump (ALT_ACNT a) ALT_ACNT.IOFAULTS 1).altSync a
  if f.kind = kWALK || f.kind = kWALKDEV then s.fault 0x2C master accWalk (Word.ofNat f.entry) else s

/-- A group entry of the I/O TLB that the entry of a stored-to page contradicts (R212). -/
def ioClash (a va e : Nat) (k : AccKind) (u : TlbEnt) : Bool :=
  k == .write && u.group && u.covers (some a) va && (!e.testBit 6 || u.page / 16 != bits e 20 28)

/-- Such an entry is dropped, whatever the page's own entry permits. -/
def State.ioDropClash (s : State) (a va e : Nat) (k : AccKind) : State :=
  let l := s.iotlb.get [] (ioSet va)
  if l.any (ioClash a va e k) then { s with iotlb := s.iotlb.put (ioSet va) (l.filter (fun u => !ioClash a va e k u)) } else s

/-- The walk of an I/O access through a TABLED reach: marks, the siphon entry of a D that changes, and the I/O TLB (R199, R213,
R329, R337); `fails` of its compare-and-swaps meet another master's change first, and 64 are CONTEND. -/
def State.ioWalk (s : State) (a n va master : Nat) (k : AccKind) (fails : Nat) : State × Option Nat :=
  match s.walkTables (s.rd (ALT_IOREACH a n)) n va k with
  | .inr f =>
    let s := if f.level = 1 && f.kind != kWALK && f.kind != kWALKDEV then s.ioDropClash a va (s.num f.entry 8) k else s
    (s.ioFault a va master f k, none)
  | .inl (e, a2) =>
    let new := marked e k
    if new ≠ e ∧ 64 ≤ fails then ((s.ioDropClash a va e k).ioFault a va master ⟨kCONTEND, 1, n, a2⟩ k, none)
    else
      let s := if new = e then s else s.blockWrite a2 (leBytes 8 new) false
      let s := if new.testBit 5 && !e.testBit 5 then s.siphonAppend a va n else s
      let l := s.iotlb.get [] (ioSet va)
      let t := entryOf (some a) va (if l.any (ioClash a va new k) && new.testBit 6 then new - 64 else new)
      let s := if installs new k then
          { s with iotlb := s.iotlb.put (ioSet va) (tlbInstall 16 (l.filter (fun u => !ioClash a va new k u)) t) }
        else s
      (s, some (t.addr va))

/-- The physical address of an I/O access, or its recorded fault (R329-R331). -/
def State.ioXlatCas (s : State) (a va master : Nat) (k : AccKind) (fails : Nat) : State × Option Nat :=
  match selectReach (fun n => s.rd (ALT_IOREACH a n)) va with
  | none => (s.ioFault a va master ⟨kNOREACH, 0, 0, 0⟩ k, none)
  | some n =>
    let r := s.rd (ALT_IOREACH a n)
    if XLT_GREACH.TYPE.get r = 1 then
      if permits (bit r 8) (bit r 9) true k then (s, some (flatAddr r va))
      else (s.ioFault a va master ⟨kPERM, 0, n, 0⟩ k, none)
    else
      match (s.iotlb.get [] (ioSet va)).filter (fun t => t.covers (some a) va) with
      | [] => s.ioWalk a n va master k fails
      | [t] =>
        if k == .write && !t.dirtyKnown va then s.ioWalk a n va master k fails
        else if permits t.r t.w true k then (s, some (t.addr va))
        else (s.ioFault a va master ⟨kPERM, 1, n, 0⟩ k, none)
      | _ => ({ s with iotlb := s.iotlb.erase (ioSet va) }).ioWalk a n va master k fails

/-- The same where no other master changes the entry under the walk. -/
def State.ioXlat (s : State) (a va master : Nat) (k : AccKind) : State × Option Nat := s.ioXlatCas a va master k 0

/-- IO_TRANSLATION (R329-R331, R337): an access of an allotment by a master, of a kind; `fails` of the compare-and-swaps of its walk
fail. -/
def execIoTranslation (a : BitVec 12) (va : Word) (master : BitVec 10) (k : AccKind) (fails : BitVec 7) (s : State) :
    Host.Outcome State Fault Refusal :=
  .next (s.ioXlatCas a.toNat va.toNat master.toNat k fails.toNat).1

/-- The pages that a range of I/O virtual addresses touches, as (first address, bytes) pieces. -/
def pieces : Nat → Nat → Nat → List (Nat × Nat)
  | 0, _, _ => []
  | f + 1, va, n =>
    if n = 0 then []
    else
      let m := min n (65536 - va % 65536)
      (va, m) :: pieces f (va + m) (n - m)

/-- The pieces of a buffer of up to 64 MiB. -/
def bufPieces (va n : Nat) : List (Nat × Nat) := pieces (n / 65536 + 2) va n

/-- The bytes of a range up to its first poisoned unit. -/
def State.goodBytes (s : State) (pa n : Nat) : Nat :=
  (s.poison.filter (fun b => decide (b * poisonSize b < pa + n) && decide (pa < b * poisonSize b + poisonSize b))).foldl
    (fun m b => min m (b * poisonSize b - pa)) n

/-- A DMA read through an allotment's I/O translation: the bytes, zeros from a fault or from the first poisoned unit on, and 0, 0x20
or 0x21 (R290). -/
def State.dmaRead (s : State) (m : Master) (a va n : Nat) : State × List Byte × Nat :=
  (bufPieces va n).foldl (fun (r : State × List Byte × Nat) p =>
    let (s, l, bad) := r
    if bad != 0 then (s, l ++ List.replicate p.2 0, bad)
    else
      match s.ioXlat a p.1 (s.masterCode m) .read with
      | (s, none) => (s, l ++ List.replicate p.2 0, 0x20)
      | (s, some pa) =>
        if s.mayReach m pa then
          let g := s.goodBytes pa p.2
          (s.blockRead pa p.2 true, l ++ s.bytes pa g ++ List.replicate (p.2 - g) 0, if g = p.2 then 0 else 0x21)
        else (s.addrFault m accDmaRead pa, l ++ List.replicate p.2 0, 0x20)) (s, [], 0)

/-- A DMA write through an allotment's I/O translation: bytes from a fault on are discarded (R290). The bytes written,
and 0 or 0x20. -/
def State.dmaPut (s : State) (m : Master) (a va : Nat) (data : List Byte) : State × Nat × Nat :=
  (bufPieces va data.length).foldl (fun (r : State × Nat × Nat) p =>
    let (s, off, bad) := r
    if bad != 0 then (s, off, bad)
    else
      match s.ioXlat a p.1 (s.masterCode m) .write with
      | (s, none) => (s, off, 0x20)
      | (s, some pa) =>
        if s.mayReach m pa then (s.blockWrite pa ((data.drop off).take p.2) true, off + p.2, 0)
        else (s.addrFault m accDmaWrite pa, off, 0x20)) (s, 0, 0)

/-- A DMA write, with its status alone. -/
def State.dmaWrite (s : State) (m : Master) (a va : Nat) (data : List Byte) : State × Nat :=
  let r := s.dmaPut m a va data
  (r.1, r.2.2)

end Sys2Proof.Machine
end

