-- ==== Sys2Proof/Machine/Squeeze.lean ====
section
/-!
DEFINITION. What compression shares between core jobs and session transactions (15): dictionaries and their references
(R364, R365), accesses by I/O virtual or physical address, and the spillway (R371).
-/

namespace Sys2Proof.Machine
open Sys2Proof Csr

/-- The dictionary entry of an ID: the lowest-numbered one that holds it (R364). -/
def State.dictOf (s : State) (id : Nat) : Option Nat :=
  if id = 0 then none else firstIdx 256 (fun n => s.fld (CMP_DICTA n) CMP_DICTA.ID == id)

/-- The bytes of a dictionary; ID 0 names none. -/
def State.dictBytes (s : State) (id : Nat) : List Byte :=
  match s.dictOf id with
  | none => []
  | some n => s.bytes (s.fld (CMP_DICTB n) CMP_DICTB.ADDR) (s.fld (CMP_DICTA n) CMP_DICTA.LEN)

/-- FORMAT and DICT of a session descriptor (R273). -/
def Session.format (k : Session) : Nat := bits (leNat ((k.desc.drop 0x30).take 8)) 0 2
def Session.dict (k : Session) : Nat := bits (leNat ((k.desc.drop 0x30).take 8)) 32 32

/-- DICT of a job descriptor (R369). -/
def Job.dict (j : Job) : Nat := bits (leNat (j.desc.take 8)) 32 32

/-- References to a dictionary ID (R365): sessions not CLOSED, unended transactions, jobs held. -/
def State.dictRefs (s : State) (id : Nat) : Nat :=
  (s.sessions.filter (fun e => e.2.state != 0 && e.2.dict == id)).length
    + (s.live.filter (fun i => (s.record i).unended && (s.record i).dict == id)).length
    + (s.jobs.filter (fun e => e.2.dict == id)).length

/-- REFS of every entry that holds a dictionary ID brought up to date: the lowest-numbered one is the one named (R364, R365). -/
def State.syncRefs (s : State) (id : Nat) : State :=
  if id = 0 then s
  else
    ((List.range 256).filter (fun n => s.fld (CMP_DICTA n) CMP_DICTA.ID == id)).foldl (fun t n =>
      t.setF (CMP_DICTB n) CMP_DICTB.REFS (if s.dictOf id = some n then min (s.dictRefs id) 0xFFFF else 0)) s

/-- CMP_STAT.STOPPED: SES stopped, no job held, no granule reserved (15, Registers). -/
def State.syncCmp (s : State) : State :=
  s.setFs CMP_STAT [(CMP_STAT.JOBS, s.jobs.length),
    (CMP_STAT.STOPPED, b2n (!s.flag SES_STAT SES_STAT.RUNNING && s.jobs.isEmpty && s.stageHeld.isEmpty))]

/-- A job's slot freed: its generation is used up (R368, R370). -/
def State.freeJob (s : State) (slot : Nat) : State :=
  match s.jobs.find slot with
  | none => s
  | some j =>
    let s := { s with
        jobs := s.jobs.erase slot, jobGen := s.jobGen.put slot ((j.gen + 1) % 2 ^ 20),
        cmpCore := s.cmpCore.filter (fun r => r != JobRef.core slot),
        engines := s.engines.filter (fun e => e.2 != JobRef.core slot) }
    ((s.drop (CMP_AJOB j.allot) CMP_AJOB.JOBS).syncCmp).syncRefs j.dict

/-- Bytes read through an allotment's I/O translation, or by physical address (R371): bytes, and 0, 0x20 or 0x21. -/
def State.spRead (s : State) (vm : Option Nat) (m : Master) (a n : Nat) : State × List Byte × Nat :=
  match vm with
  | some al => s.dmaRead m al a n
  | none =>
    if s.mayReach m a then (s.blockRead a n true, s.bytes a n, if s.poisonedRange a n then 0x21 else 0)
    else (s.addrFault m accDmaRead a, List.replicate n 0, 0x20)

/-- Bytes written through an allotment's I/O translation, or by physical address. -/
def State.spWrite (s : State) (vm : Option Nat) (m : Master) (a : Nat) (l : List Byte) : State × Nat :=
  match vm with
  | some al => s.dmaWrite m al a l
  | none => if s.mayReach m a then (s.blockWrite a l true, 0) else (s.addrFault m accDmaWrite a, 0x20)

/-- What the spillway leaves of its data: the links claimed, newest first, and a failed access. -/
structure Spilled where
  rest : List Byte
  links : List Nat
  err : Nat
deriving DecidableEq, Repr

/-- Output goes into spillway links until none is left of it, or the chain is exhausted (R371, SPILLWAY_CLAIM): the links
lie at I/O virtual addresses of an allotment or at physical ones, the buffers at I/O virtual addresses of allotment `al`
(R329); the links of `mine` are refilled (R376). -/
def State.spill (vm : Option Nat) (al : Nat) (m : Master) (owner : Nat) (mine : List Nat) :
    Nat → State → Nat → Spilled → State × Spilled
  | 0, s, _, x => (s, x)
  | f + 1, s, next, x =>
    if x.rest.isEmpty || next == 0 then (s, x)
    else
      let r := s.spRead vm m next 32
      let w (i : Nat) : Nat := leNat ((r.2.1.drop (8 * i)).take 8)
      if r.2.2 != 0 then (r.1, { x with err := r.2.2 })
      else if (w 3).testBit 63 && !mine.contains next then (r.1, x)
      else
        let a := r.1.spWrite vm m (next + 24) (leBytes 8 (owner % 2 ^ 48 + 2 ^ 63))
        if a.2 != 0 then (a.1, { x with err := a.2 })
        else
          let b := a.1.dmaPut m al (bits (w 0) 0 48) (x.rest.take (bits (w 1) 0 32))
          let c := b.1.spWrite vm m (next + 12) (leBytes 4 b.2.1)
          let err := if b.2.2 != 0 then b.2.2 else c.2
          let x : Spilled := ⟨x.rest.drop b.2.1, next :: x.links, err⟩
          if err != 0 then (c.1, x) else State.spill vm al m owner mine f c.1 (bits (w 2) 0 48) x

/-- The status of R374 of a failed access. -/
def cmAccess (e : Nat) : Nat := if e = 0x21 then cmPOISON else cmADDRESS

/-- L of R372: of decompression, with a ratio limit of the input, and of compression. -/
def State.outLimit (s : State) (olimit : Nat) (ratio : Option Nat) (input : Nat) : Nat :=
  let a := s.fld CMP_CFG CMP_CFG.ABSLIM_MIB * 1048576
  let a := if olimit = 0 then a else min olimit a
  match ratio with
  | none => a
  | some r => min a (input * (if r = 0 then s.fld CMP_CFG CMP_CFG.RATIO else r))

/-! The staging pool (R375) -/

/-- Granules held of the pool. -/
def State.granulesHeld (s : State) : Nat := (s.stageHeld.map (fun e => e.2.length)).foldl (· + ·) 0

/-- The granules of the pool that nothing holds, the lowest first (which of them a reservation takes is open; DESIGN CHOICE, log entry 84). -/
def State.granulesFree (s : State) : List Nat :=
  (List.range (s.fld CMP_STAGE CMP_STAGE.SIZE)).filter (fun g => !s.stageHeld.any (fun e => e.2.contains g))

/-- The physical address of byte n of the bytes staged in granules. -/
def State.stageAddr (s : State) (gs : List Nat) (n : Nat) : Nat :=
  (s.fld CMP_STAGE CMP_STAGE.BASE + gs.getD (n / 1048576) 0) * 1048576 + n % 1048576

/-- The pieces of n staged bytes, by granule: offset and length. -/
def stagePieces (n : Nat) : List (Nat × Nat) :=
  (List.range ((n + 1048575) / 1048576)).map (fun j => (j * 1048576, min 1048576 (n - j * 1048576)))

/-- Compressed bytes written to a record's granules. -/
def State.stageWrite (s : State) (i : Nat) (l : List Byte) : State :=
  let gs := s.stageHeld.get [] i
  let s := (stagePieces l.length).foldl (fun s p => s.blockWrite (s.stageAddr gs p.1) ((l.drop p.1).take p.2) true) s
  { s with stageData := s.stageData.put i l.length }

/-- A record's staged bytes read back, zeros from the first poisoned unit on, and 0 or 0x21 (R228, R290). -/
def State.stageRead (s : State) (i : Nat) : State × List Byte × Nat :=
  let gs := s.stageHeld.get [] i
  (stagePieces (s.stageData.get 0 i)).foldl (fun (r : State × List Byte × Nat) p =>
    if r.2.2 != 0 then (r.1, r.2.1 ++ List.replicate p.2 0, r.2.2)
    else
      let a := r.1.stageAddr gs p.1
      let g := r.1.goodBytes a p.2
      (r.1.blockRead a p.2 true, r.2.1 ++ r.1.bytes a g ++ List.replicate (p.2 - g) 0, if g = p.2 then 0 else 0x21)) (s, [], 0)

end Sys2Proof.Machine
end

