-- ==== Sys2Proof/Machine/Session.lean ====
section
/-!
DEFINITION. Sessions (11): contexts and their image, Furrow messages, tailrace rings, the end of a transaction, session
resets, resends and failover (R270-R299, R304).
-/

namespace Sys2Proof.Machine
open Sys2Proof Csr

/-! Contexts (R270, R273) -/

/-- The reset reasons of R292. -/
def rsCLOSED : Nat := 1
def rsLEDGER : Nat := 2
def rsPATH : Nat := 3
def rsPROTOCOL : Nat := 4
def rsCONTEXT : Nat := 6
def rsADMIN : Nat := 7

/-- Fields of the descriptor in force. -/
def Session.peer (k : Session) : Nat := bits (dword k.desc 0) 0 18
def Session.bell (k : Session) : Nat := bits (dword k.desc 0) 30 8
def Session.offered (k : Session) : Nat := bits (dword k.desc 0) 38 5
def Session.opOffer (k : Session) : Nat := bits (dword k.desc 0) 43 2
def Session.dring (k : Session) : Nat := bits (dword k.desc 0x10) 0 48
def Session.dlog2 (k : Session) : Nat := bits (dword k.desc 0x10) 48 5
def Session.tring (k : Session) : Nat := bits (dword k.desc 0x18) 0 48
def Session.tlog2 (k : Session) : Nat := bits (dword k.desc 0x18) 48 5
def Session.line (k : Session) : Nat := bits (dword k.desc 0x18) 53 6
def Session.tcons (k : Session) : Nat := bits (dword k.desc 0x20) 0 48
def Session.core (k : Session) : Nat := bits (dword k.desc 0x20) 48 7
def Session.irqEn (k : Session) : Bool := (dword k.desc 0x20).testBit 55
def Session.txkey (k : Session) : Nat := bits (dword k.desc 0x28) 0 18
def Session.rxkey (k : Session) : Nat := bits (dword k.desc 0x28) 32 18
def Session.spillway (k : Session) : Nat := bits (dword k.desc 0x38) 0 48

/-- The path index of a link, 0 for a link the session does not name. -/
def Session.pathOf (k : Session) (l : Nat) : Nat := (firstIdx 4 (fun j => k.path j == l)).getD 0

/-- The link of the active path. -/
def Session.activeLink (k : Session) : Nat := k.path k.active

/-- The session carries transactions: OPEN, or CLOSING while some are unended. -/
def Session.moving (k : Session) : Bool := k.state == ssOPEN || k.state == ssCLOSING

/-- Path j is live (R295). -/
def State.pathLive (s : State) (k : Session) (j : Nat) : Bool :=
  decide (k.path j < 256) && s.lstate (k.path j) == lsUP && k.answered.contains (k.path j)
    && !s.stalled.contains (k.path j)

/-- The live path of highest priority. -/
def State.bestPath (s : State) (k : Session) : Option Nat := firstIdx 4 (s.pathLive k)

/-- FLOOR of a session (R288). -/
def State.floorOf (s : State) (n : Nat) (k : Session) : Nat :=
  match s.unendedRecs n k.nextTseq with
  | [] => k.nextTseq
  | i :: _ => (s.record i).tseq

/-- The READ result of a session (R274). -/
def State.context (s : State) (n : Nat) (k : Session) : List Byte :=
  k.desc
    ++ leBytes 8 (k.state + k.active * 2 ^ 3 + k.sepoch * 2 ^ 16) ++ leBytes 8 k.nextTseq
    ++ leBytes 8 (s.floorOf n k) ++ leBytes 8 (s.unendedRecs n k.nextTseq).length ++ leBytes 8 k.attn
    ++ leBytes 8 k.nextDseq
    ++ leBytes 8 (k.wlog2 + k.opts * 2 ^ 5
        + ((List.range 4).map (fun j => if k.answered.contains (k.path j) then 2 ^ (8 + j) else 0)).foldl (· + ·) 0)
    ++ leBytes 8 0

/-- The context image entry of a session written through, with its CRC (R271). -/
def State.syncSession (s : State) (n : Nat) : State :=
  if s.sesImage then
    let l := (s.context n (s.session n)).take 124
    (s.emit 1).imageWrite (s.fld SES_CFG SES_CFG.CTXBASE * 2 ^ 25 + 128 * n) (l ++ leBytes 4 (crc32c l))
  else s

/-- A session's context changed. -/
def State.putSession (s : State) (n : Nat) (k : Session) : State :=
  ({ s with sessions := s.sessions.put n k }).syncSession n

/-- NAMED and ACTIVE of links, and SES_STAT.OPEN, brought up to date (R272). -/
def State.syncGauges (s : State) (ls : List Nat) : State :=
  let s := s.setF SES_STAT SES_STAT.OPEN (s.sessions.filter (fun e => e.2.state != ssCLOSED)).length
  ls.foldl (fun s l => s.setFs (SES_LCNT l) [(SES_LCNT.NAMED, (s.namers l).length),
    (SES_LCNT.ACTIVE, (s.sessions.filter (fun e => e.2.moving && e.2.activeLink == l)).length)]) s

/-! Messages (R281-R283) -/

/-- The message types of R282. -/
def mtOPEN : Nat := 0x01
def mtOPENACK : Nat := 0x02
def mtRESET : Nat := 0x03
def mtRESETACK : Nat := 0x04
def mtRESUME : Nat := 0x05
def mtFLOOR : Nat := 0x06
def mtATTNACK : Nat := 0x07
def mtCMD : Nat := 0x10
def mtWDATA : Nat := 0x20
def mtRDATA : Nat := 0x21
def mtTACK : Nat := 0x30
def mtTEND : Nat := 0x31
def mtATTN : Nat := 0x32

/-- The class of a message type (R282). -/
def mtClass (t : Nat) : Nat := if t < 0x10 then 0 else if t < 0x20 then 1 else if t < 0x30 then 2 else 3

/-- A message: header and body. -/
def furrowMsg (t dsess ssess sepoch tseq floor path : Nat) (body : List Byte) : List Byte :=
  beBytes 1 t ++ [1] ++ beBytes 3 dsess ++ beBytes 3 ssess ++ beBytes 2 sepoch ++ beBytes 6 tseq ++ beBytes 6 floor
    ++ beBytes 1 path ++ [0] ++ body

/-- Header fields of a message. -/
def msgType (m : List Byte) : Nat := beNat (m.take 1)
def msgDsess (m : List Byte) : Nat := beNat ((m.drop 2).take 3)
def msgSepoch (m : List Byte) : Nat := beNat ((m.drop 8).take 2)
def msgTseq (m : List Byte) : Nat := beNat ((m.drop 10).take 6)
def msgFloor (m : List Byte) : Nat := beNat ((m.drop 16).take 6)
def msgPath (m : List Byte) : Nat := beNat ((m.drop 22).take 1)
def msgBody (m : List Byte) : List Byte := m.drop 24

/-- Frame work handed to a link's flume, an output of the holder: checked, then sent as a DATA frame of the message's class (R267,
R309). -/
def State.frameWork (s : State) (l : Nat) (m : List Byte) : State :=
  let s := s.emit 1
  if s.leveePasses l m then s.sendData l (mtClass (msgType m)) m else s.leveeFault l m

/-- Messages handed over to go before every other frame of the link (R296). -/
def State.frameFirst (s : State) (l : Nat) (ms : List (List Byte)) : State :=
  let s := s.emit ms.length
  let s := (ms.filter (fun m => !s.leveePasses l m)).foldl (fun s m => s.leveeFault l m) s
  let fs := (ms.filter (s.leveePasses l)).map (fun m => (⟨0, mtClass (msgType m), m⟩ : TxFrame))
  (s.modLink l (fun k => { k with work := fs ++ k.work })).pump l

/-- A message of a session for a link (R281). -/
def State.sesMsg (s : State) (n l t tseq : Nat) (body : List Byte) : List Byte :=
  let k := s.session n
  furrowMsg t k.peer n k.sepoch tseq (s.floorOf n k) (k.pathOf l) body

/-- A message of a session sent on a link. -/
def State.sesSend (s : State) (n l t tseq : Nat) (body : List Byte) : State := s.frameWork l (s.sesMsg n l t tseq body)

/-- A RESET of a session sent on a link (R292). -/
def State.sendReset (s : State) (n l reason : Nat) : State :=
  (s.sesSend n l mtRESET 0 (beBytes 1 reason ++ [0, 0, 0])).bump SES_CNT SES_CNT.RESETS_TX 1

/-- OPEN on a path (R283): version, offer, ISN, index and number of paths. The ISN of a reloaded session is open: no image keeps it
(log entry 72). -/
def State.sendOpen (s : State) (n l : Nat) : State :=
  let k := s.session n
  let isn := k.isn.getD (bits s.freeVal.toNat 0 48)
  let s := if k.isn.isSome then s else s.drawn
  s.sesSend n l mtOPEN 0 (beBytes 2 1 ++ beBytes 1 k.offered ++ beBytes 1 k.opOffer ++ beBytes 6 isn
    ++ beBytes 1 (k.pathOf l) ++ beBytes 1 k.links.length ++ beBytes 4 0)

/-- OPEN sent on every named path whose link is UP and that has not answered (R274). -/
def State.sendOpens (s : State) (n : Nat) : State :=
  let k := s.session n
  (k.links.filter (fun l => s.lstate l == lsUP && !k.answered.contains l && !k.refused.contains l)).foldl
    (fun s l => s.sendOpen n l) s

/-- The path a RESET goes out on: the active one when its link is UP, else another answered one that is. -/
def State.resetLink (s : State) (k : Session) : Option Nat :=
  if decide (k.activeLink < 256) && s.lstate k.activeLink == lsUP then some k.activeLink
  else k.links.find? (fun l => s.lstate l == lsUP && k.answered.contains l)

/-! Tailrace rings (R279, R304) -/

/-- Room in a session's ring: fewer than 2^TLOG2 entries unconsumed. -/
def State.ringRoom (s : State) (k : Session) : Bool :=
  decide ((s.tailProd.get 0 k.tring + 2 ^ 32 - s.tailCons.get 0 k.tring) % 2 ^ 32 < 2 ^ k.tlog2)

/-- The session of an item, and its producer index once assigned. -/
def State.itemSession (s : State) : TailItem → Nat
  | .record i => (s.record i).session
  | .other n _ _ _ _ _ => n
def State.itemPos (s : State) : TailItem → Option Nat
  | .record i => let r := s.record i
    if r.tpv then some r.tpos else none
  | .other _ p _ _ _ _ => p

/-- The ring of an item. -/
def State.itemRing (s : State) (t : TailItem) : Nat := (s.session (s.itemSession t)).tring

/-- An earlier item of a ring still waits for a slot. -/
def State.ringWaits (s : State) (ring : Nat) : Bool :=
  s.tailQueue.any (fun t => s.itemRing t == ring && (s.itemPos t).isNone)

/-- The next producer index of a session's ring, when it has room and nothing earlier waits (R304). -/
def State.takeSlot (s : State) (n : Nat) : State × Option Nat :=
  let k := s.session n
  if s.ringRoom k && !s.ringWaits k.tring then
    let p := s.tailProd.get 0 k.tring
    ({ s with tailProd := s.tailProd.put k.tring ((p + 1) % 2 ^ 32) }, some p)
  else (s, none)

/-- An entry that is no record's queued for a session's ring. -/
def State.pushEntry (s : State) (n w0 w1 w2 w3 : Nat) : State :=
  let r := s.takeSlot n
  { r.1 with tailQueue := r.1.tailQueue ++ [.other n r.2 w0 w1 w2 w3] }

/-- The words of such an entry: TSEQ, STATUS, KIND, TAG, session, word index, DETAIL (R279). -/
def State.pushKind (s : State) (n tseq status kind tag widx unitstat detail : Nat) : State :=
  s.pushEntry n (tseq + status * 2 ^ 48 + kind * 2 ^ 56) (tag + n * 2 ^ 32) (unitstat + widx * 2 ^ 16) detail

/-- TSEQ of REFUSED, FURROW-ERROR and SESSION-RESET entries. -/
def noTseq : Nat := 0xFFFFFFFFFFFF

/-- Slots for items that wait, in order, while their rings have room (R279, R304). -/
def State.assignSlots : List TailItem → List TailItem → State → State
  | [], done, s => { s with tailQueue := done }
  | t :: rest, done, s =>
    if (s.itemPos t).isSome then State.assignSlots rest (done ++ [t]) s
    else
      let n := s.itemSession t
      let r := ({ s with tailQueue := done }).takeSlot n
      match r.2 with
      | none => State.assignSlots rest (done ++ [t]) r.1
      | some p =>
        match t with
        | .record i =>
          State.assignSlots rest (done ++ [t]) (r.1.putRec i { r.1.record i with tpv := true, tpos := p })
        | .other n _ a b c d => State.assignSlots rest (done ++ [.other n (some p) a b c d]) r.1

/-- The consumer index word of a session's ring read: records it has passed retire, and slots free up (R27, R279). -/
def State.pollRing (s : State) (n : Nat) : State :=
  let k := s.session n
  let c := s.num k.tcons 4
  let s := (s.emit 1).blockRead k.tcons 4 false
  let s := { s with tailCons := s.tailCons.put k.tring c }
  let passed := s.live.filter (fun i =>
    let r := s.record i
    r.ended && r.tpv && (s.session r.session).tring == k.tring && decide ((c + 2 ^ 32 - 1 - r.tpos) % 2 ^ 32 < 2 ^ 31)
      && !s.tailQueue.contains (TailItem.record i))
  let s := passed.foldl State.retireRec s
  State.assignSlots s.tailQueue [] s

/-- The 32 bytes of an item at a producer index: PHASE is the complement of bit TLOG2 of it (R279). -/
def State.entryBytes (s : State) (t : TailItem) (p : Nat) : List Byte :=
  let k := s.session (s.itemSession t)
  let phase := (1 - bits p k.tlog2 1) * 2 ^ 63
  match t with
  | .record i =>
    let r := s.record i
    leBytes 8 (r.tseq + r.status * 2 ^ 48 + (if r.state = rCOMPLETED then 0 else 1) * 2 ^ 56 + phase)
      ++ leBytes 8 (r.tag + r.session * 2 ^ 32) ++ leBytes 8 (r.unitstat + r.widx * 2 ^ 16 + r.residual * 2 ^ 32)
      ++ leBytes 8 r.detail
  | .other _ _ a b c d => leBytes 8 (a + phase) ++ leBytes 8 b ++ leBytes 8 c ++ leBytes 8 d

/-- An item written at its slot, with its interrupt (R279). -/
def State.writeEntry (s : State) (t : TailItem) (p : Nat) : State :=
  let k := s.session (s.itemSession t)
  let s := (s.emit 1).blockWrite (k.tring + 32 * (p % 2 ^ k.tlog2)) (s.entryBytes t p) false
  if k.irqEn && decide (k.core < 80) then (s.emit 1).setLine k.core k.line else s

/-! The end of a transaction (R302, R304) -/

/-- Granules of a reservation wiped; they are freed when the wipe ends (R357). -/
def State.wipeBasin (s : State) (i : Nat) : State :=
  match s.basins.find i with
  | none => s
  | some b => { s with basins := s.basins.put i { b with data := [], phase := .wiping } }

/-- CIP_BSTAT follows the reservations. -/
def State.syncBasin (s : State) : State :=
  s.setFs CIP_BSTAT [(CIP_BSTAT.FREE, 64 - (s.basins.map (fun e => e.2.granules)).foldl (· + ·) 0),
    (CIP_BSTAT.WAITING, s.basinQueue.length)]

/-- CMP_STAT.STAGE_FREE follows the granules held. -/
def State.syncStage (s : State) : State :=
  (s.setF CMP_STAT CMP_STAT.STAGE_FREE
    (s.fld CMP_STAGE CMP_STAGE.SIZE - s.granulesHeld)).syncCmp

/-- What a transaction holds outside its record is given up. -/
def State.dropWork (s : State) (i : Nat) : State :=
  let s := { s with
      xfers := s.xfers.erase i, resendLate := removeNat s.resendLate i, issueQueue := removeNat s.issueQueue i,
      basinQueue := s.basinQueue.filter (fun e => e.1 != i), stageQueue := s.stageQueue.filter (fun e => e.1 != i),
      stageHeld := s.stageHeld.erase i, stageData := s.stageData.erase i,
      cmpSession := s.cmpSession.filter (fun j => j != JobRef.stage i && j != JobRef.inflate i),
      engines := s.engines.filter (fun e => e.2 != JobRef.stage i && e.2 != JobRef.inflate i) }
  ((s.wipeBasin i).syncBasin).syncStage

/-- RESET CLOSED of a closing session, once no transaction is unended and every refused doorbell record has its entry
(R274). -/
def State.closeAdvance (s : State) (n : Nat) : State :=
  let k := s.session n
  if k.state == ssCLOSING && k.closing == some .waiting && (s.unendedRecs n k.nextTseq).isEmpty
      && !s.tailQueue.any (fun t => match t with
        | .other m _ _ _ _ _ => m == n
        | .record _ => false) then
    let s := s.putSession n { k with closing := some .sent }
    match s.resetLink k with
    | some l => s.sendReset n l rsCLOSED
    | none => s
  else s

/-- A record ends COMPLETED or FAILED, with its tailrace slot when the ring has room (R302, R304). -/
def State.endRec (s : State) (i st status unitstat residual detail wirelen : Nat) : State :=
  let r := s.record i
  if r.unended then
    let k := s.session r.session
    let s := s.dropWork i
    let s := if r.state = rACCEPTED then s.setQueued k.allot (s.queued k.allot - 1) else s
    let (s, p) := s.takeSlot r.session
    let s := s.putRec i { r with
        state := st, status := status, unitstat := unitstat, residual := residual,
        detail := detail, wirelen := wirelen, tpv := p.isSome, tpos := p.getD 0 }
    let s := { s with tailQueue := s.tailQueue ++ [TailItem.record i] }
    let s := (s.bump LGR_CNT0 LGR_CNT0.ENDED 1).syncRefs r.dict
    (s.syncSession r.session).closeAdvance r.session
  else s

/-- A transaction ends FAILED with a status and a detail of the module. -/
def State.failRec (s : State) (i status detail : Nat) : State :=
  let r := s.record i
  s.endRec i rFAILED status r.unitstat r.residual detail r.wirelen

/-- Every unended transaction of a session ends for a reset reason: 0x10 if ACCEPTED, else 0x11 (R292). -/
def State.failAll (s : State) (n reason : Nat) : State :=
  (s.unendedRecs n (s.session n).nextTseq).foldl (fun s i =>
    s.failRec i (if (s.record i).state = rACCEPTED then 0x10 else 0x11) reason) s

/-- Every unconsumed doorbell record is answered with REFUSED NOT-OPEN, in DSEQ order (R487). -/
def State.refuseBells (s : State) (n : Nat) : State :=
  let k := s.session n
  let s := (List.range ((k.bellDseq + 2 ^ 48 - k.nextDseq) % 2 ^ 48)).foldl (fun s d =>
    s.pushKind n noTseq 0x42 2 0 0 0 ((k.nextDseq + d) % 2 ^ 32)) s
  s.putSession n { k with nextDseq := k.bellDseq }

/-! Session commands' ends and session resets (R274, R292) -/

/-- The SES command in progress ends with a RESULT. -/
def State.endSes (s : State) (r : Nat) : State :=
  { s.setFs SES_CMDSTAT [(SES_CMDSTAT.BUSY, 0), (SES_CMDSTAT.DONE, 1), (SES_CMDSTAT.RESULT, r)] with sesBusy := none }

/-- A session becomes CLOSED; a command that waited for it ends (R274). -/
def State.closeSession (s : State) (n r : Nat) : State :=
  let k := s.session n
  let s := s.putSession n { k with state := ssCLOSED, closing := none, resetDue := none, stranded := none }
  let s := (s.syncGauges k.links).syncRefs k.dict
  if (s.sesBusy.map Prod.snd) = some n then s.endSes r else s

/-- The session reset of R292, steps 1 to 3, and R487: transactions end, the session breaks, its SESSION-RESET entry and
those of its doorbell records are queued. A CLOSING session goes on closing. -/
def State.breakSession (s : State) (n reason : Nat) : State :=
  let s := s.failAll n reason
  let k := s.session n
  let s := s.putSession n { k with
      state := if k.state = ssCLOSING then ssCLOSING else ssBROKEN, reason := reason,
      stranded := none }
  let s := s.pushKind n noTseq reason 5 0 0 0 reason
  ((s.refuseBells n).syncGauges k.links).closeAdvance n

/-- A reset that the module sends: on a path that is UP, else on the first to come UP (R292, R298). -/
def State.resetSession (s : State) (n reason : Nat) : State :=
  let k := s.session n
  if k.moving then
    let s := s.breakSession n reason
    match s.resetLink k with
    | some l => s.sendReset n l reason
    | none => s.putSession n { s.session n with resetDue := some reason }
  else s

/-! Ledger reads (R233, R305) -/

/-- A record lost in both copies: it is free again, and its session is reset with reason LEDGER-LOST (R305). -/
def State.ledgerLost (s : State) (i : Nat) (old : Rec) : State :=
  let s := (s.emit 1).ledgerPut i (List.replicate 64 0)
  if s.live.contains i then
    let k := s.session old.session
    let s := s.dropWork i
    let s := if old.state = rACCEPTED then s.setQueued k.allot (s.queued k.allot - 1) else s
    let s := { s with live := removeNat s.live i, tailQueue := s.tailQueue.filter (fun t => t != TailItem.record i) }
    ((s.countFree).syncRefs old.dict).resetSession old.session rsLEDGER
  else s

/-- The holder reads a record, with what the checks of the two copies find: its bytes, or none where it is LOST (R233, R305, R307). -/
def State.holderRead (s : State) (i : Nat) (e1 e2 : Ecc) : State × Option (List Byte) :=
  let old := s.record i
  let r := (s.emit 1).ledgerGet i e1 e2 (s.masterCode .sluice)
  if r.2.isNone then (r.1.ledgerLost i old, none) else (r.1, r.2.map (r.1.shown i))

/-- A record read before the holder goes on with its transaction: a copy that holds poison is repaired, a lost record found. -/
def State.readRec (s : State) (i : Nat) : State := (s.holderRead i .ok .ok).1

/-! Sending a transaction (R285, R293, R296) -/

/-- The data of a transaction flows into the module (R276). -/
def Rec.inbound (r : Rec) : Bool := r.cmd.testBit 2

/-- The wire limit of a transaction (R285). -/
def wireLimit (k : Session) (r : Rec) : Nat :=
  (if r.squeeze then cmpBound k.format r.count 0 else r.count) + (if r.isSealed then 16 else 0)

/-- The transfer state of a record. -/
def State.xfer (s : State) (i : Nat) : Xfer := s.xfers.get Xfer.none i
def State.setXfer (s : State) (i : Nat) (x : Xfer) : State := { s with xfers := s.xfers.put i x }

/-- A failed access or key marks a transaction; the first one stands (R290, R353). -/
def State.markBad (s : State) (i status detail : Nat) : State :=
  let x := s.xfer i
  if status = 0 || x.bad != 0 then s else s.setXfer i { x with bad := status, badDetail := detail }

/-- The IV and AAD of sealed data in a direction (R293). -/
def sealIv (k : Session) (r : Rec) (dir : Nat) : Nat :=
  beNat (beBytes 2 k.sepoch ++ beBytes 1 dir ++ beBytes 1 r.attempt ++ beBytes 6 r.tseq ++ [0, 0])
def sealAad (k : Session) (r : Rec) (dir : Nat) : Nat :=
  beNat (beBytes 3 r.session ++ beBytes 3 k.peer ++ beBytes 2 k.sepoch ++ beBytes 6 r.tseq ++ beBytes 1 dir
    ++ beBytes 1 r.attempt)

/-- The outbound wire data of a transaction: from the buffer or the staged bytes, sealed under TXKEY (R285, R293, R375);
zeros where the key is unusable (R353). -/
def State.wireData (s : State) (i l : Nat) : State × List Byte :=
  let r := s.record i
  let k := s.session r.session
  let (s, plain) := if r.squeeze then
      let d := s.stageRead i
      (d.1.markBad i d.2.2 0, d.2.1)
    else
      let d := s.dmaRead (.flume l) k.allot r.addr r.count
      (d.1.markBad i d.2.2 0, d.2.1)
  if r.isSealed then
    let st := s.slotStatus k.txkey (useENC + useFLUME) (some k.allot)
    if st = cipOK then
      let blocks := (plain.length + 15) / 16 + 1
      (s.bump CIP_CNT0 CIP_CNT0.BLOCKS blocks, gcmSeal (s.slot k.txkey).bytes (sealIv k r 1) (sealAad k r 1) plain)
    else (s.markBad i 0x30 st, List.replicate (plain.length + 16) 0)
  else (s, plain)

/-- The CMD of a transaction (R283). -/
def State.cmdMsg (s : State) (i l : Nat) (resent : Bool) : List Byte :=
  let r := s.record i
  s.sesMsg r.session l mtCMD r.tseq
    (beBytes 1 r.cmd ++ beBytes 1 (b2n r.isSealed + 2 * b2n r.squeeze + 4 * b2n resent) ++ beBytes 1 r.attempt ++ [0]
      ++ beBytes 2 r.unit ++ [0, 0] ++ beBytes 4 r.order ++ beBytes 4 r.count
      ++ beBytes 4 (if r.inbound then 0 else r.wirelen) ++ beBytes 4 r.dict)

/-- The WDATA messages of wire data, in rising OFFSET (R285). -/
def State.wdataMsgs (s : State) (i l : Nat) (data : List Byte) : List (List Byte) :=
  let r := s.record i
  (List.range ((data.length + 4063) / 4064)).map (fun c =>
    s.sesMsg r.session l mtWDATA r.tseq (beBytes 4 (4064 * c) ++ beBytes 4 0 ++ (data.drop (4064 * c)).take 4064))

/-- FLOOR as last sent in a CMD or FLOOR message (R288). -/
def State.noteFloor (s : State) (n : Nat) : State :=
  let k := s.session n
  { s with sessions := s.sessions.put n { k with floorSent := s.floorOf n k } }

/-- The first messages of a transaction sent on the active path (R285, R303). -/
def State.sendTransaction (s : State) (i : Nat) : State :=
  let r := s.record i
  let l := (s.session r.session).activeLink
  let (s, data) := if r.inbound then (s, []) else s.wireData i l
  let s := (s.cmdMsg i l false :: s.wdataMsgs i l data).foldl (fun s m => s.frameWork l m) s
  s.noteFloor r.session

/-- What a resend of one transaction on a link sends (R296): CMD with RESEND, and for an ISSUED WRITE or CONTROL its WDATA
from OFFSET 0; inbound data starts again; a 256th attempt ends it (R302). What failed the
transaction for good, a key, a tag or an overrun, stands (R353, R356, R357). -/
def State.resendRec (s : State) (l i : Nat) : State × List (List Byte) :=
  let s := s.readRec i
  let r := s.record i
  if r.state = rISSUED || r.state = rACKED then
    let fresh := s.issueQueue.contains i
    let data := !r.inbound && r.state == rISSUED
    let again := r.isSealed && !fresh && (data || r.inbound)
    if again && r.attempt == 255 then (s.failRec i 0x12 0, [])
    else
      let s := s.putRec i { r with
          attempt := if again then r.attempt + 1 else r.attempt,
          path := (s.session r.session).pathOf l }
      let x := s.xfer i
      let s := { s with
          issueQueue := removeNat s.issueQueue i,
          cmpSession := s.cmpSession.filter (fun j => j != JobRef.inflate i),
          engines := s.engines.filter (fun e => e.2 != JobRef.inflate i) }
      let ended := !r.inbound || x.bad == 0x30
      let s := s.setXfer i { Xfer.none with
          claimed := x.claimed,
          bad := if ended then x.bad else 0,
          badDetail := if ended then x.badDetail else 0 }
      let s := match s.basins.find i with
        | some b =>
          if b.phase == .wiping then s else { s with basins := s.basins.put i { b with data := [], phase := .filling } }
        | none => s
      let (s, wire) := if data then s.wireData i l else (s, [])
      (s, s.cmdMsg i l (!fresh) :: s.wdataMsgs i l wire)
  else (s, [])

/-- The granules and staged data that a record needs before its CMD is sent are there (R355, R375). -/
def State.prepared (s : State) (i : Nat) : Bool :=
  let r := s.record i
  !r.unended || r.state == rACCEPTED
    || ((!(r.inbound && r.isSealed) || (s.basins.find i).isSome || (s.xfer i).bad == 0x30) && (!(!r.inbound && r.squeeze) || (s.stageData.find i).isSome
      || r.state == rACKED))

/-- The resends of one session, in TSEQ order; what is not prepared is sent again once it is. -/
def State.resendSession (s : State) (l n : Nat) : State × List (List Byte) :=
  let r := (s.unendedRecs n (s.session n).nextTseq).foldl (fun (p : State × List (List Byte)) i =>
    if s.prepared i then
      let q := p.1.resendRec l i
      (q.1, p.2 ++ q.2)
    else ({ p.1 with resendLate := insertNat p.1.resendLate i }, p.2)) (s, [])
  (r.1.noteFloor n, r.2)

/-- Lists taken one element each in turn. -/
def interleave {α : Type} : Nat → List (List α) → List α
  | 0, _ => []
  | f + 1, ls => ls.filterMap List.head? ++ interleave f (ls.map List.tail)

/-- RESUME on a link, then the resends of sessions, round-robin, before anything else of the link (R296, R299). -/
def State.resumeOn (s : State) (l cause from_ : Nat) (ns : List Nat) : State :=
  let r := ns.foldl (fun (p : State × List (List (List Byte))) n =>
    let q := p.1.resendSession l n
    (q.1, p.2 ++ [q.2])) (s, [])
  let ms := interleave ((r.2.map List.length).foldl max 0) r.2
  let resume := furrowMsg mtRESUME linkScope linkScope 0 0 0 0 (beBytes 1 cause ++ [0] ++ beBytes 2 from_)
  (r.1.frameFirst l (resume :: ms)).bump SES_CNT SES_CNT.RESUMES 1

/-! Failover (R295, R296, R298) -/

/-- Sessions that leave a link: each moves to its live path, and every alternate link gets one RESUME and the resends of
its sessions; one without a live path waits (R296, R298). -/
def State.failover (s : State) (from_ cause : Nat) (ns : List Nat) : State :=
  let goes := ns.filterMap (fun n => (s.bestPath (s.session n)).map (fun j => (n, j)))
  let stays := ns.filter (fun n => (s.bestPath (s.session n)).isNone)
  let s := stays.foldl (fun s n => s.putSession n { s.session n with stranded := some from_ }) s
  let s := goes.foldl (fun s (n, j) =>
    let k := s.session n
    let s := if k.path j = from_ then s else s.bump (SES_LCNT from_) SES_LCNT.FAILOVERS 1
    s.putSession n { k with active := j, stranded := none }) s
  let alts := (goes.map (fun p => (s.session p.1).activeLink)).foldl insertNat []
  let s := alts.foldl (fun s l =>
    s.resumeOn l cause from_ ((goes.map Prod.fst).filter (fun n => (s.session n).activeLink == l))) s
  s.syncGauges (insertNat alts from_)

/-- The moving sessions whose active path is a link. -/
def State.activeOn (s : State) (l : Nat) : List Nat :=
  (s.sessions.filter (fun e => e.2.moving && e.2.activeLink == l)).map Prod.fst

/-- The holder learns that a link is down or stalled (R250, R296); one that a switch-over hides is found when the paths are next
evaluated, after its step 8 (R297). -/
def State.pathFailed (s : State) (l : Nat) : State := if s.sluActs && s.turnChange != 1 then s.failover l 1 (s.activeOn l) else s

/-- A path has become live: sessions stranded without one go on over it (R298). -/
def State.revive (s : State) (l : Nat) : State :=
  let ns := (s.sessions.filter (fun e => e.2.moving && e.2.stranded.isSome && (s.bestPath e.2).isSome
    && e.2.links.contains l)).map Prod.fst
  (ns.foldl (fun ls n => insertNat ls (((s.session n).stranded).getD 0)) []).foldl (fun s f =>
    s.failover f 1 (ns.filter (fun n => (s.session n).stranded == some f))) s

/-- The RESETs that a link coming UP sends before anything else: the link-scope one of a cold start, then those that sessions owe, each
session broken first where that was still to come (R292, R298). -/
def State.dueResets (s : State) (l : Nat) : State :=
  let cold := if s.coldDue.contains l then
      [furrowMsg mtRESET linkScope linkScope 0 0 0 0 [BitVec.ofNat 8 rsLEDGER, 0, 0, 0]] else []
  let r := (s.namers l).foldl (fun (p : State × List (List Byte)) n =>
    let k := p.1.session n
    match k.resetDue with
    | some why =>
      let s := p.1.putSession n { k with resetDue := none }
      let s := if k.moving then s.breakSession n why else s
      (s, p.2 ++ [s.sesMsg n l mtRESET 0 (beBytes 1 why ++ [0, 0, 0])])
    | none => p) ({ s with coldDue := removeNat s.coldDue l }, cold)
  if r.2.isEmpty then r.1 else (r.1.frameFirst l r.2).bump SES_CNT SES_CNT.RESETS_TX r.2.length

/-- The first messages of a link that has come UP (R274, R292, R298, R299). -/
def State.upMessages (s : State) (l : Nat) : State :=
  let s := s.dueResets l
  let s := (s.namers l).foldl (fun s n =>
    let k := s.session n
    if (k.state = ssOPENING || k.state = ssOPEN) && !k.answered.contains l && !k.refused.contains l then s.sendOpen n l
    else s) s
  let lost := (s.link l).lost
  let s := s.modLink l (fun k => { k with lost := false })
  let own := s.activeOn l
  let s := if s.warmDue.contains l then
      { s with warmDue := removeNat s.warmDue l }.resumeOn l 3 0xFFFF own
    else if lost && !own.isEmpty then s.resumeOn l 2 l own
    else s
  let s := if lost then own.foldl (fun s n => s.putSession n { s.session n with stranded := none }) s else s
  (s.revive l).syncGauges [l]

/-- A link has come UP: its first messages go out, or wait for the water turn (R262). -/
def State.linkUp (s : State) (l : Nat) : State :=
  let s := { s with stalled := removeNat s.stalled l }
  let s := s.setFs (LNK_STAT l) [(LNK_STAT.TRAINFAIL, 0), (LNK_STAT.HOLDING, b2n (!s.turnHeld))]
  if s.sluActs then (s.upMessages l).pump l else { s with upWait := insertNat s.upWait l }

end Sys2Proof.Machine
end

