-- ==== Sys2Proof/Machine/LinkCmds.lean ====
section
/-!
DEFINITION. Links (10): the link state machine, spare lanes, receiving packets, retry, credits, and frame work (R245-R268).
-/

namespace Sys2Proof.Machine
open Sys2Proof Csr

/-! Going down (R248, R250, R252) -/

/-- A link in FAILED with a serving spare that may run moves to it at once; else the spares manager is told (R252). -/
def State.substituteLink (s : State) (l : Nat) : State :=
  match s.runSpare l with
  | some k => ((s.takeSpare l k).setF (LNK_STAT l) LNK_STAT.TRAINFAIL 0).enterAN l
  | none => s.exhausted

/-- A spare lane has become free, or serves other links: the first of its FAILED links moves to it (R252). -/
def State.serveFailed (s : State) (k : Nat) : State :=
  match ((List.range 8).map (8 * k + ·)).find? (fun l => s.lstate l == lsFAILED && (s.runSpare l).isSome) with
  | some l => s.substituteLink l
  | none => s

/-- A planned substitution ends without the spare: it returns unused, and LNK-SPARE is recorded (R253). -/
def State.abortMove (s : State) (l : Nat) : State :=
  match (s.link l).move with
  | none => s
  | some m =>
    let s := s.freeLane (256 + m.spare)
    ((s.modLink l (fun k => { k with move := none })).fault 0x54 mstNone accNone 0).serveFailed m.spare

/-- ABORT sent, where the link is UP, and the planned substitution ended (R253). -/
def State.sendAbort (s : State) (l : Nat) : State :=
  match (s.link l).move with
  | none => s
  | some m =>
    (if s.lstate l = lsUP && s.laneMayRun l then s.sendFrame l ftMOVE 0 0 0 (s.movePayload l 3 m.spare) else s).abortMove l

/-- A substitution that finds its link down completes as one after failure (R253). -/
def State.finishMove (s : State) (l : Nat) : State :=
  match (s.link l).move with
  | none => s
  | some m =>
    let s := s.modLink l (fun k => { k with move := none })
    if m.committed then s.freeLane m.old else (s.takeSpare l m.spare).enterAN l

/-- A link enters RETRAIN: counted, its lane idle, its state kept (R248, R250). -/
def State.toRetrain (s : State) (l : Nat) : State :=
  ((s.enterLink l lsRETRAIN).bump (LNK_CNT1 l) LNK_CNT1.DOWNS 1).idleLane (s.laneOf l)

/-- An UP link goes down with a cause; the masters learn of it (R250, R296). -/
def State.linkDown (s : State) (l cause : Nat) : State :=
  if s.lstate l = lsUP then
    let s := (s.toRetrain l).setFs (LNK_STAT l) [(LNK_STAT.DOWNCAUSE, cause), (LNK_STAT.HOLDING, 0)]
    (s.finishMove l).pathFailed l
  else s

/-- A training attempt fails: RETRAIN, or FAILED after RETRAIN_MAX in a row (R248). -/
def State.trainFail (s : State) (l : Nat) : State :=
  let s := (s.bump (LNK_STAT l) LNK_STAT.TRAINFAIL 1).toRetrain l
  if s.fld (LNK_CFG l) LNK_CFG.RETRAIN_MAX ≤ s.fld (LNK_STAT l) LNK_STAT.TRAINFAIL then
    ((s.enterLink l lsFAILED).pathFailed l).substituteLink l
  else s

/-! LNK_CTL (R248, R253, R268) -/

/-- EN = 1: an OFF link enters AN, at once where its lane may run, else when it may (R246, R248). -/
def State.linkEnable (s : State) (l : Nat) : State :=
  let s := s.setF (LNK_CTL l) LNK_CTL.EN 1
  if s.lstate l = lsOFF && s.laneMayRun l then s.enterAN l else s

/-- Lanes begin to run: the OFF links with EN = 1 enter AN, and FAILED links move to their spares (R246, R248, R252). -/
def State.lanesBegin (s : State) : State :=
  let s := ((List.range 256).filter (fun l => s.flag (LNK_CTL l) LNK_CTL.EN && s.lstate l == lsOFF && s.laneMayRun l
    && !s.loopFail.contains (s.laneOf l))).foldl State.enterAN s
  (List.range 32).foldl State.serveFailed s

/-- EN = 0: the link goes to OFF, retry and credit state cleared (R248); a planned substitution not yet committed ends with ABORT (R253). -/
def State.linkDisable (s : State) (l : Nat) : State :=
  let s := s.setF (LNK_CTL l) LNK_CTL.EN 0
  if s.lstate l = lsOFF then s
  else
    let s := match (s.link l).move with
      | some m => if m.committed then s.freeLane m.old else s.sendAbort l
      | none => s
    let s := ((s.enterLink l lsOFF).setF (LNK_STAT l) LNK_STAT.HOLDING 0).idleLane (s.laneOf l)
    let s := (s.clearLink l).modLink l (fun k => { k with lost := true })
    s.pathFailed l

/-- RETRAIN = 1: ignored unless UP. -/
def State.linkRetrain (s : State) (l : Nat) : State := s.linkDown l 4

/-- MOVE = 1: a planned substitution starts, unless the link is not UP or no serving spare that may run is free (R246, R253). -/
def State.linkMove (s : State) (l : Nat) : State :=
  if s.lstate l = lsUP && (s.link l).move.isNone then
    match s.runSpare l with
    | none => s
    | some k =>
      let s := (s.setF (LNK_PSTAT (256 + k)) LNK_PSTAT.CARRIES l).bump (LNK_PCNT (256 + k)) LNK_PCNT.TRAINS 1
      let s := s.modLink l (fun x => { x with move := some ⟨k, s.laneOf l, false, false, false⟩ })
      s.sendFrame l ftMOVE 0 0 0 (s.movePayload l 1 k)
  else s

/-- The move commits once the peer is prepared and the spare holds lock: COMMIT is the last frame on the old lane
(R253). -/
def State.tryCommit (s : State) (l : Nat) : State :=
  match (s.link l).move with
  | none => s
  | some m =>
    if m.prepared && m.locked && !m.committed then
      let s := s.sendFrame l ftMOVE 0 0 0 (s.movePayload l 2 m.spare)
      let s := s.setF (LNK_STAT l) LNK_STAT.LANE (256 + m.spare)
      let s := s.modLink l (fun x => { x with move := some { m with committed := true } })
      ((s.drop SPR_LEFT SPR_LEFT.LANES).repaired repLane (l * 512 + 256 + m.spare)).pump l
    else s

/-! Receiving (R247, R255-R263) -/

/-- A frame discarded, but for a bad CRC. -/
def State.rxDiscard (s : State) (l : Nat) : State := s.bump (LNK_CNT1 l) LNK_CNT1.DISCARDS 1

/-- A NAK for the expected SEQ, unless one was sent within REPLAY_TO / 2 (R258). -/
def State.sendNak (s : State) (l : Nat) (recent : Bool) : State :=
  let k := s.link l
  if recent && k.nakFor == some k.expect then s
  else (s.sendFrame l ftNAK 0 0 0 []).modLink l (fun x => { x with nakFor := some k.expect })

/-- The link frame in an Ethernet frame (R263): none where the frame is discarded, as every MAC control frame is. -/
def State.decapsulate (s : State) (l : Nat) (p : List Byte) : Option (List Byte) :=
  let n := p.length
  let vlan := s.flag (LNK_CTL l) LNK_CTL.VLAN
  let h := if vlan then 18 else 14
  let body := (p.drop h).take (n - 4 - h)
  if n < 64 || leNat (p.drop (n - 4)) != fcs32 (p.take (n - 4)) then none
  else if beNat (p.take 6) != s.fld (LNK_SMAC l) LNK_SMAC.MAC || beNat ((p.drop (h - 2)).take 2) == 0x8808 then none
  else if vlan && beNat ((p.drop 12).take 2) != 0x8100 then none
  else if beNat ((p.drop (h - 2)).take 2) != s.fld (LNK_CTL l) LNK_CTL.ETHERTYPE then none
  else some (body.take (max 12 (12 + bits (beNat (body.take 8)) 14 13)))

/-- The body of a message has the length and the zero bytes of R282 and R283. -/
def bodyGood (m : List Byte) : Bool :=
  let b := msgBody m
  let n := b.length
  let z (o k : Nat) : Bool := beNat ((b.drop o).take k) == 0
  let t := msgType m
  if t = mtOPENACK then n == 8 && z 4 4
  else if t = mtRESET || t = mtRESETACK then n == 4 && z 1 3
  else if t = mtRDATA then decide (9 ≤ n) && decide (n ≤ 4072) && z 4 4
  else if t = mtTACK then n == 0
  else if t = mtTEND then n == 16 && z 1 1
  else if t = mtATTN then n == 8
  else false

/-- A message passes the checks of R281 on a link; its DATA frame's class is that of its type (R282). -/
def State.messageGood (s : State) (l cls : Nat) (m : List Byte) : Bool :=
  let t := msgType m
  let d := msgDsess m
  decide (24 ≤ m.length) && beNat ((m.drop 1).take 1) == 1 && beNat ((m.drop 23).take 1) == 0
    && bodyGood m && mtClass t == cls && msgFloor m == 0 && decide (msgPath m ≤ 3)
    && (decide (mtRDATA ≤ t) || msgTseq m == 0)
    && (if d = linkScope then t == mtRESETACK && msgSsess m == linkScope && msgSepoch m == 0
        else decide (d < 2 ^ 18) && (s.namers l).contains d
          && msgSepoch m == (s.session d).sepoch)

/-- The flume passes a frame's message on, or discards it; its units are freed either way (R261, R281). -/
def State.acceptMessage (s : State) (l cls : Nat) (m : List Byte) : State :=
  let s := s.modLink l (fun k => { k with ownFreed := cmod k.ownFreed cls (fun n => (n + unitsOf m.length) % 65536) })
  let s := if s.messageGood l cls m then { s with inbox := s.inbox ++ [(l, m)] } else s.rxDiscard l
  let k := s.link l
  if 256 ≤ (cget k.ownFreed cls + 65536 - cget k.reported cls) % 65536 then s.sendFrame l ftACK 0 0 cls [] else s

/-- A DATA frame (R258). -/
def State.rxData (s : State) (l : Nat) (f : Frame) (recent : Bool) : State :=
  let k := s.link l
  let d := (f.seq + 65536 - k.expect) % 65536
  if d = 0 then
    let s := s.setLink l { k with expect := (k.expect + 1) % 65536, nakFor := none, unsent := k.unsent + 1 }
    let s := (s.bump (LNK_CNT0 l) LNK_CNT0.RX_DATA 1).acceptMessage l f.cls f.payload
    if 64 ≤ (s.link l).unsent then s.sendFrame l ftACK 0 0 0 [] else s
  else if 32768 ≤ d then (s.rxDiscard l).sendFrame l ftACK 0 0 0 []
  else (s.rxDiscard l).sendNak l recent

/-- A NAK (R259): frames up to ACKSEQ are released, the rest sent again, or down after RETRY_MAX replays without an advance; one with
the ACKSEQ of the NAK that started the replay still in progress is ignored. -/
def State.rxNak (s : State) (l a : Nat) (during : Bool) : State :=
  let k := s.link l
  let before := match k.unacked with
    | [] => false
    | f :: _ => (a + 1) % 65536 == f.seq
  if k.inWindow a || before then
    if during && k.nakReplay == some a then s
    else
      let s := if before then s else s.setLink l (k.ackTo a)
      if (s.link l).unacked.isEmpty then s.pump l
      else if s.fld (LNK_CFG l) LNK_CFG.RETRY_MAX ≤ (s.link l).replays then s.linkDown l 3
      else
        let s := s.modLink l (fun x => { x with replays := x.replays + 1 })
        ((s.startReplay l).modLink l (fun x => { x with nakReplay := some a })).pump l
  else s.rxDiscard l

/-- The receiver acts on a MOVE (R253). -/
def State.rxMove (s : State) (l : Nat) (p : List Byte) : State :=
  match (s.link l).move with
  | none => s
  | some m =>
    match beNat (p.take 1) with
    | 1 => (s.modLink l (fun x => { x with move := some { m with prepared := true } })).tryCommit l
    | 2 => if m.committed then (s.freeLane m.old).modLink l (fun x => { x with move := none }) else s
    | 3 => if m.committed then s else s.abortMove l
    | _ => s

/-- Four big-endian 16-bit numbers. -/
def fourOf (p : List Byte) (o : Nat) : List Nat := (List.range 4).map (fun c => beNat ((p.drop (o + 2 * c)).take 2))

/-- The handshake is complete: an INIT with SEEN received and one sent (R256). -/
def State.tryUp (s : State) (l : Nat) : State :=
  let k := s.link l
  if s.lstate l = lsINIT && k.initSeenRx && k.initSeenTx then
    ((s.enterLink l lsUP).linkUp l).pump l
  else s

/-- PEER_LINK and PEER_EPOCH of the last INIT received (R268). -/
def State.noteInit (s : State) (l : Nat) (p : List Byte) : State :=
  s.setFs (LNK_STAT l) [(LNK_STAT.PEER_LINK, beNat (p.take 2) % 256), (LNK_STAT.PEER_EPOCH, beNat ((p.drop 4).take 4))]

/-- An INIT received in INIT (R256). -/
def State.rxInit (s : State) (l : Nat) (p : List Byte) : State :=
  let k := s.link l
  let epoch := beNat ((p.drop 4).take 4)
  let buf := fourOf p 8
  let freed := fourOf p 16
  let nextTx := beNat ((p.drop 24).take 2)
  let expect := beNat ((p.drop 26).take 2)
  let same := k.peerKnown && epoch == k.peerEpoch
  let s := s.noteInit l p
  let oldest := (k.next + 65536 - k.unacked.length) % 65536
  let ahead := (expect + 65536 - oldest) % 65536
  let heard := { k with
      peerKnown := true, peerEpoch := epoch, initRx := true, initSeenRx := k.initSeenRx || (beNat ((p.drop 3).take 1)).testBit 0,
      buf := buf, freed := freed, lastCred := freed.map (fun n => n % 1024) }
  if same && decide (ahead ≤ k.unacked.length) then
    let rest := k.unacked.drop ahead
    (s.setLink l { heard with unacked := rest, replaying := rest, replays := 0 }).tryUp l
  else if same then
    ((s.clearLink l).modLink l (fun x => { x with lost := true })).rxDiscard l
  else
    (s.setLink l { heard with
        unacked := [], replaying := [], replays := 0, consumed := freed, next := expect, expect := nextTx,
        nakFor := none, unsent := 0, lost := true }).tryUp l

/-- The fields an INIT must have for the receiver to act on it (R256). -/
def initGood (p : List Byte) : Bool :=
  beNat ((p.drop 2).take 1) == 1 && decide (beNat ((p.drop 3).take 1) < 2) && beNat (p.drop 28) == 0

/-- A good frame while the link is UP: its acknowledgement and credit return, unless it is a DATA frame to be discarded, then its
type (R254, R255, R257-R262). -/
def State.rxUp (s : State) (l : Nat) (f : Frame) (recent during : Bool) : State :=
  if f.typ = ftINIT then (if initGood f.payload then (s.noteInit l f.payload).linkDown l 5 else s.rxDiscard l)
  else
    let taken := f.typ != ftDATA || f.seq == (s.link l).expect
    let s := if taken then s.rxCredit l f.crcls f.cred else s
    let s := if taken && f.ackv && f.typ != ftNAK then s.rxAck l f.ackseq else s
    let s := if f.typ = ftDATA then s.rxData l f recent
      else if f.typ = ftNAK then s.rxNak l f.ackseq during
      else if f.typ = ftMOVE then s.rxMove l f.payload
      else s
    s.pump l

/-- A packet received on a link's lane, `err` where it ends in an error control character (R247, R255), `during` where the replay
that a NAK started is still in progress (R259); an idle lane ignores it (R264). -/
def State.rxPacket (s : State) (l : Nat) (p : List Byte) (err recent during : Bool) : State :=
  if s.laneMayRun l && (s.lstate l == lsUP || s.lstate l == lsINIT) then
    if err then s.rxDiscard l
    else
      match (if s.flag (LNK_CTL l) LNK_CTL.ENCAP then s.decapsulate l p else some p) with
      | none => s.rxDiscard l
      | some p =>
        match checkPacket p with
        | .discard => s.rxDiscard l
        | .badCrc =>
          let s := s.bump (LNK_CNT1 l) LNK_CNT1.CRC_ERR 1
          if s.lstate l = lsUP then s.sendNak l recent else s
        | .good f =>
          if s.lstate l = lsUP then s.rxUp l f recent during
          else if f.typ = ftINIT then (if initGood f.payload then s.rxInit l f.payload else s.rxDiscard l)
          else s
  else s

/-! Commands -/

/-- LINK_ENABLE (R248, R268). -/
def execLinkEnable (l : BitVec 8) (s : State) : Host.Outcome State Fault Refusal := .next (s.linkEnable l.toNat)
/-- LINK_DISABLE (R248, R268). -/
def execLinkDisable (l : BitVec 8) (s : State) : Host.Outcome State Fault Refusal := .next (s.linkDisable l.toNat)
/-- LINK_RETRAIN (R250, R268). -/
def execLinkRetrain (l : BitVec 8) (s : State) : Host.Outcome State Fault Refusal := .next (s.linkRetrain l.toNat)
/-- LINK_MOVE (R253, R268). -/
def execLinkMove (l : BitVec 8) (s : State) : Host.Outcome State Fault Refusal := .next (s.linkMove l.toNat)

/-- AUTONEG_COMPLETE (R249). -/
def execAutonegComplete (l : BitVec 8) (s : State) : Host.Outcome State Fault Refusal :=
  .next (if s.laneMayRun l.toNat && s.lstate l.toNat == lsAN then
    (s.setF (LNK_PSTAT (s.laneOf l.toNat)) LNK_PSTAT.MODE (s.laneMode (s.laneOf l.toNat))).enterLink l.toNat lsTRAIN
  else s)

/-- The coefficients of a lane for the rate it trained at are kept (R249). -/
def State.keepCoeffs (s : State) (lane : Nat) : State :=
  { s with coeffs := insertNat s.coeffs (2 * lane + s.fld (LNK_PSTAT lane) LNK_PSTAT.MODE % 2) }

/-- TRAINING_COMPLETE (R249): the lane's coefficients for its rate are kept. -/
def execTrainingComplete (l : BitVec 8) (s : State) : Host.Outcome State Fault Refusal :=
  .next (if s.laneMayRun l.toNat && s.lstate l.toNat == lsTRAIN then
    (s.keepCoeffs (s.laneOf l.toNat)).enterLink l.toNat lsLOCK
  else s)

/-- TRAINING_FAILURE (R248): in TRAIN. -/
def execTrainingFailure (l : BitVec 8) (s : State) : Host.Outcome State Fault Refusal :=
  .next (if s.laneMayRun l.toNat && s.lstate l.toNat == lsTRAIN then s.trainFail l.toNat else s)

/-- LOCK_HELD (R249). -/
def execLockHeld (l : BitVec 8) (s : State) : Host.Outcome State Fault Refusal :=
  .next (if s.laneMayRun l.toNat && s.lstate l.toNat == lsLOCK then
    (s.setF (LNK_PSTAT (s.laneOf l.toNat)) LNK_PSTAT.LOCK 1).enterInit l.toNat
  else s)

/-- LOCK_TIMEOUT (R248). -/
def execLockTimeout (l : BitVec 8) (s : State) : Host.Outcome State Fault Refusal :=
  .next (if s.laneMayRun l.toNat && s.lstate l.toNat == lsLOCK then s.trainFail l.toNat else s)

/-- INIT_TIMEOUT (R248). -/
def execInitTimeout (l : BitVec 8) (s : State) : Host.Outcome State Fault Refusal :=
  .next (if s.laneMayRun l.toNat && s.lstate l.toNat == lsINIT then s.trainFail l.toNat else s)

/-- RETRAIN_IDLE_END (R248). -/
def execRetrainIdleEnd (l : BitVec 8) (s : State) : Host.Outcome State Fault Refusal :=
  .next (if s.lstate l.toNat = lsRETRAIN && s.laneMayRun l.toNat then s.enterAN l.toNat else s)

/-- LOSS_OF_LOCK (R250): of a lane that runs. -/
def execLossOfLock (l : BitVec 8) (s : State) : Host.Outcome State Fault Refusal :=
  .next (if s.laneMayRun l.toNat then s.linkDown l.toNat 1 else s)

/-- LIVE_TIMEOUT (R250): on a lane that runs. -/
def execLiveTimeout (l : BitVec 8) (s : State) : Host.Outcome State Fault Refusal :=
  .next (if s.laneMayRun l.toNat then s.linkDown l.toNat 2 else s)

/-- REPLAY_TIMEOUT (R259): a replay from the oldest frame, or down after RETRY_MAX of them. -/
def execReplayTimeout (l : BitVec 8) (s : State) : Host.Outcome State Fault Refusal :=
  let k := s.link l.toNat
  .next (if s.laneMayRun l.toNat && s.lstate l.toNat == lsUP && !k.unacked.isEmpty then
    if s.fld (LNK_CFG l.toNat) LNK_CFG.RETRY_MAX ≤ k.replays then s.linkDown l.toNat 3
    else ((s.setLink l.toNat { k with replays := k.replays + 1 }).startReplay l.toNat).pump l.toNat
  else s)

/-- FEC codewords of a lane counted (R269). -/
def State.countFec (s : State) (lane corr uncorr : Nat) : State :=
  if s.laneRuns lane then (s.bump (LNK_PCNT lane) LNK_PCNT.FEC_CORR corr).bump (LNK_PCNT lane) LNK_PCNT.FEC_UNCORR uncorr else s

/-- DATA_FRAME_RX (R258), with the FEC codewords corrected and not correctable on its lane since the one before (R269). -/
def execDataFrameRx (l : BitVec 8) (p : List Byte) (err recent : Bool) (corr uncorr : BitVec 16) (s : State) :
    Host.Outcome State Fault Refusal :=
  .next ((s.countFec (s.laneOf l.toNat) corr.toNat uncorr.toNat).rxPacket l.toNat p err recent false)

/-- ACK_FRAME_RX (R257). -/
def execAckFrameRx (l : BitVec 8) (p : List Byte) (recent : Bool) (s : State) : Host.Outcome State Fault Refusal :=
  .next (s.rxPacket l.toNat p false recent false)
/-- NAK_FRAME_RX (R259): `during` where the replay that a NAK started is still in progress. -/
def execNakFrameRx (l : BitVec 8) (p : List Byte) (recent during : Bool) (s : State) : Host.Outcome State Fault Refusal :=
  .next (s.rxPacket l.toNat p false recent during)
/-- HOLD_FRAME_RX (R262). -/
def execHoldFrameRx (l : BitVec 8) (p : List Byte) (recent : Bool) (s : State) : Host.Outcome State Fault Refusal :=
  .next (s.rxPacket l.toNat p false recent false)
/-- INIT_FRAME_RX (R256). -/
def execInitFrameRx (l : BitVec 8) (p : List Byte) (recent : Bool) (s : State) : Host.Outcome State Fault Refusal :=
  .next (s.rxPacket l.toNat p false recent false)
/-- MOVE_FRAME_RX (R253). -/
def execMoveFrameRx (l : BitVec 8) (p : List Byte) (recent : Bool) (s : State) : Host.Outcome State Fault Refusal :=
  .next (s.rxPacket l.toNat p false recent false)

/-- SPARE_LANE_LOCKED (R253): both directions of the spare lane hold lock; its coefficients are kept (R249). -/
def execSpareLaneLocked (l : BitVec 8) (s : State) : Host.Outcome State Fault Refusal :=
  .next (match (s.link l.toNat).move with
    | none => s
    | some m =>
      if s.laneRuns (256 + m.spare) then
        let s := s.setFs (LNK_PSTAT (256 + m.spare)) [(LNK_PSTAT.MODE, s.laneMode (256 + m.spare)), (LNK_PSTAT.LOCK, 1)]
        ((s.keepCoeffs (256 + m.spare)).modLink l.toNat (fun x => { x with move := some { m with locked := true } })).tryCommit l.toNat
      else s)

/-- MOVE_TIMEOUT (R253): ABORT, and the spare returns unused. -/
def execMoveTimeout (l : BitVec 8) (s : State) : Host.Outcome State Fault Refusal :=
  .next (match (s.link l.toNat).move with
    | none => s
    | some m =>
      if m.committed then s else s.sendAbort l.toNat)

/-- CREDIT_RETURN (R261). -/
def execCreditReturn (l : BitVec 8) (cls : BitVec 2) (cred : BitVec 10) (s : State) :
    Host.Outcome State Fault Refusal :=
  .next (if s.laneMayRun l.toNat && s.lstate l.toNat == lsUP then (s.rxCredit l.toNat cls.toNat cred.toNat).pump l.toNat else s)

/-- KEEPALIVE_TX (R251, R261, R262): an ACK, or HOLD while the turn is unheld, for every class with a credit return due,
or one frame. -/
def execKeepaliveTx (l : BitVec 8) (s : State) : Host.Outcome State Fault Refusal :=
  let k := s.link l.toNat
  let typ := if s.turnHeld then ftACK else ftHOLD
  let due := (List.range 4).filter (fun c => cget k.ownFreed c != cget k.reported c)
  .next (if s.laneMayRun l.toNat && s.lstate l.toNat == lsUP then
    (if due.isEmpty then [0] else due).foldl (fun s c => s.sendFrame l.toNat typ 0 0 c []) s
  else s)

/-- INIT_TX (R256). -/
def execInitTx (l : BitVec 8) (s : State) : Host.Outcome State Fault Refusal :=
  .next (if s.laneMayRun l.toNat && s.lstate l.toNat == lsINIT then
    let s := s.sendFrame l.toNat ftINIT 0 0 0 (s.initPayload l.toNat)
    (s.modLink l.toNat (fun k => { k with initSeenTx := k.initSeenTx || k.initRx })).tryUp l.toNat
  else s)

/-- FRAME_WORK (R267): a message of the holder handed to a link's flume. -/
def execFrameWork (l : BitVec 8) (m : List Byte) (s : State) : Host.Outcome State Fault Refusal :=
  if 24 ≤ m.length && m.length ≤ 4096 then .next (if s.sluActs then s.frameWork l.toNat m else s)
  else .refused .illFormed

end Sys2Proof.Machine
end

