-- ==== Sys2Proof/Machine/SesCmds.lean ====
section
/-!
DEFINITION. Session commands and the messages a peer sends (11, R271-R274, R284-R292, R295, R298, R486).
-/

namespace Sys2Proof.Machine
open Sys2Proof Csr

/-! Descriptors (R273) -/

/-- A range lies in general DRAM, a NORMAL range. -/
def normalRange (a n : Nat) : Bool := decide (a + n ≤ 0x7FE0000000)

/-- The paths of a descriptor are links or none, PATH0 names one, and none appears twice. -/
def pathsBad (k : Session) : Bool :=
  (List.range 4).any (fun j => decide (256 ≤ k.path j) && k.path j != 0x1FF) || decide (256 ≤ k.path 0)
    || (k.links.eraseDups.length != k.links.length)

/-- The other sessions that are not CLOSED and whose rings are known. -/
def State.others (s : State) (n : Nat) : List (Nat × Session) :=
  s.sessions.filter (fun e => e.1 != n && e.2.state != ssCLOSED && !e.2.blank)

/-- A descriptor is out of range (R273, R327, R365). -/
def State.descBad (s : State) (n : Nat) (k : Session) : Bool :=
  bits (dword k.desc 0) 45 19 != 0 || decide (k.offered < 10) || decide (16 < k.offered) || pathsBad k
    || decide (k.dlog2 < 6) || decide (16 < k.dlog2) || k.dring % (16 * 2 ^ k.dlog2) != 0
    || !normalRange k.dring (16 * 2 ^ k.dlog2)
    || decide (k.tlog2 < 6) || decide (16 < k.tlog2) || k.tring % (32 * 2 ^ k.tlog2) != 0
    || !normalRange k.tring (32 * 2 ^ k.tlog2) || decide (k.line < 16)
    || k.tcons % 8 != 0 || !normalRange k.tcons 8 || decide (80 ≤ k.core)
    || s.fld (ALT_ASTAT k.allot) ALT_ASTAT.STATE == 0
    || (k.dict != 0 && (k.format == 2 || (s.dictOf k.dict).isNone))
    || (s.others n).any (fun e => e.2.tring == k.tring
        && (dword e.2.desc 0x18 != dword k.desc 0x18 || dword e.2.desc 0x20 != dword k.desc 0x20))

/-- A descriptor read by the holder: none where its bytes cannot be had (R228, R273). -/
def State.readDesc (s : State) (addr : Nat) : State × Option (List Byte) :=
  let s := s.emit 1
  if s.mayReach .sluice addr then
    (s.blockRead addr 64 false, if s.poisonedRange addr 64 then none else some (s.bytes addr 64))
  else (s.addrFault .sluice accRead addr, none)

/-- A link among a list already serves 4,096 sessions. -/
def State.linkFull (s : State) (ls : List Nat) : Bool := ls.any (fun l => decide (4096 ≤ (s.namers l).length))

/-! Commands (R274, R486) -/

/-- OPEN. -/
def State.sesOpen (s : State) (n addr : Nat) : State :=
  let old := s.session n
  if old.state != ssCLOSED then s.endSes 1
  else
    match s.readDesc addr with
    | (s, none) => s.endSes 2
    | (s, some d) =>
      let isn := bits s.freeVal.toNat 0 48
      let k : Session := { Session.closed with
          state := ssOPENING, desc := d, sepoch := (old.sepoch + 1) % 65536, isn := some isn, nextTseq := isn, floorSent := isn }
      if s.descBad n k then s.endSes 2
      else if (s.others n).any (fun e => e.2.allot == k.allot && e.2.bell == k.bell) then s.endSes 3
      else if s.linkFull k.links then s.endSes 4
      else
        let s := if (s.others n).any (fun e => e.2.tring == k.tring) then s
          else { s with tailProd := s.tailProd.erase k.tring, tailCons := s.tailCons.erase k.tring }
        let s := { s.drawn with sesBusy := some (1, n) }
        (((s.putSession n k).syncGauges k.links).syncRefs k.dict).sendOpens n

/-- CLOSE and CLOSE-FORCE. -/
def State.sesClose (s : State) (n : Nat) (force : Bool) : State :=
  let k := s.session n
  if k.state != ssOPEN && k.state != ssBROKEN then s.endSes 1
  else
    let s := { s with sesBusy := some (if force then 3 else 2, n) }
    if k.state = ssBROKEN && k.reason = rsCONTEXT then s.closeSession n 0
    else
      let s := if force then s.failAll n rsADMIN else s
      let s := s.putSession n { s.session n with
          state := ssCLOSING, closing := some .waiting, resetDue := none }
      ((s.refuseBells n).syncGauges k.links).closeAdvance n

/-- PATHS: only the paths are read. -/
def State.sesPaths (s : State) (n addr : Nat) : State :=
  let k := s.session n
  if k.state != ssOPEN then s.endSes 1
  else
    match s.readDesc addr with
    | (s, none) => s.endSes 2
    | (s, some d) =>
      let w : Session := { k with desc := k.desc.take 8 ++ (d.drop 8).take 8 ++ k.desc.drop 16 }
      if pathsBad w then s.endSes 2
      else if s.linkFull (w.links.filter (fun l => !k.links.contains l)) then s.endSes 4
      else
        let was := k.activeLink
        let keeps := w.links.contains was
        let w : Session := { w with
            answered := k.answered.filter (fun l => w.links.contains l),
            refused := k.refused.filter (fun l => w.links.contains l),
            active := if keeps then w.pathOf was else 0 }
        let s := s.putSession n w
        let s := if keeps then s else s.failover was 1 [n]
        ((s.syncGauges (k.links ++ w.links)).sendOpens n).endSes 0

/-- READ. -/
def State.sesRead (s : State) (n addr : Nat) : State :=
  let s := s.emit 1
  if s.mayWrite .sluice addr then (s.blockWrite addr (s.context n (s.session n)) false).endSes 0
  else (s.addrFault .sluice accWrite addr).endSes 0

/-- A SES command carried out (R486). -/
def State.sesRun (s : State) (op n addr : Nat) : State :=
  if 6 ≤ op then s.endSes 8
  else if (op = 1 || op = 4 || op = 5) && addr % 64 != 0 then s.endSes 7
  else if op != 5 && !s.flag SES_STAT SES_STAT.RUNNING then s.endSes 9
  else if s.sesInit || !s.sluActs then { s with sesBusy := some (op, n), sesWait := true }
  else
    match op with
    | 1 => s.sesOpen n addr
    | 2 => s.sesClose n false
    | 3 => s.sesClose n true
    | 4 => s.sesPaths n addr
    | 5 => s.sesRead n addr
    | _ => s.endSes 0

/-- GO in SES_CMD with an OP: ignored while BUSY (R272). -/
def State.sesGo (s : State) (op : Nat) : State :=
  if s.flag SES_CMDSTAT SES_CMDSTAT.BUSY then s
  else
    let addr := s.fld SES_CMDARG SES_CMDARG.ADDR
    ({ s with sesAddr := addr }.setF SES_CMDSTAT SES_CMDSTAT.BUSY 1).sesRun op (s.fld SES_CMD SES_CMD.SESSION) addr

/-- A command that waited for the image or the turn goes on, with the argument it had at GO (R272). -/
def State.sesResume (s : State) : State :=
  match s.sesBusy with
  | some (op, n) =>
    if s.sesWait && !s.sesInit && s.sluActs then
      ({ s with sesBusy := none, sesWait := false }).sesRun op n s.sesAddr
    else s
  | none => s

/-- SES_OPEN. -/
def execSesOpen (s : State) : Host.Outcome State Fault Refusal := .next (s.sesGo 1)
/-- SES_CLOSE. -/
def execSesClose (s : State) : Host.Outcome State Fault Refusal := .next (s.sesGo 2)
/-- SES_CLOSE_FORCE. -/
def execSesCloseForce (s : State) : Host.Outcome State Fault Refusal := .next (s.sesGo 3)
/-- SES_PATHS. -/
def execSesPaths (s : State) : Host.Outcome State Fault Refusal := .next (s.sesGo 4)
/-- SES_READ. -/
def execSesRead (s : State) : Host.Outcome State Fault Refusal := .next (s.sesGo 5)
/-- SES_BAD_OP: OP 6 or 7. -/
def execSesBadOp (s : State) : Host.Outcome State Fault Refusal := .next (s.sesGo 6)

/-- SES_CTXBASE_INIT (R271): every entry is written as a CLOSED context, then a command that waited goes on. -/
def execSesCtxbaseInit (s : State) : Host.Outcome State Fault Refusal :=
  .next (if s.sesInit && s.sluActs then
    let s := { s with sesInit := false, sesImage := true }
    ((List.range 262144).foldl State.syncSession s).sesResume
  else s)

/-- SES_STOP (R271): with RUN = 0, the block stops once every session is CLOSED and no command is busy. -/
def State.sesStop (s : State) : State :=
  if !s.flag SES_CFG SES_CFG.RUN && !s.flag SES_CMDSTAT SES_CMDSTAT.BUSY
      && s.sessions.all (fun e => e.2.state == ssCLOSED) then
    (s.setF SES_STAT SES_STAT.RUNNING 0).syncCmp
  else s
def execSesStop (s : State) : Host.Outcome State Fault Refusal := .next s.sesStop

/-- OPEN_RETRY (R274): OPEN again on each named path that is UP and has not answered. -/
def execOpenRetry (n : BitVec 18) (s : State) : Host.Outcome State Fault Refusal :=
  let k := s.session n.toNat
  .next (if s.sluActs && (k.state == ssOPENING || k.state == ssOPEN) then s.sendOpens n.toNat else s)

/-- OPEN_TIMEOUT (R274): 10 ms without an OPEN-ACK with RESULT 0. -/
def execOpenTimeout (n : BitVec 18) (s : State) : Host.Outcome State Fault Refusal :=
  .next (if s.sluActs && (s.session n.toNat).state == ssOPENING then s.closeSession n.toNat 5 else s)

/-- CLOSE_RETRY (R274): RESET again, or after 10 ms the session becomes CLOSED. -/
def execCloseRetry (n : BitVec 18) (last : Bool) (s : State) : Host.Outcome State Fault Refusal :=
  let k := s.session n.toNat
  .next (if s.sluActs && k.state == ssCLOSING && k.closing == some .sent then
    if last then s.closeSession n.toNat 0
    else match s.resetLink k with
      | some l => s.sendReset n.toNat l rsCLOSED
      | none => s
  else s)

/-! Messages from peers: the oldest of the inbox, where it is of the row's type -/

/-- The oldest message taken from the inbox when the turn is held and it is of a type. -/
def State.takeMsg (s : State) (t : Nat) (f : State → Nat → List Byte → State) : State :=
  match s.inbox with
  | [] => s
  | (l, m) :: rest => if s.sluActs && msgType m == t then f { s with inbox := rest } l m else s

/-- A message whose session has closed or been opened anew since the flume passed it on is discarded (R281). -/
def State.stillNamed (s : State) (l : Nat) (m : List Byte) : Bool :=
  let k := s.session (msgDsess m)
  k.state != ssCLOSED && k.links.contains l && k.sepoch == msgSepoch m

/-- An OPEN-ACK (R274, R284). -/
def State.rxOpenAck (s : State) (l : Nat) (m : List Byte) : State :=
  let n := msgDsess m
  let k := s.session n
  let b := msgBody m
  let result := beNat (b.take 1)
  let w := beNat ((b.drop 1).take 1)
  let o := beNat ((b.drop 2).take 1)
  if !s.stillNamed l m then s.rxDiscard l
  else if k.state != ssOPENING && k.state != ssOPEN then s
  else if result != 0 then
    let s := s.putSession n { k with refused := insertNat k.refused l }
    if k.state = ssOPENING then s.closeSession n 6 else s
  else if w < 10 || k.offered < w || o &&& k.opOffer != o then
    let s := s.sendReset n l rsPROTOCOL
    if k.state = ssOPENING then s.closeSession n 6 else s.breakSession n rsPROTOCOL
  else if k.state = ssOPENING then
    let s := s.putSession n { k with
        state := ssOPEN, wlog2 := w, opts := o, answered := insertNat k.answered l, active := k.pathOf l }
    (s.syncGauges k.links).endSes 0
  else ((s.putSession n { k with answered := insertNat k.answered l }).revive l).syncGauges k.links

/-- OPEN_ACK_RX. -/
def execOpenAckRx (s : State) : Host.Outcome State Fault Refusal := .next (s.takeMsg mtOPENACK State.rxOpenAck)

/-- RESET-ACK on the active path (R292, R295), or on the link the RESET came in on where that path is not UP or the session has none
yet (DESIGN CHOICE, log entry 80). -/
def State.sendResetAck (s : State) (n l reason : Nat) : State :=
  let k := s.session n
  let out := if k.state != ssOPENING && decide (k.activeLink < 256) && s.lstate k.activeLink == lsUP then k.activeLink else l
  s.sesSend n out mtRESETACK 0 (beBytes 1 reason ++ [0, 0, 0])

/-- A RESET (R274, R292): the answer is the last step. -/
def State.rxReset (s : State) (l : Nat) (m : List Byte) : State :=
  let n := msgDsess m
  let k := s.session n
  let reason := beNat ((msgBody m).take 1)
  if !s.stillNamed l m then s.rxDiscard l
  else
    let s := s.bump SES_CNT SES_CNT.RESETS_RX 1
    if k.state = ssOPENING then (s.sendResetAck n l reason).closeSession n 6
    else if k.moving then (s.breakSession n reason).sendResetAck n l reason
    else s.sendResetAck n l reason

/-- RESET_RX. -/
def execResetRx (s : State) : Host.Outcome State Fault Refusal := .next (s.takeMsg mtRESET State.rxReset)

/-- A RESET-ACK (R274). -/
def State.rxResetAck (s : State) (l : Nat) (m : List Byte) : State :=
  let n := msgDsess m
  if n = linkScope then s
  else if !s.stillNamed l m then s.rxDiscard l
  else if (s.session n).state = ssCLOSING && (s.session n).closing == some .sent then s.closeSession n 0
  else s

/-- RESET_ACK_RX. -/
def execResetAckRx (s : State) : Host.Outcome State Fault Refusal := .next (s.takeMsg mtRESETACK State.rxResetAck)

/-- The record of a message's transaction, once it has been sent and while it has not ended (R302). -/
def State.msgRec (s : State) (m : List Byte) : Option Nat :=
  match s.findTseq (msgDsess m) (msgTseq m) with
  | some i => if (s.record i).state = rISSUED || (s.record i).state = rACKED then some i else none
  | none => none

/-- The record of a message's transaction read, before the message is acted on (R233, R305). -/
def State.readOf (s : State) (m : List Byte) : State :=
  match s.findTseq (msgDsess m) (msgTseq m) with
  | some i => s.readRec i
  | none => s

/-- A message about a transaction that the module holds is a protocol error: RDATA of one that sends data, or bytes beyond the wire
limit (R285). -/
def State.msgError (s : State) (m : List Byte) (isData : Bool) (last : Nat) : Bool :=
  match s.findTseq (msgDsess m) (msgTseq m) with
  | some i =>
    let r := s.record i
    r.unended && ((isData && !r.inbound) || decide (wireLimit (s.session r.session) r < last))
  | none => false

/-- A TACK (R285). -/
def State.rxTack (s : State) (l : Nat) (m : List Byte) : State :=
  if !s.stillNamed l m then s.rxDiscard l
  else
    let s := s.readOf m
    match s.msgRec m with
    | none => s
    | some i =>
      let r := s.record i
      if r.state = rISSUED then (s.putRec i { r with state := rACKED }).syncSession r.session else s

/-- TACK_RX. -/
def execTackRx (s : State) : Host.Outcome State Fault Refusal := .next (s.takeMsg mtTACK State.rxTack)

/-- A transaction ends as its TEND gives, or as a failed access or key does (R285, R290, R353); a RESULT that R283 does not give
ends it FAILED with an open STATUS (log entry 32). -/
def State.endByTend (s : State) (i : Nat) : State :=
  let x := s.xfer i
  let r := s.record i
  match x.tend with
  | none => s
  | some (result, us, residual, wl, detail) =>
    let wirelen := if r.inbound then wl else r.wirelen
    let residual := if r.inbound && r.squeeze then r.count - x.filled else residual
    if x.bad != 0 then s.endRec i rFAILED x.bad us residual (if x.bad < 0x30 then detail else x.badDetail) wirelen
    else if result = 0 then s.endRec i rCOMPLETED 0 us residual detail wirelen
    else if result ≤ 2 then s.endRec i rFAILED result us residual detail wirelen
    else s.drawn.endRec i rFAILED (bits s.freeVal.toNat 0 8) us residual detail wirelen

/-- The inbound data of a transaction waits for an engine or is at one. -/
def State.inflating (s : State) (i : Nat) : Bool :=
  s.cmpSession.contains (JobRef.inflate i) || s.engines.any (fun e => e.2 == JobRef.inflate i)

/-- A transaction ends once the module holds TEND and every byte it announces, and a master acts; sealed data waits for its release from
the basin, compressed data for an engine (R285, R317, R357, R376). -/
def State.tryEnd (s : State) (i : Nat) : State :=
  let x := s.xfer i
  let r := s.record i
  match x.tend with
  | none => s
  | some (_, _, _, wl, _) =>
    if !s.sluActs then s
    else if !r.inbound || wl = 0 || x.bad = 0x30 then s.endByTend i
    else if x.nextOff < wl then s
    else if !(r.isSealed || r.squeeze) || x.done then s.endByTend i
    else s

/-- Compressed data that arrives in clear is queued for an engine with its first bytes (R376). -/
def State.queueInflate (s : State) (i : Nat) : State :=
  let r := s.record i
  if r.squeeze && !r.isSealed && !s.inflating i && !(s.xfer i).done then
    { s with cmpSession := s.cmpSession ++ [JobRef.inflate i] }
  else s

/-- L of R372 for inbound data: the ratio limit counts the input there is, up to the announced length. -/
def Xfer.limit (x : Xfer) (input : Nat) : Nat := min (x.abslim * 1048576) (input * x.ratio)

/-- The engine that decompresses a transaction's data takes what has arrived: the output it yields goes to the buffer at once, up to L for
the input so far; what the buffer does not hold waits for the end of the input (R286, R376; log entry 83). -/
def State.feedInflate (s : State) (i : Nat) : State :=
  let r := s.record i
  let k := s.session r.session
  let x := s.xfer i
  if r.squeeze && !r.isSealed && x.bad == 0 && s.engines.any (fun e => e.2 == JobRef.inflate i) then
    let u := inflate k.format r.dict (s.dictBytes r.dict) x.data
    let head := ((u.out.take (x.limit x.data.length)).take r.count).drop x.filled
    let w := s.dmaPut (.flume (k.path r.path)) k.allot (r.addr + x.filled) head
    (w.1.setXfer i { x with filled := x.filled + w.2.1 }).markBad i w.2.2 0
  else s

/-- An RDATA (R285, R286, R290): data of plain transactions goes to the buffer, other data is held for the flume's mode
program or fed to an engine (R376). -/
def State.rxRdata (s : State) (l : Nat) (m : List Byte) : State :=
  let off := beNat ((msgBody m).take 4)
  let data := (msgBody m).drop 8
  if !s.stillNamed l m then s.rxDiscard l
  else if s.msgError m true (off + data.length) then s.resetSession (msgDsess m) rsPROTOCOL
  else
    let s := s.readOf m
    match s.msgRec m with
    | none => s
    | some i =>
      let r := s.record i
      let k := s.session r.session
      let x := s.xfer i
      if x.nextOff < off then s
      else
        let fresh := data.drop (x.nextOff - off)
        if fresh.isEmpty then s
        else if r.isSealed || r.squeeze then
          (((s.setXfer i { x with nextOff := x.nextOff + fresh.length, data := x.data ++ fresh }).queueInflate i).feedInflate i).tryEnd i
        else
          let (s, bad) := if x.bad != 0 then (s, 0) else s.dmaWrite (.flume l) k.allot (r.addr + x.nextOff) fresh
          let s := s.setXfer i { x with nextOff := x.nextOff + fresh.length }
          (s.markBad i bad 0).tryEnd i

/-- RDATA_RX. -/
def execRdataRx (s : State) : Host.Outcome State Fault Refusal := .next (s.takeMsg mtRDATA State.rxRdata)

/-- A TEND (R285). -/
def State.rxTend (s : State) (l : Nat) (m : List Byte) : State :=
  let f (o n : Nat) : Nat := beNat (((msgBody m).drop o).take n)
  if !s.stillNamed l m then s.rxDiscard l
  else if s.msgError m false (f 8 4) then s.resetSession (msgDsess m) rsPROTOCOL
  else
    let s := s.readOf m
    match s.msgRec m with
    | none => s
    | some i => (s.setXfer i { s.xfer i with tend := some (f 0 1, f 2 2, f 4 4, f 8 4, f 12 4) }).tryEnd i

/-- TEND_RX. -/
def execTendRx (s : State) : Host.Outcome State Fault Refusal := .next (s.takeMsg mtTEND State.rxTend)

/-- The entry of an attention still waits to be written (R291). -/
def State.attnPending (s : State) (n a : Nat) : Bool :=
  s.tailQueue.any (fun t => match t with
    | .other m _ w _ _ _ => m == n && bits w 56 4 == 4 && w % 2 ^ 48 == a
    | .record _ => false)

/-- ATTN-ACK on the active path (R291, R295); the peer repeats its ATTN while that link is not UP. -/
def State.ackAttn (s : State) (n a : Nat) : State :=
  let l := (s.session n).activeLink
  if decide (l < 256) && s.lstate l == lsUP then s.sesSend n l mtATTNACK a [] else s

/-- An ATTN (R291): recorded and queued as one entry, whose writing is acknowledged; an old one is only acknowledged, once its entry
has been written. -/
def State.rxAttn (s : State) (l : Nat) (m : List Byte) : State :=
  let n := msgDsess m
  let k := s.session n
  let b := msgBody m
  let a := msgTseq m
  if !s.stillNamed l m then s.rxDiscard l
  else
    if k.attn < a then
      (s.putSession n { k with attn := a }).pushKind n a 0 4 0 0 (beNat (b.take 2)) (beNat ((b.drop 4).take 4))
    else if s.attnPending n a then s
    else s.ackAttn n a

/-- ATTN_RX. -/
def execAttnRx (s : State) : Host.Outcome State Fault Refusal := .next (s.takeMsg mtATTN State.rxAttn)

/-! Ledger reads (R233, R305) -/

/-- LEDGER_READ (R233, R307): a sluice master reads a record; the result goes to every master that takes part. The check gate discards
the read of a master whose outputs do not pass. -/
def execLedgerRead (b : Bool) (i : BitVec 22) (e1 e2 : Ecc) (s : State) : Host.Outcome State Fault Refusal :=
  .next (if !s.passes b then s
    else
      let r := s.holderRead i.toNat e1 e2
      ([false, true].filter r.1.sluRuns).foldl (fun s c => s.send (.memoryData (0x090 + b2n c) r.2 false)) r.1)

/-! Paths (R295, R296, R298) -/

/-- The paths as the holder evaluates them: links found stalled, and links whose ACKSEQ has advanced for 1 s. -/
def State.evaluatePaths (s : State) (stalls clears : List Nat) : State :=
  let now := stalls.filter (fun l => s.lstate l == lsUP && !(s.link l).unacked.isEmpty && !s.stalled.contains l)
  let s := { s with stalled := now.foldl insertNat (s.stalled.filter (fun l => !clears.contains l)) }
  let dead := s.sessions.filter (fun e => e.2.moving && !s.pathLive e.2 e.2.active && e.2.stranded.isNone)
  let s := (dead.foldl (fun ls e => insertNat ls e.2.activeLink) []).foldl (fun s l =>
    s.failover l 1 ((dead.filter (fun e => e.2.activeLink == l)).map Prod.fst)) s
  let back := (s.sessions.filter (fun e => e.2.moving && e.2.stranded.isSome)).filterMap (fun e =>
    (s.bestPath e.2).map e.2.path)
  back.eraseDups.foldl State.revive s

/-- PATH_EVALUATION (R295, R296). -/
def execPathEvaluation (stalls clears : List (BitVec 8)) (s : State) : Host.Outcome State Fault Refusal :=
  .next (if s.sluActs && s.turnChange != 1 then s.evaluatePaths (stalls.map BitVec.toNat) (clears.map BitVec.toNat) else s)

/-- PATH_REVERT (R295): a higher-priority path has been live for 1 s. -/
def execPathRevert (n : BitVec 18) (j : Fin 4) (s : State) : Host.Outcome State Fault Refusal :=
  let k := s.session n.toNat
  .next (if s.sluActs && s.turnChange != 1 && s.flag SES_CFG SES_CFG.REVERT && k.moving && decide (j.val < k.active) && s.pathLive k j.val then
    let s := s.putSession n.toNat { k with active := j.val }
    (s.resumeOn (k.path j.val) 4 k.activeLink [n.toNat]).syncGauges [k.activeLink, k.path j.val]
  else s)

/-- NOPATH_TIMEOUT (R298). -/
def execNopathTimeout (n : BitVec 18) (s : State) : Host.Outcome State Fault Refusal :=
  let k := s.session n.toNat
  .next (if s.sluActs && k.moving && (s.bestPath k).isNone then
    let s := s.breakSession n.toNat rsPATH
    s.putSession n.toNat { s.session n.toNat with resetDue := some rsPATH }
  else s)

/-- FLOOR_TIMEOUT (R288): idle for 10 µs with FLOOR advanced. -/
def execFloorTimeout (n : BitVec 18) (s : State) : Host.Outcome State Fault Refusal :=
  let k := s.session n.toNat
  .next (if s.sluActs && k.moving && s.pathLive k k.active && s.floorOf n.toNat k != k.floorSent then
    (s.sesSend n.toNat k.activeLink mtFLOOR 0 []).noteFloor n.toNat
  else s)

/-! The tailrace (R279, R304) -/

/-- ATTN-ACK for an ATTENTION entry that has been written (R291); nothing for another item. -/
def State.acked (s : State) : TailItem → State
  | .record _ => s
  | .other n _ w _ _ _ => if bits w 56 4 == 4 then s.ackAttn n (w % 2 ^ 48) else s

/-- The first item that has its slot is written, and an attention then acknowledged. -/
def State.writeTail (s : State) : State :=
  let s := State.assignSlots s.tailQueue [] s
  let s := match s.tailQueue.find? (fun t => (s.itemPos t).isSome) with
    | some (.record i) => s.readRec i
    | _ => s
  match s.tailQueue.find? (fun t => (s.itemPos t).isSome) with
  | none => s
  | some t =>
    let s := { s.writeEntry t ((s.itemPos t).getD 0) with tailQueue := s.tailQueue.erase t }
    (s.acked t).closeAdvance (s.itemSession t)

/-- TAILRACE_WRITE. -/
def execTailraceWrite (s : State) : Host.Outcome State Fault Refusal := .next (if s.sluActs then s.writeTail else s)

/-- CONSUMER_INDEX_POLL (R27, R279): the ring of a session. -/
def execConsumerIndexPoll (n : BitVec 18) (s : State) : Host.Outcome State Fault Refusal :=
  .next (if s.sluActs && ((s.session n.toNat).state != ssCLOSED || !(s.sessionRecs n.toNat).isEmpty) then s.pollRing n.toNat
    else s)

end Sys2Proof.Machine
end

