-- ==== Sys2Proof/Machine/Admission.lean ====
section
/-!
DEFINITION. From a doorbell to the first CMD: furrows and their checks (11, R276, R277), admission (R332), basin and staging
reservations (R355, R375), deficit round-robin (R333) and issue (R303).
-/

namespace Sys2Proof.Machine
open Sys2Proof Csr

/-! Furrow words (R276) -/

/-- A furrow word. -/
structure FWord where
  cmd : Nat
  fin : Bool
  isSealed : Bool
  squeeze : Bool
  unit : Nat
  count : Nat
  addr : Nat
  order : Nat
  tag : Nat
  dict : Nat
  zero : Bool
deriving DecidableEq, Repr

/-- The word that 32 bytes spell. -/
def fwordOf (l : List Byte) : FWord :=
  let w (i : Nat) : Nat := leNat ((l.drop (8 * i)).take 8)
  { cmd := bits (w 0) 0 4, fin := (w 0).testBit 5, isSealed := (w 0).testBit 6, squeeze := (w 0).testBit 7,
    unit := bits (w 0) 16 16, count := bits (w 0) 32 32, addr := w 1, order := bits (w 2) 0 32, tag := bits (w 2) 32 32,
    dict := bits (w 3) 0 32, zero := !(w 0).testBit 4 && bits (w 0) 8 8 == 0 && bits (w 3) 32 32 == 0 }

/-- The word is a transaction; its data flows into the module; it bears an order. -/
def FWord.isTrans (w : FWord) : Bool := w.cmd == 8 || w.cmd == 9 || w.cmd == 0xC || w.cmd == 0xD
def FWord.inbound (w : FWord) : Bool := w.cmd.testBit 2
def FWord.order? (w : FWord) : Bool := w.cmd.testBit 0

/-- The resolved dictionary of a word (R283). -/
def FWord.dictIn (w : FWord) (k : Session) : Nat :=
  if w.squeeze then (if w.dict != 0 then w.dict else k.dict) else 0

/-- The most plaintext the basin can receive for a word (R355). -/
def FWord.basinMax (w : FWord) (k : Session) : Nat := if w.squeeze then cmpBound k.format w.count 0 else w.count

/-- COUNT is out of range (R276, R277). -/
def FWord.countBad (w : FWord) (k : Session) : Bool :=
  decide (67108864 < w.count) || (!w.order? && w.count == 0)
    || (w.inbound && w.isSealed && decide (4194304 < w.basinMax k))

/-- An option the session does not enable, the peer did not accept, or the key or dictionary does not allow (R277, R352,
R375, CMP_STAGE). -/
def State.optionBad (s : State) (k : Session) (w : FWord) : Bool :=
  let d := w.dictIn k
  (w.isSealed && (!k.opOffer.testBit 0 || !k.opts.testBit 0
      || s.slotStatus (if w.inbound then k.rxkey else k.txkey) (useENC + useFLUME) (some k.allot) != cipOK))
    || (w.squeeze && (!k.opOffer.testBit 1 || !k.opts.testBit 1
      || (d != 0 && (k.format == 2 || (s.dictOf d).isNone))
      || (!w.inbound && s.fld CMP_STAGE CMP_STAGE.SIZE == 0)
      || s.fld HWK_SSTAT HWK_SSTAT.PHASE == 1))

/-- How a furrow's checks end: its transactions by word index, or a status, the index and the TAG (R277). -/
inductive Furrow where
  | good (l : List (Nat × FWord))
  | bad (status widx tag : Nat)
deriving DecidableEq, Repr

/-- One furrow word fetched through the allotment's I/O translation by the holder: none on a fault or poison (R277,
R329). -/
def State.fetchWord (s : State) (k : Session) (va : Nat) : State × Option FWord :=
  let m := 0x090 + s.fld SLU_STAT SLU_STAT.HOLDER % 2
  match s.ioXlat k.allot va m .read with
  | (s, none) => (s, none)
  | (s, some pa) =>
    let s := s.emit 1
    if s.mayReach .sluice pa then
      (s.blockRead pa 32 false, if s.poisonedRange pa 32 then none else some (fwordOf (s.bytes pa 32)))
    else (s.addrFault .sluice accRead pa, none)

/-- The words of a furrow fetched and checked in order, from word n on (R277). -/
def State.fetchFurrow (k : Session) : Nat → State → Nat → Nat → List (Nat × FWord) → State × Furrow
  | 0, s, _, n, acc => (s, if n < 256 then .good acc else .bad 0x52 255 0)
  | f + 1, s, va, n, acc =>
    match s.fetchWord k va with
    | (s, none) => (s, .bad 0x54 n 0)
    | (s, some w) =>
      let bad (st : Nat) : State × Furrow := (s, .bad st n w.tag)
      if w.cmd = 1 then
        if n = 255 then bad 0x52
        else if w.addr % 32 != 0 then bad 0x53
        else State.fetchFurrow k f s w.addr (n + 1) acc
      else if !(w.cmd == 0 || w.isTrans) || !w.zero then bad 0x50
      else if w.isTrans && w.countBad k then bad 0x51
      else if (n = 255 && !w.fin) || (w.isTrans && acc.length == 64) then bad 0x52
      else if w.isTrans && s.optionBad k w then bad 0x55
      else
        let acc := if w.isTrans then acc ++ [(n, w)] else acc
        if w.fin then (s, .good acc) else State.fetchFurrow k f s (va + 32) (n + 1) acc

/-- Every page of a word's buffer translates with the permission it needs (R277, R329). -/
def State.bufferGood (s : State) (k : Session) (w : FWord) : State × Bool :=
  let m := 0x090 + s.fld SLU_STAT SLU_STAT.HOLDER % 2
  (bufPieces w.addr w.count).foldl (fun (r : State × Bool) p =>
    if r.2 then
      let q := r.1.ioXlat k.allot p.1 m (if w.inbound then .probeW else .probeR)
      (q.1, q.2.isSome)
    else r) (s, true)

/-- The buffers of the words checked in word order. -/
def State.checkBuffers (k : Session) (all : List (Nat × FWord)) : List (Nat × FWord) → State → State × Furrow
  | [], s => (s, .good all)
  | (n, w) :: rest, s =>
    let r := s.bufferGood k w
    if r.2 then State.checkBuffers k all rest r.1 else (r.1, .bad 0x56 n w.tag)

/-! Admission (R278, R301, R332) -/

/-- A transaction accepted: its record, its place in the session's chain, and its place in the basin's and staging's
queues (R301, R302, R355, R375). -/
def State.acceptWord (s : State) (n : Nat) (k : Session) (tseq idx : Nat) (w : FWord) : State :=
  let r : Rec := { state := rACCEPTED, tpv := false, path := 0, attempt := 0, widx := idx, session := n, status := 0,
                   unitstat := 0, tseq := tseq, ver := 0, cmd := w.cmd, isSealed := w.isSealed, squeeze := w.squeeze,
                   unit := w.unit, count := w.count, addr := w.addr, order := w.order, tag := w.tag,
                   dict := w.dictIn k, wirelen := 0, residual := 0, detail := 0, tpos := 0, next := recNone }
  let (s, i) := s.takeRec r
  let s := s.syncRefs (w.dictIn k)
  let s := if w.inbound && w.isSealed then
      { s with basinQueue := s.basinQueue ++ [(i, min ((w.basinMax k + 65535) / 65536 + 1) 64)] }.syncBasin
    else s
  if !w.inbound && w.squeeze then
    { s with stageQueue := s.stageQueue ++ [(i, (cmpBound k.format w.count 0 + 1048575) / 1048576)] }
  else s

/-- A checked furrow admitted or refused as a whole (R301, R332, ADMISSION). -/
def State.admitFurrow (s : State) (n : Nat) (l : List (Nat × FWord)) : State :=
  let k := s.session n
  let a := k.allot
  let tag := ((l.head?).map (fun p => p.2.tag)).getD 0
  if s.fld (ALT_ASTAT a) ALT_ASTAT.STATE != 1 || decide (s.fld (ALT_SHARE a) ALT_SHARE.QLIMIT < s.queued a + l.length) then
    ((s.bump (ALT_ACNT a) ALT_ACNT.REFUSED 1).altSync a).pushKind n noTseq 0x40 2 tag 0 0 0
  else if s.freeRecords < l.length then
    (s.bump LGR_CNT1 LGR_CNT1.REFUSED_FULL 1).pushKind n noTseq 0x41 2 tag 0 0 0
  else
    let s := l.foldl (fun s p =>
      let k := s.session n
      let s := s.acceptWord n k k.nextTseq p.1 p.2
      { s with sessions := s.sessions.put n { k with nextTseq := (k.nextTseq + 1) % 2 ^ 48 } }) s
    ((s.bump (ALT_ACNT a) ALT_ACNT.ADMITTED l.length).countFree).altSync a

/-- The next doorbell record of a session consumed (R275, R277, R322): its furrow is fetched, checked and admitted. -/
def State.consumeBell (s : State) (n : Nat) : State :=
  let k := s.session n
  if k.state = ssOPEN && s.fld (ALT_ASTAT k.allot) ALT_ASTAT.STATE == 1 && k.nextDseq != k.bellDseq then
    let s := s.pollRing n
    let s := s.emit 1
    let va := s.num (k.dring + 16 * (k.nextDseq % 2 ^ k.dlog2)) 6
    let (s, f) := State.fetchFurrow k 256 s va 0 []
    let (s, f) := match f with
      | .good l => State.checkBuffers k l l s
      | .bad a b c => (s, .bad a b c)
    let s := match f with
      | .good l => s.admitFurrow n l
      | .bad st idx tag => (s.bump SES_CNT SES_CNT.FURROW_ERR 1).pushKind n noTseq st 3 tag idx 0 0
    let k := s.session n
    s.putSession n { k with nextDseq := (k.nextDseq + 1) % 2 ^ 48 }
  else s

/-- DOORBELL_RECORD: the next record of a session's ring. -/
def execDoorbellRecord (n : BitVec 18) (s : State) : Host.Outcome State Fault Refusal :=
  .next (if s.sluActs then s.consumeBell n.toNat else s)

/-! Reservations (R355, R375) -/

/-- BASIN_RESERVATION (R355): the head of the queue is granted its granules when they are free. -/
def State.grantBasin (s : State) : State :=
  match s.basinQueue with
  | [] => s
  | (i, g) :: rest =>
    if g ≤ s.fld CIP_BSTAT CIP_BSTAT.FREE && (s.basins.find i).isNone then
      ({ s with basinQueue := rest, basins := s.basins.put i ⟨g, [], .filling⟩ }).syncBasin
    else s
def execBasinReservation (s : State) : Host.Outcome State Fault Refusal := .next s.grantBasin

/-- SQUEEZE_STAGING (R375): the head of the queue reserves its granules and its compression is queued. -/
def State.grantStage (s : State) : State :=
  match s.stageQueue with
  | [] => s
  | (i, g) :: rest =>
    if s.granulesHeld + g ≤ s.fld CMP_STAGE CMP_STAGE.SIZE then
      ({ s with
          stageQueue := rest, stageHeld := s.stageHeld.put i (s.granulesFree.take g),
          cmpSession := s.cmpSession ++ [JobRef.stage i] }).syncStage
    else s
def execSqueezeStaging (s : State) : Host.Outcome State Fault Refusal := .next s.grantStage

/-! Deficit round-robin (R333) -/

/-- A transaction is eligible to issue: ACCEPTED, its session OPEN or closing with a live active path, inside the window
of R288, its granules granted and its data staged (R355, R375). -/
def State.eligible (s : State) (i : Nat) : Bool :=
  let r := s.record i
  let k := s.session r.session
  r.state == rACCEPTED && k.moving && s.pathLive k k.active
    && decide ((r.tseq + 2 ^ 48 - s.floorOf r.session k) % 2 ^ 48 < 2 ^ k.wlog2)
    && (!(r.inbound && r.isSealed) || ((s.basins.find i).map (fun b => b.phase == .filling)) == some true)
    && (!(!r.inbound && r.squeeze) || (s.stageData.find i).isSome)

/-- The eligible transactions of an allotment, by session in turn, each session's in TSEQ order (R333). -/
def State.drrOrder (s : State) (a : Nat) : List Nat :=
  let ns := (s.sessions.filter (fun e => e.2.moving && e.2.allot == a)).map Prod.fst
  let ls := ns.map (fun n => (s.unendedRecs n (s.session n).nextTseq).filter s.eligible)
  interleave ((ls.map List.length).foldl max 0) ls

/-- A transaction issued: the ISSUED write, which its first CMD follows (R302, R303). -/
def State.issue (s : State) (i : Nat) : State :=
  let r := s.record i
  let k := s.session r.session
  let wl := if r.inbound then 0
    else (if r.squeeze then s.stageData.get 0 i else r.count) + (if r.isSealed then 16 else 0)
  let s := s.putRec i { r with state := rISSUED, path := k.active, wirelen := wl }
  let s := s.setQueued k.allot (s.queued k.allot - 1)
  { s with issueQueue := s.issueQueue ++ [i] }

/-- The cost of a transaction (R333). -/
def Rec.cost (r : Rec) : Nat := max r.count 4096

/-- Transactions issued while the deficit covers their cost: the deficit left, and those left. -/
def State.drrIssue : List Nat → State → Nat → State × Nat × List Nat
  | [], s, d => (s, d, [])
  | i :: rest, s, d =>
    let s := s.readRec i
    let c := (s.record i).cost
    if !s.eligible i then State.drrIssue rest s d
    else if c ≤ d then State.drrIssue rest (s.issue i) (d - c) else (s, d, i :: rest)

/-- One allotment's turn of a round; a new WEIGHT takes effect with it and cuts the deficit (R334). -/
def State.drrTurn (s : State) (a : Nat) : State :=
  let l := s.drrOrder a
  let new := s.weightNew
  let s := { s with weightNew := removeNat new a }
  if l.isEmpty then { s with deficits := s.deficits.erase a }
  else
    let w := s.fld (ALT_SHARE a) ALT_SHARE.WEIGHT * 4096
    let d := if new.contains a then min (s.deficits.get 0 a) w else s.deficits.get 0 a
    let d := d + w
    let (s, d, left) := State.drrIssue l s d
    let s := s.altSync a
    if left.isEmpty then { s with deficits := s.deficits.erase a } else { s with deficits := s.deficits.put a d }

/-- DRR_ROUND (R333). -/
def execDrrRound (s : State) : Host.Outcome State Fault Refusal :=
  let allots := (s.sessions.filter (fun e => e.2.moving)).foldl (fun l e => insertNat l e.2.allot) s.deficits.keys
  .next (if s.sluActs then allots.foldl State.drrTurn s else s)

/-- TRANSACTION_ISSUE (R303): the ISSUED write of a record is acknowledged, and its first CMD goes out. -/
def execTransactionIssue (i : BitVec 22) (s : State) : Host.Outcome State Fault Refusal :=
  .next (if s.sluActs && s.issueQueue.contains i.toNat then
    let s := s.readRec i.toNat
    let k := s.session (s.record i.toNat).session
    if s.issueQueue.contains i.toNat && s.pathLive k k.active then
      ({ s with issueQueue := removeNat s.issueQueue i.toNat }).sendTransaction i.toNat
    else s
  else if s.sluActs && s.resendLate.contains i.toNat && s.prepared i.toNat then
    let k := s.session (s.record i.toNat).session
    if s.pathLive k k.active then
      let r := ({ s with resendLate := removeNat s.resendLate i.toNat }).resendRec k.activeLink i.toNat
      r.2.foldl (fun s m => s.frameWork k.activeLink m) r.1
    else s
  else s)

end Sys2Proof.Machine
end

