-- ==== Sys2Proof/Machine/Sluice.lean ====
section
/-!
DEFINITION. The sluice masters and the water turn (12, R307-R318, R320, R321): inputs, the check gate, the lease and its renewal, the
ditch rider, switch-over, turn changes and REJOIN.
-/

namespace Sys2Proof.Machine
open Sys2Proof Csr

/-! Inputs and outputs (R307-R309) -/

/-- The masters that take part take one input and compute its outputs, numbered on from their last; a master that has
stopped, or whose control-store word is being restored, holds the input back (R142, R308). -/
def State.sluInput (s : State) (n : Nat) : State :=
  if s.turnHeld && !s.sluStalled then
    ([false, true].filter s.sluRuns).foldl (fun s b => s.putSlu b { s.slu b with inputs := (s.slu b).inputs + 1 }) (s.compute n)
  else s

/-- SLUICE_INPUT (R307): an input that computes n outputs. -/
def execSluiceInput (n : BitVec 16) (s : State) : Host.Outcome State Fault Refusal := .next (s.sluInput n.toNat)

/-- An output of a master at the check gate (R309). -/
def State.checkGate (s : State) (b : Bool) (oseq : Nat) : State :=
  let e := s.fld SLU_OSEQ SLU_OSEQ.EMITTED
  if !s.passes b then s
  else if oseq ≤ e then s.bump SLU_SUPP SLU_SUPP.SUPPRESSED 1
  else if oseq = e + 1 then (s.setF SLU_OSEQ SLU_OSEQ.EMITTED oseq).turnChanged
  else s.putSlu b { s.slu b with stopped := true }

/-- CHECK_GATE_OUTPUT. -/
def execCheckGateOutput (b : Bool) (oseq : Word) (s : State) : Host.Outcome State Fault Refusal :=
  .next (s.checkGate b oseq.toNat)

/-! The lease (R310, R311) -/

/-- LEASE_RENEWAL: ignored from a master that does not hold the turn or is fenced. -/
def execLeaseRenewal (b : Bool) (s : State) : Host.Outcome State Fault Refusal :=
  .next (if s.holds b && !s.fenced b then s.setF SLU_LEASE SLU_LEASE.REMAIN 938 else s)

/-- The turn becomes unheld and the quiet period begins. -/
def State.releaseTurn (s : State) (change : Nat) : State :=
  let s := (s.setF SLU_STAT SLU_STAT.HOLDER 2).setFs SLU_LEASE [(SLU_LEASE.REMAIN, 0), (SLU_LEASE.QUIET, 1)]
  { s with turnChange := change }.markHolding

/-- LEASE_EXPIRY; a change whose new holder has failed ends NO-STANDBY. -/
def execLeaseExpiry (s : State) : Host.Outcome State Fault Refusal :=
  .next (if s.turnHeld then (if s.turnChange = 2 then s.endSlu 2 else s).releaseTurn 1 else s)

/-- The links whose first messages waited for the turn. -/
def State.runUpWait (s : State) : State :=
  s.upWait.foldl (fun s l => if s.lstate l = lsUP then (s.upMessages l).pump l else s) { s with upWait := [] }

/-- A record read into LGR_RDATA by the holder under R233, with what the checks of its copies find (R321). -/
def State.readRecord (s : State) (e1 e2 : Ecc) : State :=
  let i := s.fld LGR_RD LGR_RD.INDEX
  let bad := s.copyBad (ledgerPrimary i) e1
  let r := s.holderRead i e1 e2
  let src := if r.2.isNone then 2 else b2n bad
  let words := r.2.getD (List.replicate 64 0)
  let s := (List.range 8).foldl (fun s w => s.wr (LGR_RDATA w) (Word.ofNat (leNat ((words.drop (8 * w)).take 8)))) r.1
  s.setFs LGR_RDSTAT [(LGR_RDSTAT.BUSY, 0), (LGR_RDSTAT.DONE, 1), (LGR_RDSTAT.SRC, src)]

/-- GO in LGR_RD: the read waits, with BUSY, for a holder that acts; ignored while BUSY (R321). -/
def State.lgrRd (s : State) (e1 e2 : Ecc) : State :=
  if s.flag LGR_RDSTAT LGR_RDSTAT.BUSY then s
  else if s.sluActs then s.readRecord e1 e2
  else s.setF LGR_RDSTAT LGR_RDSTAT.BUSY 1

/-- LGR_RD. -/
def execLgrRd (e1 e2 : Ecc) (s : State) : Host.Outcome State Fault Refusal := .next (s.lgrRd e1 e2)

/-- What waited for the control plane to act goes on: first messages, a SES command, ends that were due, a read of the
ledger (R262, R272, R297, R317, R321). -/
def State.sluResume (s : State) : State :=
  if s.sluActs then
    let s := s.runUpWait.sesResume
    let s := (s.live.filter (fun i => (s.record i).unended)).foldl State.tryEnd s
    if s.flag LGR_RDSTAT LGR_RDSTAT.BUSY then s.readRecord .ok .ok else s
  else s

/-- The turn granted to a master: links leave HOLD, and what waited for a holder goes on (R297, R311, R313). -/
def State.grantTurn (s : State) (b : Bool) : State :=
  let s := s.setF SLU_STAT SLU_STAT.HOLDER (b2n b)
  let s := if s.sluState (!b) = slHOLDER then s.setSlu (!b) slSTANDBY else s
  let s := (s.setSlu b slHOLDER).setFs SLU_LEASE [(SLU_LEASE.REMAIN, 938), (SLU_LEASE.QUIET, 0)]
  s.markHolding.sluResume

/-- The quiet period ends: the standby is granted the turn, or no master is and SLU-NONE is recorded (R311, R317). -/
def State.quietEnd (s : State) : State :=
  match [false, true].find? (fun b => s.sluState b == slSTANDBY) with
  | some b => s.grantTurn b
  | none =>
    let s := (s.setF SLU_LEASE SLU_LEASE.QUIET 0).fault0 0x68 mstNone accNone
    let s := if s.turnChange = 2 then s.endSlu 2 else s
    { s with turnChange := 0 }

/-- QUIET_PERIOD_END. -/
def execQuietPeriodEnd (s : State) : Host.Outcome State Fault Refusal :=
  .next (if s.flag SLU_LEASE SLU_LEASE.QUIET then s.quietEnd else s)

/-! The ditch rider (R310) -/

/-- A master declared failed: fenced, FAILED, SLU-FAILED with its name; a holder that its standby stalled goes on alone (R308, R310). -/
def State.declareFailed (s : State) (b : Bool) : State :=
  (((s.setF SLU_LEASE (fenceFld b) 1).setSlu b slFAILED).fault0 0x60 (0x090 + b2n b) accNone).sluResume

/-- A path fault of one path of a master shown, and recorded when it begins. -/
def State.pathCheck (s : State) (b : Bool) (side : Bool) (bad : Bool) : State :=
  let i := 12 + 2 * b2n b + b2n side
  let f : Fld := ⟨i, 1⟩
  let was := s.flag SLU_STAT f
  let s := s.setF SLU_STAT f (b2n bad)
  if bad && !was then (s.bump SLU_CNT SLU_CNT.PATHFAULTS 1).fault0 0x5C (0x090 + b2n b) accNone else s

/-- One master's check: hc of silence on the ditch ring and on the sideband. -/
def State.heartbeat (s : State) (b : Bool) (ring side : Nat) : State :=
  if s.sluRuns b then
    let s := s.putSlu b { s.slu b with silentRing := ring, silentSide := side }
    let r := decide (625 ≤ ring)
    let d := decide (625 ≤ side)
    let s := (s.pathCheck b false (r && !d)).pathCheck b true (d && !r)
    if (r && d) || (s.slu b).stopped then s.declareFailed b else s
  else (s.pathCheck b false false).pathCheck b true false

/-- HEARTBEAT_CHECK: hc of silence of A's ring and sideband, then of B's. -/
def execHeartbeatCheck (ar as br bs : BitVec 16) (s : State) : Host.Outcome State Fault Refusal :=
  .next ((s.heartbeat false ar.toNat as.toNat).heartbeat true br.toNat bs.toNat)

/-! Turn changes (R315) -/

/-- Trickle service (R412). -/
def State.inTrickle (s : State) : Bool := s.fld HWK_SSTAT HWK_SSTAT.PHASE == 1

/-- The turn is unheld, its holder has failed, or a change or switch-over is in progress. -/
def State.turnBusy (s : State) : Bool :=
  !s.turnHeld || s.turnChange != 0 || !([false, true] : List Bool).any (fun b => s.holds b && s.sluState b == slHOLDER)

/-- Both masters can take part in a change. -/
def State.bothRun (s : State) : Bool := s.sluRuns false && s.sluRuns true

/-- A change begins: the holder ends its input, the standby reaches it, the lease is released. -/
def State.beginSwap (s : State) : State := (s.setF SLU_STAT SLU_STAT.BUSY 1).releaseTurn 2

/-- OP = SWAP. -/
def State.sluSwap (s : State) : State :=
  if s.inTrickle then s.endSlu 6
  else if s.turnBusy then s.endSlu 1
  else if !s.bothRun then s.endSlu 2
  else s.beginSwap

/-- SCHEDULED_SWAP: made, or skipped and tried again after 1 h. -/
def State.scheduledSwap (s : State) : State :=
  if !s.flag SLU_CFG SLU_CFG.SWAP_EN then s
  else if !s.turnBusy && s.bothRun && !s.inTrickle && !s.flag SLU_STAT SLU_STAT.BUSY then s.beginSwap
  else
    let s := (s.bump SLU_CNT SLU_CNT.SKIPPED 1).fault0 0x64 mstNone accNone
    { s with swapRetry := s.swapHc + 562500000000 }.syncSwap
def execScheduledSwap (s : State) : Host.Outcome State Fault Refusal := .next s.scheduledSwap

/-! REJOIN (R318) -/

/-- The master that REJOIN brings back. -/
def State.outMaster (s : State) : Option Bool :=
  [false, true].find? (fun b => s.sluState b == slFAILED || s.sluState b == slOFF)

/-- A reset master is in no micro-trap: VALID of its save area is 0, the rest stays for diagnosis (R142). -/
def State.clearMicro (s : State) (b : Bool) : State :=
  let a := CST_SMSAVE (b2n b) 0
  if bit (s.rd a) 20 then s.setF a ⟨20, 1⟩ 0 else s

/-- A master joins: reset, BIST, control store, the holder's state and OSEQ, STANDBY; one that fails BIST is FAILED. -/
def State.joinMaster (s : State) (b bistOk : Bool) : State :=
  if bistOk then
    let h := s.slu (!b)
    (((s.clearMicro b).putSlu b ⟨h.inputs, h.oseq, 0, 0, false⟩).setF SLU_LEASE (fenceFld b) 0).setSlu b slSTANDBY
  else s.setSlu b slFAILED

/-- OP = REJOIN. -/
def State.sluRejoin (s : State) (bistOk : Bool) : State :=
  if s.inTrickle then s.endSlu 6
  else if s.turnBusy then s.endSlu 1
  else
    match s.outMaster with
    | none => s.endSlu 3
    | some b => (s.joinMaster b bistOk).endSlu (if bistOk then 0 else 4)

/-- GO in SLU_CMD with an OP; ignored while BUSY (R320). -/
def State.sluGo (s : State) (op : Nat) (bistOk : Bool) : State :=
  if s.flag SLU_STAT SLU_STAT.BUSY then s
  else match op with
    | 0 => s.endSlu 0
    | 1 => s.sluSwap
    | 2 => s.sluRejoin bistOk
    | _ => s.endSlu 5

/-- SLU_SWAP. -/
def execSluSwap (s : State) : Host.Outcome State Fault Refusal := .next (s.sluGo 1 true)
/-- SLU_REJOIN, with the outcome of the master's BIST. -/
def execSluRejoin (bistOk : Bool) (s : State) : Host.Outcome State Fault Refusal := .next (s.sluGo 2 bistOk)
/-- SLU_BAD_OP. -/
def execSluBadOp (s : State) : Host.Outcome State Fault Refusal := .next (s.sluGo 3 true)

/-- SLU_COMMIT: the staged SWAP_HOURS takes effect. -/
def State.commitSlu (s : State) : State := (s.commitField SLU_CFG SLU_CFG.SWAP_HOURS SLU_STAT SLU_STAT.STAGED).syncSwap
def execSluCommit (s : State) : Host.Outcome State Fault Refusal := .next s.commitSlu

end Sys2Proof.Machine
end

