-- ==== Sys2Proof/Machine/Allot.lean ====
section
/-!
DEFINITION. Allotment commands (13, R322-R326, R330).
-/

namespace Sys2Proof.Machine
open Sys2Proof Csr

/-- The states of R322. -/
def alFREE : Nat := 0
def alACTIVE : Nat := 1
def alQUIESCING : Nat := 2
def alQUIESCED : Nat := 3

/-- The state of an allotment. -/
def State.allotState (s : State) (a : Nat) : Nat := s.fld (ALT_ASTAT a) ALT_ASTAT.STATE

/-- ALT_STAT.ACTIVE: allotments not FREE, allotment 0 among them; only allotments ever written can be. -/
def State.syncActive (s : State) : State :=
  let n := (s.csr.filter (fun e => decide (0x14400200 ≤ e.1) && decide (e.1 < 0x14600000) && e.1 % 0x200 == 0
    && ALT_ASTAT.STATE.get e.2 != 0)).length
  s.setF ALT_STAT ALT_STAT.ACTIVE (n + 1)

/-- An allotment enters a state. -/
def State.setAllot (s : State) (a st : Nat) : State := ((s.setF (ALT_ASTAT a) ALT_ASTAT.STATE st).syncActive).altSync a

/-- The entries of the I/O TLB that a test picks are invalidated (R330). -/
def State.ioInv (s : State) (p : TlbEnt → Bool) : State :=
  { s with iotlb := s.iotlb.mapv (fun l => l.filter (fun t => !p t)) }

/-- An allotment's context at its reset values (R325, R340). -/
def State.resetContext (s : State) (a : Nat) : State :=
  { s with
      csr := s.csr.filter (fun e => !(decide (ALT_ASTAT a ≤ e.1) && decide (e.1 < ALT_ASTAT a + 0x200))),
      deficits := s.deficits.erase a }

/-- The command in progress ends with a RESULT. -/
def State.endAlt (s : State) (r : Nat) : State :=
  s.setFs ALT_CMDSTAT [(ALT_CMDSTAT.BUSY, 0), (ALT_CMDSTAT.DONE, 1), (ALT_CMDSTAT.RESULT, r)]

/-- An ALT_SIPHON value that CREATE accepts: no ring, or a ring aligned in a NORMAL range (R324, R336). -/
def siphonOk (w : Nat) : Bool :=
  let g := bits w 0 5
  let base := bits w 12 36 * 4096
  bits w 5 7 == 0 && bits w 48 16 == 0
    && (g == 0 || (decide (9 ≤ g) && decide (g ≤ 20) && base % (8 * 2 ^ g) == 0 && normalRange base (8 * 2 ^ g)))

/-- An ALT_SIRQ value that CREATE accepts: 0, or a core, a line and zero elsewhere (R324, R340). -/
def sirqOk (w : Nat) : Bool :=
  w == 0 || (bits w 14 2 == 0 && bits w 37 27 == 0 && decide (bits w 0 7 < 80) && decide (16 ≤ bits w 8 6))

/-- The descriptor is out of range (R324). -/
def allotDescBad (d : List Byte) : Bool :=
  let w (i : Nat) : Nat := dword d (8 * i)
  bits (w 0) 10 6 != 0 || bits (w 0) 39 9 != 0 || bits (w 0) 50 14 != 0 || bits (w 0) 0 10 == 0
    || decide (4194304 < bits (w 0) 16 23) || !siphonOk (w 1) || !sirqOk (w 2)
    || ((w 0).testBit 49 && bits (w 1) 0 5 == 0) || [3, 4, 5, 6, 7].any (fun i => w i != 0)

/-- CREATE of a FREE allotment (R325); W1C bits of ALT_ASTAT stay as they are. -/
def State.altCreate (s : State) (a arg : Nat) : State :=
  if s.allotState a != alFREE then s.endAlt 1
  else
    let d := s.bytes arg 64
    if s.poisonedRange arg 64 || allotDescBad d then s.endAlt 3
    else
      let w (i : Nat) : Nat := dword d (8 * i)
      let old := s
      let s := (s.resetContext a).ioInv (fun t => t.tag == some a)
      let s := s.setFs (ALT_ASTAT a) [(ALT_ASTAT.FENCED_WRITE, old.fld (ALT_ASTAT a) ALT_ASTAT.FENCED_WRITE),
        (ALT_ASTAT.CTXLOST, old.fld (ALT_ASTAT a) ALT_ASTAT.CTXLOST)]
      let s := s.setFs (ALT_SHARE a) [(ALT_SHARE.WEIGHT, bits (w 0) 0 10), (ALT_SHARE.QLIMIT, bits (w 0) 16 23)]
      let s := s.setFs (ALT_ACTL a) [(ALT_ACTL.LGRANT, if s.lateralPart then bits (w 0) 48 1 else 0),
        (ALT_ACTL.LOGDIRTY, bits (w 0) 49 1)]
      let s := (s.wr (ALT_SIPHON a) (Word.ofNat (w 1))).wr (ALT_SIRQ a) (Word.ofNat (w 2))
      (s.setAllot a alACTIVE).endAlt 0

/-- The allotment has no unended transaction and no DMA in progress: no job of it is queued or at work (R322). -/
def State.allotIdle (s : State) (a : Nat) : Bool :=
  !s.live.any (fun i => (s.record i).unended && (s.session (s.record i).session).allot == a)
    && !s.jobs.any (fun e => e.2.allot == a && e.2.phase != JobPhase.suspended)

/-- A QUIESCING allotment whose last transaction and DMA have ended is QUIESCED; the command ends (R322, R325). -/
def State.quiesced (s : State) (a : Nat) : State :=
  if s.allotState a = alQUIESCING && s.allotIdle a then
    let s := s.setAllot a alQUIESCED
    if s.quiescing = some a then { s with quiescing := none }.endAlt 0 else s
  else s

/-- DESTROY (R325, R373). -/
def State.altDestroy (s : State) (a : Nat) : State :=
  if s.allotState a != alQUIESCED then s.endAlt 1
  else if s.sessions.any (fun e => e.2.state != ssCLOSED && e.2.allot == a) then s.endAlt 4
  else
    let s := ((s.jobs.filter (fun e => e.2.allot == a)).map Prod.fst).foldl State.freeJob s
    let s := (s.resetContext a).ioInv (fun t => t.tag == some a)
    (s.setAllot a alFREE).endAlt 0

/-- An ALT command carried out (R325, R330): it waits for the image's initialisation, and CREATE in a cold start for DRAM (R326, R402).
-/
def State.altRun (s : State) (op a arg : Nat) : State :=
  if s.altInit || (op == 1 && s.dramHeld) then { s with altWait := some (op, a, arg) }
  else if 8 ≤ op then s.endAlt 6
  else if 1 ≤ op && op ≤ 4 && a == 0 then s.endAlt 2
  else
    match op with
    | 1 => if arg % 64 != 0 || !normalRange arg 64 then s.endAlt 5 else s.altCreate a arg
    | 2 => if s.allotState a != alACTIVE then s.endAlt 1 else { s.setAllot a alQUIESCING with quiescing := some a }
    | 3 =>
      if s.allotState a != alQUIESCING && s.allotState a != alQUIESCED then s.endAlt 1
      else (s.setAllot a alACTIVE).endAlt 0
    | 4 => s.altDestroy a
    | 5 => (s.ioInv (fun t => t.covers (some a) arg)).endAlt 0
    | 6 => (s.ioInv (fun t => t.tag == some a)).endAlt 0
    | 7 => { s with iotlb := [] }.endAlt 0
    | _ => s.endAlt 0

/-- An ALT command that waited goes on. -/
def State.altResume (s : State) : State :=
  match s.altWait with
  | some (op, a, arg) => ({ s with altWait := none }).altRun op a arg
  | none => s

/-- GO in ALT_CMD with an OP: ignored while BUSY (R323). -/
def State.altGo (s : State) (op : Nat) : State :=
  if s.flag ALT_CMDSTAT ALT_CMDSTAT.BUSY then s
  else (s.setF ALT_CMDSTAT ALT_CMDSTAT.BUSY 1).altRun op (s.fld ALT_CMD ALT_CMD.ALLOT) (s.fld ALT_CMDARG ALT_CMDARG.ARG)

/-- ALT_CREATE. -/
def execAltCreate (s : State) : Host.Outcome State Fault Refusal := .next (s.altGo 1)
/-- ALT_QUIESCE. -/
def execAltQuiesce (s : State) : Host.Outcome State Fault Refusal := .next (s.altGo 2)
/-- ALT_RESUME. -/
def execAltResume (s : State) : Host.Outcome State Fault Refusal := .next (s.altGo 3)
/-- ALT_DESTROY. -/
def execAltDestroy (s : State) : Host.Outcome State Fault Refusal := .next (s.altGo 4)
/-- ALT_IOINV_VA. -/
def execAltIoinvVa (s : State) : Host.Outcome State Fault Refusal := .next (s.altGo 5)
/-- ALT_IOINV_ALLOT. -/
def execAltIoinvAllot (s : State) : Host.Outcome State Fault Refusal := .next (s.altGo 6)
/-- ALT_IOINV_ALL. -/
def execAltIoinvAll (s : State) : Host.Outcome State Fault Refusal := .next (s.altGo 7)
/-- ALT_BAD_OP: OP 0x8-0xF. -/
def execAltBadOp (s : State) : Host.Outcome State Fault Refusal := .next (s.altGo 8)

/-- ALLOTMENT_QUIESCED (R322): an allotment's last transaction and DMA have ended. -/
def execAllotmentQuiesced (a : BitVec 12) (s : State) : Host.Outcome State Fault Refusal := .next (s.quiesced a.toNat)

/-- ALT_CTXBASE_INIT (R326): every entry is written from the contexts in force, then a command that waited goes on. -/
def execAltCtxbaseInit (s : State) : Host.Outcome State Fault Refusal :=
  .next (if s.altInit && !s.dramHeld then
    ((List.range 4096).foldl State.altSync { s with altInit := false, altImage := true }).altResume
  else s)

end Sys2Proof.Machine
end

