-- ==== Sys2Proof/Machine/Groups.lean ====
section
/-!
DEFINITION. Twins and triads (06): the signature, closing and comparing intervals, rollback, outvoting, member and
checker failure, spare join, and the TWN commands.
-/

namespace Sys2Proof.Machine
open Sys2Proof Csr

/-! The signature (R151) -/

/-- One step of CRC-64/ECMA-182. -/
def crcStep (x : Word) : Word := if bit x 63 then (x <<< 1) ^^^ 0x42F0E1EBA9EA3693 else x <<< 1

/-- One byte into the CRC. -/
def crcByte (x : Word) (b : Byte) : Word :=
  (List.range 8).foldl (fun x _ => crcStep x) (x ^^^ (b.setWidth 64 <<< 56))

/-- CRC-64 of bytes, initial value 0. -/
def crc64 (l : List Byte) : Word := l.foldl crcByte 0

/-- One state element into STATE. -/
def elementCrc (id : Nat) (v : Word) : Word := crc64 (leBytes 2 id ++ leBytes 8 v.toNat)

/-- The output record of an entry (R151). The width byte of a zeroed line, 256, is written as 0, and the address of an `ipi` or of
a timer or ipend write is its port number; R151 says neither (DESIGN CHOICE). -/
def StoreEnt.record (e : StoreEnt) : List Byte :=
  leBytes 1 e.typ ++ leBytes 1 e.width ++ leBytes 6 0 ++ leBytes 8 e.addr ++ leBytes 8 e.data.toNat

/-- The repeat state as frame offset 0x040 (R118). -/
def Core.repeatWord (k : Core) : Word := Word.ofNat (k.arch.rep % 2 ^ 32 + b2n k.arch.repOn * 2 ^ 63)

/-- The POISON marks as frame offset 0x058 (R118). -/
def Core.poisonWord (k : Core) : Word :=
  Word.ofNat ((List.range 15).foldl (fun x n =>
    x + b2n (k.arch.poison.contains (interlockedPorts.getD n 0)) * 2 ^ n) 0)

/-- The ports among the state elements, by id (R151). -/
def elementPorts : List Nat :=
  List.range 0x80 ++ (List.range 7).map (· + 0x81) ++ [0x88, 0x89, 0x8A] ++ (List.range 10).map (· + 0x90)
    ++ (List.range 16).map (· + 0xA0) ++ [0xB1, 0xB2, 0xB3] ++ operandPorts.map Prod.fst ++ interlockedPorts
    ++ [0x383, 0x384]

/-- STATE of a core with a retired-bundle count (R151). -/
def State.stateSig (s : State) (c retired : Nat) : Word :=
  let k := s.core c
  let ports := elementPorts.foldl (fun x p => x ^^^ elementCrc p (k.port p)) 0
  let reaches := (List.range 16).foldl (fun x n => x ^^^ elementCrc (0x1100 + n) (s.reach c k.host n)) 0
  let patches := (List.range 8).foldl (fun x n => x ^^^ elementCrc (0x1200 + n) (s.coreCsr c (CST_CPATCH c n))) 0
  ports ^^^ reaches ^^^ patches ^^^ elementCrc 0x8C k.status ^^^ elementCrc 0x1001 k.repeatWord
    ^^^ elementCrc 0x1002 k.poisonWord ^^^ elementCrc 0x1003 (Word.ofNat retired)
    ^^^ elementCrc 0x1110 (s.coreCsr c (XLT_CTX c))

/-- OUT of an interval's entries (R151). -/
def outSig (l : List StoreEnt) : Word := crc64 (l.flatMap StoreEnt.record)

/-! Group state -/

/-- A group's STATE changes: EVENT sets, and line 13 of the core that NOTIFY names (R165). -/
def State.setGState (s : State) (g st : Nat) : State :=
  if s.gstate g = st then s
  else
    let s := s.setFs (TWN_GSTAT g) [(TWN_GSTAT.STATE, st), (TWN_GSTAT.EVENT, 1)]
    if s.flag TWN_CFG TWN_CFG.NOTIFY_EN && decide (s.fld TWN_CFG TWN_CFG.NOTIFY < 80) then
      s.setLine (s.fld TWN_CFG TWN_CFG.NOTIFY) 13
    else s

/-- The entries that wait in a core's queue go to another core's, which performs them. -/
def State.moveQueue (s : State) (a b : Nat) : State :=
  if a = b then s
  else (s.modCore b (fun k => { k with sb := (s.core a).sb ++ k.sb })).modCore a (fun k => { k with sb := [] })

/-- The members of a group set, in order: GCFG, each core's CSTATE, and their intervals; what the group has released and not yet
performed goes with its leading member (R146, R164). -/
def State.setMembers (s : State) (g : Nat) (l : List (Nat × Member)) : State :=
  let old := s.memberCore g 0
  let s := if old = 0x7F then s else s.moveQueue old (((l.head?).map Prod.fst).getD old)
  let at? (i : Nat) : Nat := ((l[i]?).map Prod.fst).getD 0x7F
  let s := s.setFs (TWN_GCFG g) [(TWN_GCFG.M0, at? 0), (TWN_GCFG.M1, at? 1), (TWN_GCFG.M2, at? 2)]
  let s := (l.zipIdx).foldl (fun s e => s.setFs (TWN_CSTATE e.1.1)
    [(TWN_CSTATE.ROLE, roleMember), (TWN_CSTATE.GROUP, g), (TWN_CSTATE.INDEX, e.2)]) s
  s.setGroup g { s.group g with members := (l.zipIdx).map (fun e => (e.2, e.1.2)) }

/-- The members with their cores, by index. -/
def State.memberList (s : State) (g : Nat) : List (Nat × Member) :=
  (s.memberIdx g).map (fun i => (s.memberCore g i, (s.group g).members.get Member.reset i))

/-- What a checkpoint keeps of a core. -/
def Core.shadow (k : Core) : Shadow := ⟨k.arch, k.ctraps, k.held⟩

/-- A core set to a checkpoint: nothing in flight. -/
def Core.restore (k : Core) (w : Shadow) : Core :=
  { k with arch := w.arch, ctraps := w.ctraps, held := w.held, skip := 0, returning := false, inflight := [], hidden := [], awaits := [], stall := none,
           exc := none, async := false, emu := none, latVal := [], prefGone := false, walked := none, fences := [], cmq := [],
           invq := [], latFence := 0, poisonAt := [], reads := [], kept := [] }

/-- A member at a checkpoint. -/
def Member.fresh (m : Member) : Member :=
  { m with retired := 0, entries := 0, outs := [], inputs := [], loads := [], closed := [], taken := false, takes := false }

/-! Closing an interval (R147, R150) -/

/-- The member may close its interval now: where another member closed it, else the leading member alone, and only
with every earlier interval confirmed (R146, R147). -/
def Group.mayClose (g : Group) (i : Nat) : Bool :=
  let m := g.members.get Member.reset i
  match g.ahead i with
  | some iv => m.retired == iv.count
  | none => i == 0 && m.closed.isEmpty

/-- The access width of a boundary request, in bytes (R75, R151): 8 where it makes no access of its own width (log entry 26). -/
def BoundaryReq.width (r : BoundaryReq) : Nat :=
  if unitOf r.port = 0x200 || unitOf r.port = 0x240 then
    match r.port % 0x40 with
    | 0x10 | 0x11 => 1
    | 0x12 | 0x13 => 2
    | 0x14 | 0x15 => 4
    | _ => 8
  else if r.port = 0x3AD then 16 else 8

/-- A member closes its interval at a checkpoint, with the boundary request that its next bundle makes as the last record of
OUT (R150 steps 1 to 4, R156). The checkpoint holds every result; the member's own reads go on to see them by issue distance
(R154). -/
def State.closeInterval (s : State) (g i : Nat) (req : Option BoundaryReq) : State :=
  let c := s.memberCore g i
  let k := (s.core c).quietOps false
  let s := s.setCore c k
  let gr := s.group g
  let m := gr.members.get Member.reset i
  let rec6 : List StoreEnt := match req with | some r => [⟨6, r.addr, r.width, r.b, false⟩] | none => []
  let iv : Interval := ⟨m.retired, m.entries, (s.setCore c k.revealAll).stateSig c m.retired, outSig (m.outs ++ rec6), m.outs,
    m.inputs, m.loads, k.revealAll.shadow, req⟩
  let m := { m.fresh with closed := m.closed ++ [iv] }
  s.setGroup g { gr with members := gr.members.put i m }

/-! Rollback and comparing (R157, R158, R159) -/

/-- Every member goes back to the last confirmed checkpoint: delay entries discarded, L1I, L1D and sump invalidated
(R157, R158). -/
def State.rollback (s : State) (g : Nat) : State :=
  let gr := s.group g
  match gr.shadow with
  | none => s
  | some w =>
    let s := (s.memberIdx g).foldl (fun s i =>
      s.modCore (s.memberCore g i) (fun k => { (k.restore w).dropL1All with
        cmq := k.cmq.filter (fun e => decide (0 < e.barrier) && decide (e.barrier ≤ gr.confirmed))
        invq := k.invq.filter (fun e => decide (0 < e.barrier) && decide (e.barrier ≤ gr.confirmed)) })) s
    s.setGroup g { gr with members := gr.members.mapv Member.fresh, agreed := false }

/-- A command of TWN_CMD ends with a RESULT (R165). -/
def State.endTwn (s : State) (result : Nat) : State :=
  ((s.setFs TWN_CMDSTAT [(TWN_CMDSTAT.BUSY, 0), (TWN_CMDSTAT.DONE, 1), (TWN_CMDSTAT.RESULT, result)]).unitBoundary
    TWN_CMD 0).unitBoundary TWN_CMDARG 0

/-- A waiting command of the host, not a spare join. -/
def TwnCmd.isHost : TwnCmd → Bool
  | .join _ _ => false
  | _ => true

/-- What waits for the group's next checkpoint is given up: a command of the host ends ABORTED (R165, R166). -/
def State.dropCmd (s : State) (g : Nat) : State :=
  let gr := s.group g
  let s := s.setGroup g { gr with cmd := none }
  match gr.cmd with
  | some x => if x.isHost then s.endTwn 0x07 else s
  | none => s

/-- A miscompare, however found: counted, reported unless the inputs diverged, and the attempt of R157. A command of the host that waits for a
confirmed checkpoint ends ABORTED where the group becomes DIVERGED (the spec does not say; DESIGN CHOICE). -/
def State.miscompare (s : State) (g : Nat) (inputDiv : Bool) (pinned : List (Nat × Word)) : State :=
  let gr := s.group g
  let s := if inputDiv then s.bump (TWN_GCNT g) TWN_GCNT.INPUTDIV 1
    else (s.bump (TWN_GCNT g) TWN_GCNT.MISCOMPARES 1).fault0 0x10 (mstCore (s.memberCore g 0)) accNone
  let n := gr.attempts + 1
  let s := s.rollback g
  let s := s.setGroup g { s.group g with attempts := n, pinned := if gr.attempts = 0 then pinned else gr.pinned }
  if n = 1 then s
  else if n = 2 then
    (s.setF (TWN_GSTAT g) TWN_GSTAT.PINNED 1).bump (TWN_GCNT g) TWN_GCNT.FORWARDED 1
  else
    let s := ((s.dropCmd g).setF (TWN_GSTAT g) TWN_GSTAT.PINNED 0).setGState g gDiverged
    let s := s.setGroup g { s.group g with attempts := 0, pinned := [] }
    s.fault0 0x18 mstNone accNone

/-- The members that are compared: all but one being refreshed (R159). -/
def State.voters (s : State) (g : Nat) : List Nat :=
  (s.memberIdx g).filter (fun i => (s.group g).refresh != some i)

/-- The oldest closed interval of a member. -/
def State.oldest (s : State) (g i : Nat) : Option Interval := ((s.group g).members.get Member.reset i).closed.head?

/-- Two members' oldest intervals have equal signatures. -/
def State.sigEq (s : State) (g i j : Nat) : Bool :=
  match s.oldest g i, s.oldest g j with
  | some a, some b => a.sigState == b.sigState && a.sigOut == b.sigOut
  | _, _ => false

/-- The member that two others outvote (R159). -/
def State.oddMember (s : State) (g : Nat) : Option Nat :=
  if s.sigEq g 0 1 then some 2 else if s.sigEq g 0 2 then some 1 else if s.sigEq g 1 2 then some 0 else none

/-- A member is outvoted: the majority goes on, the odd member trails last and awaits its refresh (R159). It takes the last index, and
the others keep their order; R159 does not say which indices they have then (DESIGN CHOICE). -/
def State.outvote (s : State) (g odd : Nat) : State :=
  let c := s.memberCore g odd
  let l := s.memberList g
  let s := s.modCore c Core.dropL1All
  let s := s.setMembers g (l.filter (fun e => e.1 != c) ++ [(c, Member.reset)])
  let s := s.setGroup g { s.group g with agreed := true, refresh := some 2 }
  let s := (s.bump (TWN_GCNT g) TWN_GCNT.OUTVOTES 1).setGState g gDegraded
  s.fault0 0x14 (mstCore c) accNone

/-- The checker compares the oldest interval (R150 step 5, R157, R159). -/
def State.compareGroup (s : State) (g : Nat) : State :=
  let v := s.voters g
  if s.guarded g && decide (2 ≤ v.length) && v.all (fun i => (s.oldest g i).isSome) && !(s.group g).agreed then
    if v.all (fun i => s.sigEq g (v.headD 0) i) then s.setGroup g { s.group g with agreed := true }
    else
      match (if v.length = 3 then s.oddMember g else none) with
      | some o => s.outvote g o
      | none =>
        let ins (i : Nat) : List (Nat × Word) := ((s.oldest g i).map Interval.inputs).getD []
        s.miscompare g (!v.all (fun i => ins i == ins (v.headD 0))) (ins (v.headD 0))
  else s

/-- SIGNATURE_COMPARE (R150, R157, R159). -/
def execSignatureCompare (g : Fin 36) (s : State) : Host.Outcome State Fault Refusal := .next (s.compareGroup g.val)

/-- Entries released to the leading member's queue: those of the interval but the ones already released. -/
def State.release (s : State) (c : Nat) (l : List StoreEnt) : State :=
  s.modCore c (fun k => { k with sb := k.sb ++ l })

/-- The inputs that the leading member has recorded in the group's oldest interval, closed or open (R157). -/
def State.leadInputs (s : State) (g : Nat) : List (Nat × Word) :=
  ((s.oldest g 0).map Interval.inputs).getD ((s.group g).members.get Member.reset 0).inputs

/-- DELAY_REGISTER_PARITY_ERROR (R160): handled as a miscompare; found during release, the `n` entries before the bad
one stay released. -/
def execDelayRegisterParityError (g : Fin 36) (n : Fin 64) (s : State) : Host.Outcome State Fault Refusal :=
  if s.guarded g.val then
    let gr := s.group g.val
    let s := if gr.agreed then
        let l := (((s.oldest g.val 0).map Interval.outs).getD []).drop gr.released
        let s := s.release (s.memberCore g.val 0) (l.take n.val)
        s.setGroup g.val { s.group g.val with released := gr.released + (l.take n.val).length }
      else s
    .next (s.miscompare g.val false (s.leadInputs g.val))
  else .next s

/-! Writes that wait for a checkpoint (R140, R205) -/

/-- The waiting writes that a test picks are in force. -/
def State.applyWaiting (s : State) (g : Nat) (p : Nat × Nat × Word → Bool) : State :=
  let gr := s.group g
  s.setGroup g { gr with later := gr.later.filter (fun e => !p e) }

/-- Every waiting write of a group is in force. -/
def State.applyAll (s : State) (g : Nat) : State := s.setGroup g { s.group g with later := [], ixch := [] }

/-- Lines filled in confirmed intervals may be victims again (R149). -/
def Core.unbar (k : Core) (upTo : Nat) : Core :=
  { k with l2 := k.l2.map (fun e => (e.1, if e.2.barred ≤ upTo then { e.2 with barred := 0 } else e.2)) }

/-- No line is barred in a core whose outputs wait no more. -/
def Core.unbarAll (k : Core) : Core := { k with l2 := k.l2.mapv (fun l => { l with barred := 0 }) }

/-! Leaving and joining (R164, R166, R167) -/

/-- The group's timers and pending lines copied into a core that leaves it (R168). -/
def State.leave (s : State) (g c : Nat) : State :=
  let gr := s.group g
  s.modCore c (fun k => ((k.setPort 0x8E gr.tmr0).setPort 0x8F gr.tmr1).setPort 0xB0 gr.ipend)

/-- A core starts or is released at ADDR in host class (R166); pc is 32-byte aligned (R29). -/
def Core.startAt (k : Core) (a : Word) : Core :=
  let k := { k with stall := none, exc := none, failed := false, reads := [], kept := [], walked := none, skip := 0, returning := false }
  ((k.setPort 0x88 (a &&& ~~~ (0x1F : Word))).setPort 0x8C (setBit (k.port 0x8C) 16 true)).setPort 0xAF (setBit (k.port 0xAF) 0 false)

/-- A free group slot: members, mode and checker gone. -/
def State.freeSlot (s : State) (g : Nat) : State :=
  let s := s.setFs (TWN_GCFG g) [(TWN_GCFG.M0, 0x7F), (TWN_GCFG.M1, 0x7F), (TWN_GCFG.M2, 0x7F), (TWN_GCFG.MODE, 0),
    (TWN_GCFG.CHECKER, 0xFF)]
  (s.setGroup g Group.reset).setGState g gFree

/-- A core made SPLIT (R145). -/
def State.makeSplit (s : State) (c : Nat) : State :=
  s.setFs (TWN_CSTATE c) [(TWN_CSTATE.ROLE, roleSplit), (TWN_CSTATE.GROUP, 0), (TWN_CSTATE.INDEX, 0)]

/-- A checker serves a group (R144). -/
def State.checkerBusy (s : State) (k : Nat) : Bool :=
  (List.range 36).any (fun g => s.fld (TWN_GCFG g) TWN_GCFG.CHECKER == k)

/-- The spare checkers left, in the order in which they are taken: the last CHECKERS of the four that have not failed (R162). -/
def State.spareCheckers (s : State) : List Nat :=
  let l := [36, 37, 38, 39].filter (fun k => !s.chkRetired.contains k)
  l.drop (l.length - s.fld SPR_LEFT SPR_LEFT.CHECKERS)

/-- A checker that is free: of the 36 for service and the spares already brought in (R144, R162). -/
def State.freeChecker (s : State) : Option Nat :=
  firstIdx 40 (fun k => !s.chkRetired.contains k && !s.checkerBusy k && !s.spareCheckers.contains k)

/-- The elements of R151 that lie in CSRs, as they are in force in one core, copied to another (R140, R167). -/
def State.copyContext (s : State) (src dst : Nat) : State :=
  let copy (s : State) (a : Nat) : State := s.wr (regOfCore a dst) (s.coreCsr src a)
  let s := (List.range 16).foldl (fun s n => copy (copy s (XLT_GREACH src n)) (XLT_HREACH src n)) s
  let s := (List.range 8).foldl (fun s n => copy s (CST_CPATCH src n)) s
  (copy s (XLT_CTX src)).ctxBoundary dst

/-- The valid L2 lines of the source copied to the joining core (R167 step 3). -/
def State.copyL2 (s : State) (src dst : Nat) : State :=
  ((s.core src).l2.values.filter (fun l => l.st == .s || l.st == .e || l.st == .m)).foldl (fun s l =>
    ((s.snoopRead l.line none).installL2 dst l.line .s).1) s

/-- A core receives caches and every element of R151 from a source at its checkpoint (R167 steps 2 to 5). -/
def State.copyCore (s : State) (src dst : Nat) : State :=
  let k := (s.core src).quiet false
  let k := k.dirtyLines.foldl Core.cleanL1 k
  let s := (s.setCore src k).setCore dst ({ (s.core dst).restore k.shadow with failed := false, dist := k.dist }).dropCaches
  (s.copyL2 src dst).copyContext src dst

/-- A group formed, joined or resumed at a checkpoint of its leading member: every member fresh, the shadow copy taken; what the
checker holds for the bundle at that checkpoint, and what it has released of the interval that follows, stays (R156, R160). -/
def State.atCheckpoint (s : State) (g : Nat) : State :=
  let gr := s.group g
  s.setGroup g { gr with members := gr.members.mapv Member.fresh, shadow := some (s.core (s.memberCore g 0)).shadow,
                         agreed := false, attempts := 0, pinned := [], refresh := none }

/-- The members that run: not those that a group without a checker has parked (R162). -/
def State.liveList (s : State) (g : Nat) : List (Nat × Member) := (s.memberList g).filter (fun e => s.role e.1 == roleMember)

/-- The parked members of a group leave it and stay parked. -/
def State.freeParked (s : State) (g : Nat) : State :=
  ((s.memberList g).filter (fun e => s.role e.1 == roleParked)).foldl (fun s e =>
    s.setFs (TWN_CSTATE e.1) [(TWN_CSTATE.GROUP, 0), (TWN_CSTATE.INDEX, 0)]) s
/-- The spare of the failed core's cluster is to join the group (R164). -/
def State.startJoin (s : State) (g c : Nat) : State :=
  match s.clusterSpare c with
  | some sp => s.setGroup g { s.group g with joining := (s.group g).joining.filter (· != sp) ++ [sp] }
  | none => s.exhausted

/-- What the checker holds that a member has still to take, once its intervals are no longer compared (R156). -/
def Group.heldLeft (g : Group) (m : Member) : Table HeldRes :=
  if m.taken || m.closed.any (fun iv => decide (0 < iv.count)) then [] else g.held.mapv (fun h => { h with epoch := g.confirmed })

/-- A member whose intervals are no longer compared goes on: its outputs but those already released leave its delay registers, and those
released that it has not come to again are not performed twice (R160, R164). -/
def State.outAlone (s : State) (c : Nat) (m : Member) (released : Nat) : State :=
  (s.release c (m.unconfirmed.drop released)).modCore c (fun k => { k.unbarAll with skip := released - m.unconfirmed.length })

/-- A member has failed (R163, R164): retired, the survivors go on UNGUARDED or DEGRADED, a waiting command is ABORTED,
and the cluster's spare is to join. The spec does not say what becomes of a STOPPED or DIVERGED group: it too goes on so, without
a START (DESIGN CHOICE). -/
def State.memberFailed (s : State) (g i : Nat) : State :=
  let c := s.memberCore g i
  let gr := s.group g
  let rest := (s.liveList g).filter (fun e => e.1 != c)
  let s := s.setFs (TWN_CSTATE c) [(TWN_CSTATE.ROLE, roleRetired), (TWN_CSTATE.GROUP, 0), (TWN_CSTATE.INDEX, 0)]
  let s := s.modCore c (fun k => { k with failed := false })
  let s := if rest.isEmpty then s.freeParked g else s.setMembers g rest
  let s := (s.setGroup g { s.group g with refresh := none }).dropCmd g
  match rest with
  | [] => s.freeSlot g
  | [(d, m)] =>
    let s := (s.applyAll g).outAlone d m gr.released
    let s := s.setGroup g { s.group g with members := [(0, m.fresh)], agreed := false, attempts := 0, released := 0,
                                           held := (s.group g).heldLeft m, pinned := [], request := none }
    ((s.setF (TWN_GSTAT g) TWN_GSTAT.PINNED 0).setGState g gUnguarded).startJoin g c
  | _ =>
    (s.setGState g gDegraded).startJoin g c

/-- MEMBER_HALT (R163, R164): a member halts, takes a CSTORE machine check, or has a severe fault reported for it. -/
def execMemberHalt (c : Fin 80) (s : State) : Host.Outcome State Fault Refusal :=
  match s.groupOf c.val with
  | some g => .next (s.memberFailed g (s.indexOf c.val))
  | none => .next s

/-- SIGNATURE_TIMEOUT (R163): no signature of a member within 4 µs of another member's, or, of the leading member, within 4 µs of
the others' reaching the end of the last interval it closed. The restore of a control-store word is not silence (R142). -/
def execSignatureTimeout (g : Fin 36) (i : Fin 3) (s : State) : Host.Outcome State Fault Refusal :=
  let gr := s.group g.val
  let n := (gr.members.get Member.reset i.val).closed.length
  let others := gr.members.filter (fun e => e.1 != i.val)
  let restoring := (s.rd (CST_MSAVE (s.memberCore g.val i.val) 0)).toNat / 0x10000 % 0x20 == 0x12
  if s.guarded g.val && (s.memberIdx g.val).contains i.val && !restoring
      && (others.any (fun e => decide (n < e.2.closed.length))
        || (i.val == 0 && !others.isEmpty && others.all (fun e => decide (n ≤ e.2.closed.length)))) then
    .next (s.memberFailed g.val i.val)
  else .next s

/-- A member takes the group's shadow copy (R159). -/
def State.refreshMember (s : State) (g i : Nat) (w : Shadow) : State :=
  let s := s.modCore (s.memberCore g i) (fun k => (k.restore w).dropL1All)
  s.setGroup g { s.group g with refresh := none, members := (s.group g).members.put i Member.reset }

/-- OUTVOTED_MEMBER_REFRESH (R159): the odd member receives the majority's shadow copy and rejoins as a trailing
member; a member whose source became severe is replaced instead. -/
def execOutvotedMemberRefresh (g : Fin 36) (s : State) : Host.Outcome State Fault Refusal :=
  let gr := s.group g.val
  match gr.refresh, gr.shadow with
  | some i, some w =>
    let c := s.memberCore g.val i
    if gr.agreed then .next s
    else if (s.core c).failed then .next (s.memberFailed g.val i)
    else
      let s := s.refreshMember g.val i w
      .next (s.setGState g.val (if (s.memberIdx g.val).length = 3 then gGuarded else gDegraded))
  | _, _ => .next s

/-- A group that has lost its last checker runs UNGUARDED (R162): the leading member's outputs are released, the others are
parked, and a waiting command of the host ends ABORTED (the spec does not say; DESIGN CHOICE). -/
def State.uncheck (s : State) (g : Nat) : State :=
  let s := s.setF (TWN_GCFG g) TWN_GCFG.CHECKER 0xFF
  if s.guarded g then
    let lead := s.memberCore g 0
    let m := (s.group g).members.get Member.reset 0
    let s := s.dropCmd g
    let s := s.outAlone lead m (s.group g).released
    let s := (s.memberIdx g).foldl (fun s i => s.modCore (s.memberCore g i) Core.unbarAll) s
    let s := ((s.memberIdx g).filter (· != 0)).foldl (fun s i => s.setRole (s.memberCore g i) roleParked) s
    let s := s.setGroup g { s.group g with members := (s.group g).members.mapv Member.fresh, agreed := false,
                                           held := (s.group g).heldLeft m,
                                           attempts := 0, released := 0, pinned := [], request := none,
                                           refresh := none }
    ((s.applyAll g).setF (TWN_GSTAT g) TWN_GSTAT.PINNED 0).setGState g gUnguarded
  else s

/-- CHECKER_FAULT (R162): the checker is retired; a spare that still works takes the place of one that serves a group, or the
group runs UNGUARDED. -/
def execCheckerFault (k : Fin 40) (s : State) : Host.Outcome State Fault Refusal :=
  if s.chkRetired.contains k.val then .next s
  else
    let idle := s.spareCheckers.contains k.val
    let s := s.fault0 0x1C mstNone accNone
    let s := { s with chkRetired := insertNat s.chkRetired k.val }
    let s := if idle then s.drop SPR_LEFT SPR_LEFT.CHECKERS else s
    match (List.range 36).find? (fun g => s.fld (TWN_GCFG g) TWN_GCFG.CHECKER == k.val) with
    | none => .next s
    | some g =>
      match s.spareCheckers with
      | n :: _ => .next (((s.drop SPR_LEFT SPR_LEFT.CHECKERS).repaired repChecker k.val).setF (TWN_GCFG g) TWN_GCFG.CHECKER n)
      | [] => .next (s.uncheck g).exhausted

/-- The spare joins a group behind its leading member, at a checkpoint (R167 steps 2 to 6): the copied state is compared, and copied
once more where it differs; a second difference gives the join up. -/
def State.joinNow (s : State) (g sp bad : Nat) : State :=
  let l := s.liveList g
  let s := s.copyCore (s.memberCore g 0) sp
  let s := s.setGroup g { s.group g with joining := (s.group g).joining.filter (· != sp) }
  if 2 ≤ bad then s.setGState g (if l.length = 1 then gUnguarded else gDegraded)
  else
    let s := s.setMembers g (l.map (fun e => (e.1, Member.reset)) ++ [(sp, Member.reset)])
    let full := l.length + 1 == s.fld (TWN_GCFG g) TWN_GCFG.MODE + 1
    ((s.atCheckpoint g).setGState g (if full then gGuarded else gDegraded)).spendCore
      (((List.range 10).map (fun i => sp / 10 * 10 + i)).find? (fun c => s.role c == roleRetired) |>.getD sp)

/-- SPARE_JOIN (R164, R167): the spare joins behind the survivor, unless a host command for the group stands or it has no checker
(R162). A survivor that runs UNGUARDED pauses at once, the members of a triad at their next confirmed checkpoint. -/
def execSpareJoin (g : Fin 36) (bad : Fin 3) (s : State) : Host.Outcome State Fault Refusal :=
  match (s.group g.val).joining with
  | [] => .next s
  | sp :: _ =>
    if (s.group g.val).cmd.isSome || s.role sp != roleSpare || s.fld (TWN_GCFG g.val) TWN_GCFG.CHECKER == 0xFF then .next s
    else if s.gstate g.val = gUnguarded then .next ((s.setGState g.val gChanging).joinNow g.val sp bad.val)
    else if s.gstate g.val = gDegraded then
      let s := s.setGState g.val gChanging
      .next (s.setGroup g.val { s.group g.val with cmd := some (.join sp bad.val) })
    else .next s

/-! The TWN commands (R165, R166) -/

/-- Every TWN command takes its operands from TWN_CMD and is ignored while BUSY. -/
def State.twnField (s : State) (f : Fld) : Nat := s.fldIn TWN_CMD 0 f

/-- The command is in progress. -/
def State.startTwn (s : State) : State := s.setF TWN_CMDSTAT TWN_CMDSTAT.BUSY 1

/-- MERGE-TWIN (R166, R167): the second difference of the copied state ends it ABORTED. -/
def State.mergeTwin (s : State) (bad : Nat) : State :=
  let g := s.twnField TWN_CMD.GROUP
  let c := s.twnField TWN_CMD.CORE
  let l := s.twnField TWN_CMD.LEAD
  if 36 ≤ g || s.gstate g != gFree then s.endTwn 0x01
  else if 80 ≤ l || 80 ≤ c || s.role l != roleSplit || s.role c != roleParked then s.endTwn 0x02
  else if l / 10 = c / 10 then s.endTwn 0x03
  else
    match s.freeChecker with
    | none => s.endTwn 0x04
    | some k =>
      let s := s.setGState g gChanging
      let s := s.copyCore l c
      if 2 ≤ bad then (s.setGState g gFree).endTwn 0x07
      else
      let lc := s.core l
      let s := s.setMembers g [(l, Member.reset), (c, Member.reset)]
      let s := s.setFs (TWN_GCFG g) [(TWN_GCFG.MODE, 1), (TWN_GCFG.CHECKER, k)]
      let s := s.setGroup g { s.group g with tmr0 := lc.port 0x8E, tmr1 := lc.port 0x8F, ipend := lc.port 0xB0 }
      ((s.atCheckpoint g).setGState g gGuarded).endTwn 0

/-- MERGE-TRIAD accepted: it completes at the twin's next confirmed checkpoint (R166, R167). -/
def State.mergeTriad (s : State) (bad : Nat) : State :=
  let g := s.twnField TWN_CMD.GROUP
  let c := s.twnField TWN_CMD.CORE
  if 36 ≤ g || s.gstate g != gGuarded || s.fld (TWN_GCFG g) TWN_GCFG.MODE != 1 || (s.group g).cmd.isSome then
    s.endTwn 0x01
  else if 80 ≤ c || s.role c != roleParked then s.endTwn 0x02
  else if (s.memberIdx g).any (fun i => s.memberCore g i / 10 == c / 10) then s.endTwn 0x03
  else
    let s := (s.startTwn).setGState g gChanging
    s.setGroup g { s.group g with cmd := some (.triad c bad) }

/-- The third member joins (R167 steps 2 to 6). -/
def State.triadNow (s : State) (g c bad : Nat) : State :=
  let l := s.memberList g
  let s := s.copyCore (s.memberCore g 0) c
  if 2 ≤ bad then (s.setGState g gGuarded).endTwn 0x07
  else
  let s := s.setMembers g (l.map (fun e => (e.1, Member.reset)) ++ [(c, Member.reset)])
  let s := s.setF (TWN_GCFG g) TWN_GCFG.MODE 2
  ((s.atCheckpoint g).setGState g gGuarded).endTwn 0

/-- A member goes on alone: the group's timers and lines, and what the checker holds for its next bundle (R156, R168). -/
def State.goAlone (s : State) (g c : Nat) : State :=
  let gr := s.group g
  let held := if (gr.members.get Member.reset (s.indexOf c)).taken then [] else gr.held
  ((s.leave g c).modCore c (fun k => { k.unbarAll with kept := held })).makeSplit c

/-- A member released at a checkpoint: it starts at ADDR, the others go on (R166, R168); parked members of a group without a
checker leave it parked. -/
def State.splitNow (s : State) (g c : Nat) (a : Word) : State :=
  let s := s.applyAll g
  let rest := (s.liveList g).filter (fun e => e.1 != c)
  let s := match rest with | (d, _) :: _ => s.moveQueue c d | [] => s
  let s := (s.leave g c).modCore c (fun k => k.unbarAll.startAt a)
  let s := (s.freeParked g).makeSplit c
  match rest with
  | [] => (s.freeSlot g).endTwn 0
  | [(d, _)] => ((s.goAlone g d).freeSlot g).endTwn 0
  | _ =>
    let s := s.setMembers g (rest.map (fun e => (e.1, Member.reset)))
    let s := s.setF (TWN_GCFG g) TWN_GCFG.MODE 1
    ((s.atCheckpoint g).setGState g gGuarded).endTwn 0

/-- SPLIT accepted: of a guarded group at its next confirmed checkpoint, of an unguarded one after the wait of R82 (R166, R168). -/
def State.twnSplit (s : State) : State :=
  let g := s.twnField TWN_CMD.GROUP
  let c := s.twnField TWN_CMD.CORE
  let a := s.inForce TWN_CMDARG 0
  if 36 ≤ g || (s.gstate g != gGuarded && s.gstate g != gDegraded && s.gstate g != gUnguarded)
      || (s.group g).cmd.isSome then s.endTwn 0x01
  else if 80 ≤ c || s.groupOf c != some g then s.endTwn 0x02
  else if a.toNat % 32 != 0 then s.endTwn 0x05
  else if s.gstate g = gUnguarded then (s.modCore c (fun k => k.quiet false)).splitNow g c a
  else
    let s := (s.startTwn).setGState g gChanging
    s.setGroup g { s.group g with cmd := some (.split c a) }

/-- PARK (R166): a SPLIT core stops at its next bundle boundary after the wait of R82. -/
def State.twnPark (s : State) : State :=
  let c := s.twnField TWN_CMD.CORE
  if 80 ≤ c || s.role c != roleSplit then s.endTwn 0x02
  else (((s.modCore c (fun k => k.quiet false)).ctxBoundary c).setRole c roleParked).endTwn 0

/-- STOP accepted: the group halts at its next confirmed checkpoint (R166). -/
def State.twnStop (s : State) : State :=
  let g := s.twnField TWN_CMD.GROUP
  if 36 ≤ g || (s.gstate g != gGuarded && s.gstate g != gDegraded && s.gstate g != gUnguarded)
      || (s.group g).cmd.isSome then s.endTwn 0x01
  else if s.gstate g = gUnguarded then
    let s := s.modCore (s.memberCore g 0) (fun k => k.quiet false)
    ((s.atCheckpoint g).setGState g gStopped).endTwn 0
  else
    let s := s.startTwn
    s.setGroup g { s.group g with cmd := some .stop }

/-- A STOPPED or DIVERGED group resumes from its last confirmed checkpoint; one without a checker moves onto one, and
its parked members take the leading member's state (R162, R166). -/
def State.resumeGroup (s : State) (g : Nat) : State :=
  match (if s.fld (TWN_GCFG g) TWN_GCFG.CHECKER = 0xFF then s.freeChecker
         else some (s.fld (TWN_GCFG g) TWN_GCFG.CHECKER)) with
  | none => s.endTwn 0x04
  | some k =>
    let s := s.setF (TWN_GCFG g) TWN_GCFG.CHECKER k
    let s := s.rollback g
    let lead := s.memberCore g 0
    let s := (s.memberIdx g).foldl (fun s i =>
      let c := s.memberCore g i
      if s.role c = roleParked then (s.copyCore lead c).setRole c roleMember else s) s
    let n := (s.memberIdx g).length
    let full := n == s.fld (TWN_GCFG g) TWN_GCFG.MODE + 1
    let s := s.atCheckpoint g
    (s.setGState g (if n = 1 then gUnguarded else if full then gGuarded else gDegraded)).endTwn 0

/-- START (R166): the named group if it is STOPPED or DIVERGED, else the PARKED core at ADDR (log entry 12). -/
def State.twnStart (s : State) : State :=
  let g := s.twnField TWN_CMD.GROUP
  let c := s.twnField TWN_CMD.CORE
  let a := s.inForce TWN_CMDARG 0
  if decide (g < 36) && (s.gstate g == gStopped || s.gstate g == gDiverged) then s.resumeGroup g
  else if 80 ≤ c || s.role c != roleParked then s.endTwn 0x02
  else if a.toNat % 32 != 0 then s.endTwn 0x05
  else ((s.modCore c (fun k => k.startAt a)).setRole c roleSplit).endTwn 0

/-- A command waiting for the confirmed checkpoint the group has reached is carried out (R166), once every member has the state of that
checkpoint (R159): a trap that the leading member has entered since is no part of it. -/
def State.finishTwn (s : State) (g : Nat) : State :=
  let gr := s.group g
  let lead := gr.members.get Member.reset 0
  if gr.members.all (fun e => e.2.closed.isEmpty || gr.refresh == some e.1) && lead.retired == 0 && lead.entries == 0 then
    let s := s.setGroup g { gr with cmd := none }
    let s := match gr.cmd, gr.refresh, gr.shadow with
      | some _, some i, some w => s.refreshMember g i w
      | _, _, _ => s
    match gr.cmd with
    | none => s
    | some .stop => ((s.atCheckpoint g).setGState g gStopped).endTwn 0
    | some (.split c a) => s.splitNow g c a
    | some (.triad c bad) => s.triadNow g c bad
    | some (.join c bad) => s.joinNow g c bad
  else s

/-- The oldest interval is confirmed: the leading member's entries are released, the others' discarded, the shadow copy
moves on (R148, R150 step 6). -/
def State.confirm (s : State) (g : Nat) : State :=
  let gr := s.group g
  match s.oldest g 0 with
  | none => s
  | some iv =>
    let s := s.release (s.memberCore g 0) (iv.outs.drop gr.released)
    let s := (s.memberIdx g).foldl (fun s i => s.modCore (s.memberCore g i) (fun k => k.unbar (gr.confirmed + 1))) s
    let s := s.setGroup g { gr with
      members := gr.members.mapv (fun m => { m with closed := m.closed.drop 1 }), shadow := some iv.shadow,
      held := if iv.count = 0 then gr.held.mapv (fun h => { h with epoch := gr.confirmed + 1 }) else [],
      request := if iv.request.isSome then iv.request else gr.request,
      later := gr.later.filter (fun e => decide (gr.confirmed + 1 < e.1)),
      ixch := gr.ixch.filter (fun e => decide (gr.confirmed + 1 < e.1)),
      confirmed := gr.confirmed + 1, agreed := false, attempts := 0, released := 0, pinned := [] }
    (s.setF (TWN_GSTAT g) TWN_GSTAT.PINNED 0).finishTwn g

/-! Commands of the table -/

/-- MERGE_TWIN: `bad` comparisons of the copied state fail (R167 step 5). -/
def execMergeTwin (bad : Fin 3) (s : State) : Host.Outcome State Fault Refusal :=
  .next (if s.flag TWN_CMDSTAT TWN_CMDSTAT.BUSY then s else s.mergeTwin bad.val)

/-- MERGE_TRIAD: `bad` comparisons of the copied state will fail. -/
def execMergeTriad (bad : Fin 3) (s : State) : Host.Outcome State Fault Refusal :=
  .next (if s.flag TWN_CMDSTAT TWN_CMDSTAT.BUSY then s else s.mergeTriad bad.val)

/-- TWN_SPLIT. -/
def execTwnSplit (s : State) : Host.Outcome State Fault Refusal :=
  .next (if s.flag TWN_CMDSTAT TWN_CMDSTAT.BUSY then s else s.twnSplit)

/-- TWN_PARK. -/
def execTwnPark (s : State) : Host.Outcome State Fault Refusal :=
  .next (if s.flag TWN_CMDSTAT TWN_CMDSTAT.BUSY then s else s.twnPark)

/-- TWN_STOP. -/
def execTwnStop (s : State) : Host.Outcome State Fault Refusal :=
  .next (if s.flag TWN_CMDSTAT TWN_CMDSTAT.BUSY then s else s.twnStop)

/-- TWN_START. -/
def execTwnStart (s : State) : Host.Outcome State Fault Refusal :=
  .next (if s.flag TWN_CMDSTAT TWN_CMDSTAT.BUSY then s else s.twnStart)

/-- TWN_BAD_OP: OP 7 ends BAD-OP (R165). -/
def execTwnBadOp (s : State) : Host.Outcome State Fault Refusal :=
  .next (if s.flag TWN_CMDSTAT TWN_CMDSTAT.BUSY then s else s.endTwn 0x06)

/-- GO in TWN_CMD: the command OP names. OP 0, none, ends at once with DONE and RESULT 0x00; the spec gives it no result
(DESIGN CHOICE). -/
def State.goTwn (s : State) : State :=
  if s.flag TWN_CMDSTAT TWN_CMDSTAT.BUSY then s
  else match s.twnField TWN_CMD.OP with
    | 0 => s.endTwn 0
    | 1 => s.mergeTwin 0
    | 2 => s.mergeTriad 0
    | 3 => s.twnSplit
    | 4 => s.twnPark
    | 5 => s.twnStop
    | 6 => s.twnStart
    | _ => s.endTwn 0x06

end Sys2Proof.Machine
end

