-- ==== Sys2Proof/Machine/Deflate.lean ====
section
/-!
DEFINITION. Compression (15, R360-R367): the blocks of DEFLATE and the frames of GSF over an open choice of matches, block lengths and
dynamic codes, with the framing of each format. Every choice that is no choice the rules allow is replaced, so that the stream decodes to
its input whatever the choices are.
-/

namespace Sys2Proof.Machine
open Sys2Proof

/-! Codes (RFC 1951, 3.2) -/

/-- The bits of a number of n bits, least significant first. -/
def lowBits (n v : Nat) : List Bool := (List.range n).map v.testBit

/-- A symbol's code and its length, in a canonical code of the counts and symbols from a length on. -/
def symCode (sym : Nat) : List Nat → List Nat → Nat → Nat → Option (Nat × Nat)
  | [], _, _, _ => none
  | c :: cs, syms, first, len =>
    match firstIdx c (fun i => syms.getD i 0 == sym) with
    | some i => some (first + i, len)
    | none => symCode sym cs (syms.drop c) (2 * (first + c)) (len + 1)

/-- The bits of a symbol's code, the most significant first. -/
def Huff.codeOf (h : Huff) (sym : Nat) : Option (List Bool) :=
  (symCode sym h.count h.syms 0 1).map (fun p => (lowBits p.2 p.1).reverse)

/-- The length code of a match length 3-258, and the distance code of a distance. -/
def lenCode (n : Nat) : Nat := if n = 258 then 28 else (((List.range 28).filter (fun k => decide (lenBase k ≤ n))).getLast?).getD 0
def distCode (d : Nat) : Nat := (((List.range 40).filter (fun k => decide (distBase k ≤ d))).getLast?).getD 0

/-- A literal is a token of distance 0; the bits of a token. -/
def tokenBits (hl hd : Huff) (t : Nat × Nat) : Option (List Bool) :=
  if t.2 = 0 then hl.codeOf t.1
  else do
    let a ← hl.codeOf (257 + lenCode t.1)
    let b ← hd.codeOf (distCode t.2)
    some (a ++ lowBits (lenExtra (lenCode t.1)) (t.1 - lenBase (lenCode t.1)) ++ b
      ++ lowBits (distExtra (distCode t.2)) (t.2 - distBase (distCode t.2)))

/-- The bits of tokens and of the end of the block. -/
def codeBits (hl hd : Huff) : List (Nat × Nat) → Option (List Bool)
  | [] => hl.codeOf 256
  | t :: ts => do
    let a ← tokenBits hl hd t
    let b ← codeBits hl hd ts
    some (a ++ b)

/-! Matches (R361) -/

/-- The window of a format. -/
def windowOf (gsf : Bool) : Nat := if gsf then 1048576 else 32768

/-- Tokens carried out after the bytes seen, newest first: what they spell, newest first; none where one is no match the format allows. -/
def expandTokens (w : Nat) : List (Nat × Nat) → List Byte → Option (List Byte)
  | [], h => some h
  | (n, d) :: ts, h =>
    if d = 0 then expandTokens w ts (BitVec.ofNat 8 n :: h)
    else if n < 3 || decide (258 < n) || decide (w < d) || decide (h.length < d) then none
    else expandTokens w ts ((List.range n).foldl (fun h _ => h.getD (d - 1) 0 :: h) h)

/-- The tokens of a block: those the engine chooses, or literals where they do not spell it. -/
def tokensOf (gsf : Bool) (hist block : List Byte) : List (Nat × Nat) :=
  let t := Config.matchChoice gsf hist block
  if t.all (fun p => p.2 != 0 || decide (p.1 < 256)) && expandTokens (windowOf gsf) t hist == some (block.reverse ++ hist) then t
  else block.map (fun b => (b.toNat, 0))

/-! Blocks (R361, R363) -/

/-- The forms a block can take in coded form, fixed and dynamic: its bits after the header of 3. -/
def fixedBits (gsf : Bool) (ts : List (Nat × Nat)) : Option (List Bool) := codeBits fixedLit (fixedDist gsf) ts
def dynamicBits (gsf : Bool) (ts : List (Nat × Nat)) : Option (List Bool) :=
  let h := Config.codeChoice gsf ts
  match dynamicCodes gsf h with
  | some (hl, hd, []) => (codeBits hl hd ts).map (h ++ ·)
  | _ => none

/-- The shorter of two forms, the first on a tie. -/
def shorter (a b : Option (List Bool)) : Option (List Bool) :=
  match a, b with
  | some x, some y => if y.length < x.length then some y else some x
  | none, y => y
  | x, none => x

/-- The coded form of a block, with its header: BFINAL, then the type. -/
def codedBits (gsf fin : Bool) (ts : List (Nat × Nat)) : Option (List Bool) :=
  shorter ((fixedBits gsf ts).map ([fin, true, false] ++ ·)) ((dynamicBits gsf ts).map ([fin, false, true] ++ ·))

/-- A stored block at a place in the stream, and the two that a block of 65,536 bytes takes. -/
def storedBits (pos : Nat) (fin : Bool) (l : List Byte) : List Bool :=
  [fin, false, false] ++ List.replicate ((8 - (pos + 3) % 8) % 8) false
    ++ bitsOf (leBytes 2 l.length ++ leBytes 2 (65535 - l.length) ++ l)
def storedForm (pos : Nat) (fin : Bool) (l : List Byte) : List Bool :=
  if l.length ≤ 65535 then storedBits pos fin l
  else
    let a := storedBits pos false (l.take 65535)
    a ++ storedBits (pos + a.length) fin (l.drop 65535)

/-- A block in the shortest of its forms, stored on a tie (R361). -/
def blockBits (pos : Nat) (fin : Bool) (hist l : List Byte) : List Bool :=
  let st := storedForm pos fin l
  match codedBits false fin (tokensOf false hist l) with
  | some c => if c.length < st.length then c else st
  | none => st

/-- How many bytes the next block or frame takes: up to a limit, as the engine chooses, or as many as there are up to it. -/
def cutOf (plain gsf : Bool) (most : Nat) (hist rest : List Byte) : Nat :=
  let n := Config.blockChoice gsf hist rest
  min rest.length (if plain || n = 0 || most < n then most else n)

/-- The blocks of one segment, the last with BFINAL where no segment follows: the bits so far, and the data seen, newest first. -/
def segBits (plain last : Bool) : Nat → List Bool → List Byte → List Byte → List Bool × List Byte
  | 0, acc, hist, _ => (acc, hist)
  | f + 1, acc, hist, rest =>
    if rest.isEmpty && !last then (acc, hist)
    else
      let n := cutOf plain false (if plain then 65535 else 65536) hist rest
      let l := rest.take n
      let fin := last && decide (rest.length ≤ n)
      let b := if plain then storedForm acc.length fin l else blockBits acc.length fin hist l
      if rest.length ≤ n then (acc ++ b, l.reverse ++ hist)
      else segBits plain last f (acc ++ b) (l.reverse ++ hist) (rest.drop n)

/-- The bits of segments between flush points: one that is flushed ends at a byte, with an empty stored block where it has to (R366). -/
def deflateBits (plain : Bool) : List (List Byte) → List Bool → List Byte → List Bool
  | [], acc, _ => acc
  | l :: ls, acc, hist =>
    let r := segBits plain ls.isEmpty (l.length + 1) acc hist l
    if ls.isEmpty then r.1
    else deflateBits plain ls (if r.1.length % 8 = 0 then r.1 else r.1 ++ storedBits r.1.length false []) r.2

/-- The bytes of bits, padded with zeros. -/
def packBits : Nat → List Bool → List Byte
  | 0, _ => []
  | f + 1, l =>
    if l.isEmpty then []
    else BitVec.ofNat 8 ((l.take 8).foldr (fun b n => b2n b + 2 * n) 0) :: packBits f (l.drop 8)
def bytesOfBits (l : List Bool) : List Byte := packBits l.length l

/-! Frames (R362, R363, R366) -/

/-- A frame: CODED only where that is shorter than its data. -/
def frameBytes (plain last flushed : Bool) (hist l : List Byte) : List Byte :=
  let c := if plain then none else (codedBits true true (tokensOf true hist l)).map bytesOfBits
  let x : Nat × List Byte := match c with
    | some b => if b.length < l.length then (1, b) else (0, l)
    | none => (0, l)
  leBytes 4 (x.1 + b2n last * 4 + b2n flushed * 8 + x.2.length * 256) ++ leBytes 4 l.length ++ x.2

/-- The frames of one segment; a flushed one ends its last frame with FLUSHED = 1, the last segment with LAST = 1. -/
def segFrames (plain last : Bool) : Nat → List Byte → List Byte → List Byte → List Byte × List Byte
  | 0, acc, hist, _ => (acc, hist)
  | f + 1, acc, hist, rest =>
    if rest.isEmpty && !last then (acc, hist)
    else
      let n := cutOf plain true 65536 hist rest
      let l := rest.take n
      let fin := decide (rest.length ≤ n)
      let b := acc ++ frameBytes plain (last && fin) (!last && fin) hist l
      if fin then (b, l.reverse ++ hist) else segFrames plain last f b (l.reverse ++ hist) (rest.drop n)

/-- The frames of segments between flush points. -/
def gsfBytes (plain : Bool) : List (List Byte) → List Byte → List Byte → List Byte
  | [], acc, _ => acc
  | l :: ls, acc, hist =>
    let r := segFrames plain ls.isEmpty (l.length + 1) acc hist l
    gsfBytes plain ls r.1 r.2

/-! Streams (R361, R362, R364, R367) -/

/-- The body of a stream: its blocks or frames after the dictionary, of which DEFLATE uses the last 32 KiB; in stored form throughout where
the choices would pass the bound of R367. -/
def compressBody (fmt : Nat) (dict : List Byte) (segs : List (List Byte)) : List Byte :=
  let room := cmpBound fmt segs.flatten.length (segs.length - 1) - (if fmt = 3 then 16 else 18)
  let body (plain : Bool) : List Byte :=
    if fmt = 3 then gsfBytes plain segs [] dict.reverse else bytesOfBits (deflateBits plain segs [] (dict.reverse.take 32768))
  if (body false).length ≤ room then body false else body true

/-- The compressed stream of an input in segments between flush points, with the framing of R361 and R362. -/
def compress (fmt id : Nat) (dict : List Byte) (segs : List (List Byte)) : List Byte :=
  let l := segs.flatten
  let body := compressBody fmt dict segs
  match fmt with
  | 0 => body
  | 1 => (if id = 0 then [0x78, 0x9C] else [0x78, 0xBB] ++ beBytes 4 id) ++ body ++ beBytes 4 (adler32 l)
  | 2 => [0x1F, 0x8B, 0x08, 0, 0, 0, 0, 0, 0, 0xFF] ++ body ++ leBytes 4 (fcs32 l) ++ leBytes 4 l.length
  | _ => leBytes 4 0x01465347 ++ leBytes 4 id ++ body ++ leBytes 4 (crc32c l) ++ leBytes 4 l.length

end Sys2Proof.Machine
end

