-- ==== Sys2Proof/Machine/FlumeCipher.lean ====
section
/-!
DEFINITION. Flume descriptors of the cipher engine and the stilling basin (14, R351-R357).
-/

namespace Sys2Proof.Machine
open Sys2Proof Csr

/-- Bytes of a flume's block buffer (R351). -/
def State.fbuf (s : State) (l off n : Nat) : List Byte := (List.range n).map (fun j => s.flumeBuf.get 0 (l * 65536 + off + j))

/-- Bytes put into a flume's block buffer. -/
def State.fput (s : State) (l off : Nat) (d : List Byte) : State :=
  { s with flumeBuf := (d.zipIdx).foldl (fun t b => t.put (l * 65536 + off + b.2) b.1) s.flumeBuf }

/-- A descriptor as submitted (R351): its flume, OP and the four words; the bytes the frame program put into the block
buffer before it; the outcome of a sampled cross-check. -/
structure FlumeReq where
  flume : Nat
  w0 : Nat
  w1 : Nat
  w2 : Nat
  w3 : Nat
  fill : List (Nat × Byte)
  xchk : KeyRead
deriving DecidableEq, Repr

/-- Fields of a descriptor. -/
def FlumeReq.useH (q : FlumeReq) : Bool := q.w0.testBit 4
def FlumeReq.slot (q : FlumeReq) : Nat := bits q.w0 8 18
def FlumeReq.nblk (q : FlumeReq) : Nat := bits q.w0 32 13
def FlumeReq.src (q : FlumeReq) : Nat := bits q.w1 0 16
def FlumeReq.src2 (q : FlumeReq) : Nat := bits q.w1 16 16
def FlumeReq.dst (q : FlumeReq) : Nat := bits q.w1 32 16
def FlumeReq.txn (q : FlumeReq) : Nat := bits q.w3 0 22

/-- The zero fields of a descriptor are zero. -/
def FlumeReq.zeroOk (q : FlumeReq) : Bool :=
  bits q.w0 5 3 == 0 && bits q.w0 26 6 == 0 && bits q.w0 45 19 == 0 && bits q.w1 48 16 == 0

/-- A range of the block buffer is aligned and inside it. -/
def inBuf (off n : Nat) : Bool := off % 16 == 0 && decide (off + n ≤ 65536)

/-- The frame program's own writes to the block buffer take place. -/
def State.fill (s : State) (q : FlumeReq) : State :=
  { s with flumeBuf := q.fill.foldl (fun t b => t.put (q.flume * 65536 + b.1 % 65536) b.2) s.flumeBuf }

/-- The completion of a descriptor: status and blocks done (R351). -/
def State.cipDone (s : State) (q : FlumeReq) (status blocks : Nat) : State :=
  s.send (.cipherDone q.flume (status + blocks * 256))

/-- A sealed inbound transaction whose basin data is not to be released: granules wiped, FAILED 0x30 (R353, R356, R357). -/
def State.sealFail (s : State) (i status : Nat) : State :=
  let r := s.record i
  if r.unended && r.inbound && r.isSealed then ((((s.wipeBasin i).syncBasin).markBad i 0x30 status).tryEnd i) else s

/-- A refused descriptor: counted and completed; a transaction whose RXKEY or TXKEY it names fails (R353, R359). -/
def State.flumeRefuse (s : State) (q : FlumeReq) (status : Nat) : State :=
  let s := (s.bump CIP_CNT0 CIP_CNT0.REFUSED 1).cipDone q status 0
  let r := s.record q.txn
  let k := s.session r.session
  if status = cipEMPTY || status = cipDENIED then
    if r.inbound then (if k.rxkey == q.slot then s.sealFail q.txn status else s)
    else if r.unended && r.state != rACCEPTED && r.isSealed && k.txkey == q.slot then s.markBad q.txn 0x30 status
    else s
  else s

/-- The status of a descriptor's slot: KEY, FLUME use and the OP's use, and the OWNER of the session carrying TXN; a TXN that names no
record in use is carried by no session, and no owner is its allotment (R351). -/
def State.flumeSlot (s : State) (q : FlumeReq) (use : Nat) : Nat :=
  s.slotStatus q.slot (use + useFLUME)
    (some (if s.live.contains q.txn then (s.session (s.record q.txn).session).allot else 4096))

/-- The blocks of a range of the block buffer, as numbers. -/
def State.fblocks (s : State) (l off n : Nat) : List Nat := (List.range n).map (fun j => beNat (s.fbuf l (off + 16 * j) 16))

/-- ENC or DEC of NBLK blocks. -/
def State.flumeAes (s : State) (q : FlumeReq) (op : CipOp) : State :=
  let s := s.fill q
  if !q.zeroOk || q.useH || q.nblk == 0 || decide (4096 < q.nblk) || !inBuf q.src (16 * q.nblk) || !inBuf q.dst (16 * q.nblk)
  then s.flumeRefuse q cipBADARG
  else
    let s := if s.wiping then s else s.keyRead q.slot q.xchk.ecc
    let st := s.flumeSlot q (match op with | .enc => useENC | .dec => useDEC)
    if st != cipOK then s.flumeRefuse q st
    else
      let out := (s.fblocks q.flume q.src q.nblk).map ((s.slot q.slot).run op)
      let s := s.fput q.flume q.dst (out.flatMap (beBytes 16))
      ((s.bump CIP_CNT0 CIP_CNT0.BLOCKS q.nblk).crossCheck q.xchk).cipDone q cipOK q.nblk

/-- GMUL of NBLK pairs: the second factors are the slot's H with USEH. -/
def State.flumeGmul (s : State) (q : FlumeReq) : State :=
  let s := s.fill q
  let n := q.nblk
  if !q.zeroOk || n == 0 || decide (4096 < n) || !inBuf q.src (16 * n) || !inBuf q.dst (16 * n)
      || (!q.useH && !inBuf q.src2 (16 * n)) then s.flumeRefuse q cipBADARG
  else
    let s := if q.useH && !s.wiping then s.keyRead q.slot q.xchk.ecc else s
    let st := if q.useH then s.flumeSlot q 0 else cipOK
    if st != cipOK then s.flumeRefuse q st
    else
      let second := if q.useH then List.replicate n (s.slot q.slot).h else s.fblocks q.flume q.src2 n
      let out := List.zipWith ghashMul (s.fblocks q.flume q.src n) second
      (s.fput q.flume q.dst (out.flatMap (beBytes 16))).cipDone q cipOK n

/-- OVERRUN: the granules are wiped, the transaction ends FAILED 0x30 (R356, R357). -/
def State.overrun (s : State) (q : FlumeReq) : State :=
  ((s.bump CIP_CNT1 CIP_CNT1.OVERRUN 1).sealFail q.txn cipOVERRUN).cipDone q cipOVERRUN 0

/-- The cipher bank refuses an access while it does not run: nothing is moved, and the descriptor ends BAD-ARG (R21, R239, log
entry 69). -/
def State.basinRefused (s : State) (q : FlumeReq) (access : Nat) : State :=
  (s.addrFault .cipher access (cisBase 14)).flumeRefuse q cipBADARG

/-- BWRITE: bytes appended at the written extent of the transaction's reservation (R356). -/
def State.bwrite (s : State) (q : FlumeReq) : State :=
  let s := s.fill q
  let len := bits q.w2 32 16
  if !q.zeroOk || q.nblk != 0 || len == 0 || decide (4064 < len) || !inBuf q.src len then s.flumeRefuse q cipBADARG
  else if s.cisState 14 != cisRunning then s.basinRefused q accWrite
  else
    match s.basins.find q.txn with
    | some b =>
      if b.phase == .filling && bits q.w2 0 23 == b.data.length && decide (b.data.length + len ≤ b.granules * 65536) then
        { s with basins := s.basins.put q.txn { b with data := b.data ++ s.fbuf q.flume q.src len } }.cipDone q cipOK 0
      else s.overrun q
    | none => s.overrun q

/-- BCLOSE: tags compared, the basin data released or wiped (R357). -/
def State.bclose (s : State) (q : FlumeReq) : State :=
  let s := s.fill q
  let len := bits q.w2 0 23
  if !q.zeroOk || q.nblk != 0 || !inBuf q.src 16 || !inBuf q.src2 16 then s.flumeRefuse q cipBADARG
  else if s.cisState 14 != cisRunning then s.basinRefused q accRead
  else if s.fbuf q.flume q.src 16 != s.fbuf q.flume q.src2 16 then
    ((s.bump CIP_CNT1 CIP_CNT1.TAGFAIL 1).sealFail q.txn cipTAG).cipDone q cipTAG 0
  else
    match s.basins.find q.txn with
    | some b =>
      if b.phase == .filling && decide (len ≤ b.data.length) then
        { s with basins := s.basins.put q.txn { b with phase := .releasing len } }.cipDone q cipOK 0
      else s.overrun q
    | none => s.overrun q

/-- The undefined OPs. -/
def badOps : List Nat := [0, 4, 5, 6, 7, 0xA, 0xB, 0xC, 0xD, 0xE, 0xF]

/-- The operands of a descriptor row with its OP put into word 0. -/
def flumeReq (op : Nat) (l : Fin 288) (w0 w1 w2 w3 : Word) (fill : List (BitVec 16 × Byte)) (x : KeyRead) : FlumeReq :=
  ⟨l.val, w0.toNat / 16 * 16 + op, w1.toNat, w2.toNat, w3.toNat, fill.map (fun b => (b.1.toNat, b.2)), x⟩

/-- FLUME_CIP_ENC. -/
def execFlumeCipEnc (l : Fin 288) (w0 w1 w2 w3 : Word) (fill : List (BitVec 16 × Byte)) (x : KeyRead) (s : State) :
    Host.Outcome State Fault Refusal := .next (s.flumeAes (flumeReq 1 l w0 w1 w2 w3 fill x) .enc)

/-- FLUME_CIP_DEC. -/
def execFlumeCipDec (l : Fin 288) (w0 w1 w2 w3 : Word) (fill : List (BitVec 16 × Byte)) (x : KeyRead) (s : State) :
    Host.Outcome State Fault Refusal := .next (s.flumeAes (flumeReq 2 l w0 w1 w2 w3 fill x) .dec)

/-- FLUME_CIP_GMUL. -/
def execFlumeCipGmul (l : Fin 288) (w0 w1 w2 w3 : Word) (fill : List (BitVec 16 × Byte)) (s : State) :
    Host.Outcome State Fault Refusal := .next (s.flumeGmul (flumeReq 3 l w0 w1 w2 w3 fill .good))

/-- FLUME_CIP_BAD_OP: an undefined OP. -/
def execFlumeCipBadOp (op : Fin 11) (l : Fin 288) (w0 w1 w2 w3 : Word) (s : State) : Host.Outcome State Fault Refusal :=
  .next (s.flumeRefuse (flumeReq (badOps.getD op.val 0) l w0 w1 w2 w3 [] .good) cipBADOP)

/-- BWRITE. -/
def execBwrite (l : Fin 288) (w0 w1 w2 w3 : Word) (fill : List (BitVec 16 × Byte)) (s : State) :
    Host.Outcome State Fault Refusal := .next (s.bwrite (flumeReq 8 l w0 w1 w2 w3 fill .good))

/-- BCLOSE. -/
def execBclose (l : Fin 288) (w0 w1 w2 w3 : Word) (fill : List (BitVec 16 × Byte)) (s : State) :
    Host.Outcome State Fault Refusal := .next (s.bclose (flumeReq 9 l w0 w1 w2 w3 fill .good))

/-- A release ends: the bytes reach the buffer under I/O translation, or the compression engine; the granules are freed and
the transaction ends as its TEND gives (R357, R376). -/
def State.releaseEnd (s : State) (i : Nat) : State :=
  match s.basins.find i with
  | some b =>
    match b.phase with
    | .releasing n =>
      if s.cisState 14 != cisRunning then s.addrFault .cipher accRead (cisBase 14) else
      let r := s.record i
      let k := s.session r.session
      let data := b.data.take n
      let s := { s with basins := s.basins.erase i }.syncBasin
      if r.squeeze then
        let s := s.setXfer i { s.xfer i with data := data }
        { s with cmpSession := s.cmpSession ++ [JobRef.inflate i] }
      else
        let w := s.dmaWrite (.flume (k.path r.path)) k.allot r.addr data
        let s := w.1.markBad i w.2 0
        (s.setXfer i { s.xfer i with done := true }).tryEnd i
    | _ => s
  | none => s

/-- BASIN_RELEASE_COMPLETE: of a transaction, by its record. -/
def execBasinReleaseComplete (i : BitVec 22) (s : State) : Host.Outcome State Fault Refusal := .next (s.releaseEnd i.toNat)

/-- A wipe ends: the granules are freed (R357). -/
def State.wipeEnd (s : State) (i : Nat) : State :=
  match s.basins.find i with
  | some b => if b.phase == .wiping then (({ s with basins := s.basins.erase i }).syncBasin).tryEnd i else s
  | none => s

/-- BASIN_WIPE_COMPLETE. -/
def execBasinWipeComplete (i : BitVec 22) (s : State) : Host.Outcome State Fault Refusal := .next (s.wipeEnd i.toNat)

end Sys2Proof.Machine
end

