-- ==== Sys2Proof/Machine/Compress.lean ====
section
/-!
DEFINITION. The compression engine (15): core jobs and their commands (R368-R374), engines at work (R360), staging and
inbound data of session transactions (R375, R376), engine faults (R377).
-/

namespace Sys2Proof.Machine
open Sys2Proof Csr

/-- The status codes of R374 that only commands answer. -/
def cmRUNNING : Nat := 0x01
def cmSUSPENDED : Nat := 0x02
def cmBADDESC : Nat := 0x09
def cmJOBSFULL : Nat := 0x0C
def cmDENIED : Nat := 0x0D
def cmBADHANDLE : Nat := 0x0E
def cmNOTSUSP : Nat := 0x0F

/-! Job descriptors (R369) -/

/-- Fields of a job's descriptor. -/
def Job.op (j : Job) : Nat := bits (dword j.desc 0) 0 4
def Job.format (j : Job) : Nat := bits (dword j.desc 0) 4 2
def Job.gather (j : Job) : Bool := (dword j.desc 0).testBit 6
def Job.ratio (j : Job) : Nat := bits (dword j.desc 0) 16 16
def Job.src (j : Job) : Nat := bits (dword j.desc 8) 0 48
def Job.slen (j : Job) : Nat := bits (dword j.desc 0x10) 0 32
def Job.dlen (j : Job) : Nat := bits (dword j.desc 0x10) 32 32
def Job.dst (j : Job) : Nat := bits (dword j.desc 0x18) 0 48
def Job.save (j : Job) : Nat := bits (dword j.desc 0x20) 0 48
def Job.spillAt (j : Job) : Nat := bits (dword j.desc 0x28) 0 48
def Job.olimit (j : Job) : Nat := bits (dword j.desc 0x30) 0 48
def Job.recordAt (j : Job) : Nat := bits (dword j.desc 0x38) 0 48

/-- The handle of a job: slot in bits [11:0], generation above (R368). -/
def Job.handle (j : Job) (slot : Nat) : Nat := slot + j.gen * 4096

/-- A descriptor is out of range (R369). -/
def State.jobBad (s : State) (j : Job) : Bool :=
  (j.op != 1 && j.op != 2) || bits (dword j.desc 0) 7 9 != 0
    || [8, 0x18, 0x20, 0x28, 0x30, 0x38].any (fun o => bits (dword j.desc o) 48 16 != 0)
    || (j.dict != 0 && (j.format == 2 || (s.dictOf j.dict).isNone)) || j.save % 4096 != 0 || j.recordAt % 32 != 0
    || j.dlen == 0 || (j.gather && (j.slen == 0 || decide (4096 < j.slen)))

/-- The gather list read: its entries as address, length and FLUSH; or a failed access; whether a zero field is not. -/
def State.gatherList (s : State) (j : Job) : State × List (Nat × Nat × Bool) × Nat × Bool :=
  if j.gather then
    let r := s.spRead (some j.allot) .compress j.src (16 * j.slen)
    let w (i : Nat) : Nat := leNat ((r.2.1.drop (8 * i)).take 8)
    (r.1, (List.range j.slen).map (fun i => (bits (w (2 * i)) 0 48, bits (w (2 * i + 1)) 0 32, (w (2 * i + 1)).testBit 32)),
      r.2.2, (List.range j.slen).any (fun i => bits (w (2 * i)) 48 16 != 0 || bits (w (2 * i + 1)) 33 31 != 0))
  else (s, [(j.src, j.slen, false)], 0, false)

/-! Commands of cores (R368) -/

/-- cmx.t.submit of an allotment: the result word. -/
def State.cmxSubmit (s : State) (a b : Nat) : State × Nat :=
  if s.jobs.length = 4096 || decide (s.fld (CMP_AJOB a) CMP_AJOB.JOBMAX ≤ s.fld (CMP_AJOB a) CMP_AJOB.JOBS) || s.inTrickle
  then (s, cmJOBSFULL)
  else if b % 64 != 0 then (s, cmBADDESC)
  else
    let r := s.spRead (some a) .compress b 64
    if r.2.2 != 0 then (r.1, cmAccess r.2.2)
    else
      let s := r.1
      let slot := leastFree 0 s.jobs.keys
      let j : Job := ⟨r.2.1, a, s.jobGen.get 0 slot, .queued, none, [], 0, 0, 0, 0, 0, []⟩
      if s.jobBad j then (s, cmBADDESC)
      else
        let g := s.gatherList j
        if g.2.2.1 != 0 then (g.1, cmAccess g.2.2.1)
        else if g.2.2.2 then (g.1, cmBADDESC)
        else
          let s := g.1
          let s := { s with jobs := s.jobs.put slot j, cmpCore := s.cmpCore ++ [JobRef.core slot] }
          (((s.bump (CMP_AJOB a) CMP_AJOB.JOBS 1).syncCmp).syncRefs j.dict, cmOK + j.handle slot * 2 ^ 32)

/-- The live job that a handle names for an allotment in guest class, or for host-class code; else a status. -/
def State.jobOf (s : State) (guest : Option Nat) (b : Nat) : Except Nat (Nat × Job) :=
  match s.jobs.find (b % 4096) with
  | none => .error cmBADHANDLE
  | some j =>
    if j.gen != bits b 12 20 then .error cmBADHANDLE
    else match guest with
      | some a => if j.allot = a then .ok (b % 4096, j) else .error cmDENIED
      | none => .ok (b % 4096, j)

/-- cmx.t.resume (R368, R373). -/
def State.cmxResume (s : State) (guest : Option Nat) (b : Nat) : State × Nat :=
  match s.jobOf guest b with
  | .error e => (s, e)
  | .ok (slot, j) =>
    if j.phase == .suspended then
      ({ s with
          jobs := s.jobs.put slot { j with phase := .queued },
          cmpCore := s.cmpCore ++ [JobRef.core slot] }, cmOK)
    else (s, cmNOTSUSP)

/-- cmx.t.status (R368). -/
def State.cmxStatus (s : State) (guest : Option Nat) (b : Nat) : Nat :=
  match s.jobOf guest b with
  | .error e => e
  | .ok (_, j) => (if j.phase == .suspended then cmSUSPENDED else cmRUNNING) + j.done % 2 ^ 32 * 2 ^ 32

/-! Engines (R360) -/

/-- Segments of input between flush points (R366). -/
def flushSegs : List (List Byte × Bool) → List Byte → List (List Byte)
  | [], acc => [acc]
  | (l, f) :: rest, acc => if f then (acc ++ l) :: flushSegs rest [] else flushSegs rest (acc ++ l)

/-- The entries of a job's input read in order, up to a failed access. -/
def State.readInput (a : Nat) : List (Nat × Nat × Bool) → State → List (List Byte × Bool) → State × List (List Byte × Bool) × Nat
  | [], s, acc => (s, acc, 0)
  | (ad, n, f) :: rest, s, acc =>
    let r := s.spRead (some a) .compress ad n
    if r.2.2 != 0 then (r.1, acc, r.2.2) else State.readInput a rest r.1 (acc ++ [(r.2.1, f)])

/-- A job that starts for the first time: its input is read, L and every L field it uses latched (R372, R378). -/
def State.latchJob (s : State) (slot : Nat) (j : Job) : State :=
  let g := s.gatherList j
  let r := State.readInput j.allot g.2.1 g.1 []
  let segs := r.2.1
  let input := segs.flatMap Prod.fst
  let total := (g.2.1.map (fun e => e.2.1)).foldl (· + ·) 0
  let bad := if g.2.2.1 != 0 then g.2.2.1 else r.2.2
  let s := r.1
  let dict := s.dictBytes j.dict
  let x : Inflated := if j.op = 2 then inflate j.format j.dict dict input
    else ⟨compress j.format j.dict dict (flushSegs segs []), cmOK, input.length⟩
  let fail := bad != 0 && (j.op == 1 || (x.status != cmOK && x.status != cmTRAILING))
  let out := if fail && j.op == 1 then x.out.take (s.freeVal.toNat % (x.out.length + 1)) else x.out
  let s := if fail && j.op == 1 then s.drawn else s
  let lim := s.outLimit j.olimit (if j.op = 2 then some j.ratio else none) total
  let final := if lim < out.length then cmTRASH else if fail then cmAccess bad else x.status
  { s with
      jobs := s.jobs.put slot { j with
      phase := .running, limit := some lim, out := out.take lim, final := final, eaten := x.eaten,
      input := total, ajob := (s.rd (CMP_AJOB j.allot)).toNat } }

/-- The next job of the two queues, in turn: the job, and the state without it (R360). -/
def State.nextJob (s : State) : Option (JobRef × State) :=
  match s.cmpCoreNext, s.cmpSession, s.cmpCore with
  | false, j :: t, _ => some (j, { s with cmpSession := t, cmpCoreNext := true })
  | false, [], j :: t => some (j, { s with cmpCore := t, cmpCoreNext := false })
  | true, _, j :: t => some (j, { s with cmpCore := t, cmpCoreNext := false })
  | true, j :: t, [] => some (j, { s with cmpSession := t, cmpCoreNext := true })
  | _, [], [] => none

/-- The lowest free engine in service. -/
def State.freeEngine (s : State) : Option Nat :=
  firstIdx (s.fld CMP_STAT CMP_STAT.ACTIVE) (fun n => (s.engines.find n).isNone)

/-- The completion record of a job, one 32-byte access, then the allotment's interrupt (R370). -/
def State.writeRecord (s : State) (slot : Nat) (j : Job) (status : Nat) (incomplete : Bool) (eaten : Nat) : State :=
  let out := j.out.take j.done
  let l := leBytes 8 (status + b2n incomplete * 256 + j.handle slot * 2 ^ 32) ++ leBytes 8 eaten ++ leBytes 8 j.done
    ++ leBytes 8 (checkValue j.format out + j.links.length * 2 ^ 32)
  let s := (s.spWrite (some j.allot) .compress j.recordAt l).1
  let w := Word.ofNat (if j.limit.isSome then j.ajob else (s.rd (CMP_AJOB j.allot)).toNat)
  let c := CMP_AJOB.CORE.get w
  if CMP_AJOB.IRQ_EN.get w == 1 && decide (c < 80) then s.setLine c (CMP_AJOB.LINE.get w) else s

/-- A status that the stream itself ends with, so that the input consumed by then is known. -/
def streamEnd (status : Nat) : Bool :=
  [cmOK, cmTRAILING, cmCHECK, cmDATA, cmDICT].contains status

/-- The input consumed: known where the stream ended, else open, up to all of it. -/
def State.consumed (s : State) (status eaten input : Nat) : State × Nat :=
  if streamEnd status then (s, eaten) else (s.drawn, s.freeVal.toNat % (input + 1))
def State.eatenOf (s : State) (j : Job) (status : Nat) : State × Nat := s.consumed status j.eaten j.input

/-- A core job ends: counted, recorded, its slot freed (R370). -/
def State.endJob (s : State) (slot : Nat) (j : Job) (status : Nat) : State :=
  let r := s.eatenOf j status
  let s := r.1.bump CMP_CNT0 CMP_CNT0.BYTES_IN r.2
  let s := if status = cmTRASH then s.bump CMP_CNT0 CMP_CNT0.TRASHRACK 1 else s
  ({ s with jobs := s.jobs.put slot j }.writeRecord slot j status (status != cmOK && status != cmTRAILING) r.2).freeJob slot

/-- The size of a save area (R369). -/
def saveSize (j : Job) : Nat := if j.format = 3 then 0x101000 else 0x9000

/-- A core job suspends: state into the save area, a record, the slot kept (R373). What the save area holds is open. -/
def State.suspendJob (s : State) (slot : Nat) (j : Job) : State :=
  let n := saveSize j
  let bytes := (List.range n).map (fun i => BitVec.ofNat 8 (Config.freeWord (s.freeCtr + i)).toNat)
  let w := { s with freeCtr := s.freeCtr + n }.spWrite (some j.allot) .compress j.save bytes
  if w.2 != 0 then w.1.endJob slot j (cmAccess w.2)
  else
    let r := w.1.eatenOf j cmSUSPENDED
    let s := r.1.bump CMP_CNT1 CMP_CNT1.SUSPENDS 1
    let j := { j with phase := .suspended }
    { s with jobs := s.jobs.put slot j }.writeRecord slot j cmSUSPENDED false r.2

/-- A core job writes its output: destination, then spillway, and ends or suspends (R370-R373). -/
def State.runJob (s : State) (slot : Nat) (j : Job) : State :=
  let rest := j.out.drop j.done
  let head := rest.take (j.dlen - j.done)
  let w := s.dmaPut .compress j.allot (j.dst + j.done) head
  let x : Spilled := ⟨rest.drop w.2.1, j.links, w.2.2⟩
  let r : State × Spilled :=
    if x.rest.isEmpty || x.err != 0 then (w.1, x)
    else
      let next := match j.links with
        | [] => (w.1, j.spillAt, 0)
        | k :: _ =>
          let q := w.1.spRead (some j.allot) .compress (k + 16) 8
          (q.1, bits (leNat q.2.1) 0 48, q.2.2)
      if next.2.2 != 0 then (next.1, { x with err := next.2.2 })
      else State.spill (some j.allot) j.allot .compress (j.handle slot) [] (x.rest.length + 1) next.1 next.2.1 x
  let written := rest.length - r.2.rest.length
  let j := { j with done := j.done + written, links := r.2.links }
  let s := r.1.bump CMP_CNT1 CMP_CNT1.BYTES_OUT written
  if r.2.err != 0 then s.endJob slot j (cmAccess r.2.err)
  else if r.2.rest.isEmpty then s.endJob slot j j.final
  else if j.save != 0 then s.suspendJob slot j
  else s.endJob slot j cmSPILL

/-- The outbound data of a transaction compressed into its granules (R375), up to the absolute limit of R372, past which it fails. -/
def State.runStage (s : State) (i : Nat) : State :=
  let r := s.record i
  let k := s.session r.session
  let d := s.dmaRead .compress k.allot r.addr r.count
  let s := d.1.markBad i d.2.2 0
  let all := compress k.format r.dict (s.dictBytes r.dict) [d.2.1]
  let lim := (s.xfer i).abslim * 1048576
  let out := all.take lim
  let s := (s.bump CMP_CNT0 CMP_CNT0.BYTES_IN r.count).bump CMP_CNT1 CMP_CNT1.BYTES_OUT out.length
  let s := if lim < all.length then (s.bump CMP_CNT0 CMP_CNT0.TRASHRACK 1).markBad i 0x31 cmTRASH else s
  s.stageWrite i out

/-- The tailrace status and DETAIL of an engine outcome (R376). -/
def inflateStatus (st : Nat) : Nat × Nat :=
  if st = cmOK || st = cmTRAILING then (0, 0)
  else if st = cmSPILL then (0x32, st)
  else if st = cmADDRESS then (0x20, 0)
  else if st = cmPOISON then (0x21, 0)
  else (0x31, st)

/-- The end of an inbound decompression, once the transaction's input is all there (R376): what the buffer and then the session's spillway
still take of the output, its status, and the end of the transaction. -/
def State.runInflate (s : State) (i : Nat) : State :=
  let r := s.record i
  let k := s.session r.session
  let x := s.xfer i
  let m : Master := .flume (k.path r.path)
  let input := match x.tend with
    | some (_, _, _, wl, _) => if r.isSealed then wl - 16 else wl
    | none => x.data.length
  let u := inflate k.format r.dict (s.dictBytes r.dict) x.data
  let lim := x.limit input
  let out := u.out.take lim
  let head := (out.take r.count).drop x.filled
  let w := if x.bad != 0 then (s, 0, 0) else s.dmaPut m k.allot (r.addr + x.filled) head
  let y : Spilled := ⟨out.drop (x.filled + w.2.1), x.claimed, w.2.2⟩
  let go := !y.rest.isEmpty && w.2.2 == 0 && x.bad == 0
  let q := if go then State.spill none k.allot m r.tseq x.claimed (y.rest.length + 1) w.1 k.spillway { y with links := [] }
    else (w.1, y)
  let st := if q.2.err != 0 then cmAccess q.2.err else if go && !q.2.rest.isEmpty then cmSPILL
    else if lim < u.out.length then cmTRASH else u.status
  let e := q.1.consumed (if x.bad = 0 then st else cmADDRESS) u.eaten x.data.length
  let s := (e.1.bump CMP_CNT0 CMP_CNT0.BYTES_IN e.2).bump CMP_CNT1 CMP_CNT1.BYTES_OUT (out.length - q.2.rest.length)
  let s := if st = cmTRASH then s.bump CMP_CNT0 CMP_CNT0.TRASHRACK 1 else s
  let links := q.2.links ++ x.claimed.filter (fun l => !q.2.links.contains l)
  let s := s.setXfer i { s.xfer i with filled := x.filled + w.2.1, claimed := links, done := true }
  (s.markBad i (inflateStatus st).1 (inflateStatus st).2).tryEnd i

/-- The input of an inbound decompression is all there: it came out of the basin, or TEND and every byte it announces have arrived. -/
def State.inputWhole (s : State) (i : Nat) : Bool :=
  let x := s.xfer i
  match x.tend with
  | some (_, _, _, wl, _) => (s.record i).isSealed || decide (wl ≤ x.nextOff)
  | none => false

/-- L and the fields of R378 that a session's job uses, latched as an engine takes it; inbound data that has arrived is fed to it. -/
def State.latchSession (s : State) (i : Nat) : State :=
  s.setXfer i { s.xfer i with ratio := s.fld CMP_CFG CMP_CFG.RATIO, abslim := s.fld CMP_CFG CMP_CFG.ABSLIM_MIB }

/-- A suspended job that goes on reads its save area back; what it finds there is what the suspension wrote, unless firmware changed it,
which leaves the output open (R373). A failed access ends it. -/
def State.resumeJob (s : State) (slot : Nat) (j : Job) : State :=
  let r := s.spRead (some j.allot) .compress j.save (saveSize j)
  if r.2.2 != 0 then r.1.endJob slot j (cmAccess r.2.2)
  else { r.1 with jobs := r.1.jobs.put slot { j with phase := .running } }

/-- A job starts or goes on at an engine. -/
def State.startJob (s : State) : JobRef → State
  | .core slot =>
    match s.jobs.find slot with
    | none => s
    | some j => if j.limit.isNone then s.latchJob slot j else s.resumeJob slot j
  | .stage i => s.latchSession i
  | .inflate i => (s.latchSession i).feedInflate i

/-- COMPRESSION_JOB_START (R360). -/
def execCompressionJobStart (s : State) : Host.Outcome State Fault Refusal :=
  .next (match s.freeEngine, s.nextJob with
    | some n, some (j, t) => ({ t with engines := t.engines.put n j }).startJob j
    | _, _ => s)

/-- COMPRESSION_JOB_END (R370, R375, R376): the job of an engine ends or suspends; an inbound decompression goes on while its input does. -/
def execCompressionJobEnd (n : Fin 72) (s : State) : Host.Outcome State Fault Refusal :=
  .next (match s.engines.find n.val with
    | none => s
    | some r => if (match r with | .inflate i => !s.inputWhole i | _ => false) then s else
      let t := { s with engines := s.engines.erase n.val }
      match r with
      | .core slot => match t.jobs.find slot with
        | some j => t.runJob slot j
        | none => t
      | .stage i => t.runStage i
      | .inflate i => t.runInflate i)

/-- A spare engine takes the place of another (R377, R451). -/
def State.swapEngine (s : State) : State :=
  let s := s.drop CMP_STAT CMP_STAT.SPARES_LEFT
  (s.setF SPR_LEFT SPR_LEFT.CMP (s.fld CMP_STAT CMP_STAT.SPARES_LEFT)).repaired repCmp (s.fld CMP_STAT CMP_STAT.SPARES_LEFT)

/-- A failed engine is retired and a spare takes its place, or one engine fewer serves (R377). -/
def State.retireEngine (s : State) : State :=
  let s := s.fault0 0x78 mstCmp accNone
  if 0 < s.fld CMP_STAT CMP_STAT.SPARES_LEFT then s.swapEngine else (s.drop CMP_STAT CMP_STAT.ACTIVE).exhausted

/-- ENGINE_FAULT (R377): a core job ends ENGINE-FAULT, staging runs again on another engine, an inbound decompression ends
FAILED 0x31. -/
def execEngineFault (n : Fin 72) (s : State) : Host.Outcome State Fault Refusal :=
  let job := s.engines.find n.val
  let s := ({ s with engines := s.engines.erase n.val }).retireEngine
  .next (match job with
    | none => s
    | some (.core slot) => match s.jobs.find slot with
      | some j => s.endJob slot j cmFAULT
      | none => s
    | some (.stage i) => { s with cmpSession := JobRef.stage i :: s.cmpSession }
    | some (.inflate i) =>
      let s := s.markBad i 0x31 cmFAULT
      (s.setXfer i { s.xfer i with done := true }).tryEnd i)

end Sys2Proof.Machine
end

