-- ==== Sys2Proof/Machine/Clock.lean ====
section
/-!
DEFINITION. Clock islands, culverts and the power loops (16, R379-R398, R484, R485).
-/

namespace Sys2Proof.Machine
open Sys2Proof Csr

/-- The states of CLK_ISTAT. -/
def ckRUN : Nat := 0
def ckSLEEP : Nat := 1
def ckDEEP : Nat := 2
def ckOFF : Nat := 3
def ckCHANGING : Nat := 4
def ckDRAINING : Nat := 5
def ckWAKING : Nat := 6
def ckWAITING : Nat := 7

/-- STATE and DIV of an island. -/
def State.clkState (s : State) (i : Nat) : Nat := s.fld (CLK_ISTAT i) CLK_ISTAT.STATE
def State.clkDivNow (s : State) (i : Nat) : Nat := s.fld (CLK_ISTAT i) CLK_ISTAT.DIV

/-- The stable state of an island whatever change is in progress: the one it came from until it has left it. -/
def State.clkStable (s : State) (i : Nat) : Nat :=
  let st := s.clkState i
  if st < 4 then st else ((s.clkChange.find i).map (fun c => if c.phase == .draining then ckRUN else c.origin)).getD ckRUN

/-- FREQ in force, and the divider requested. -/
def State.freqOf (s : State) (i : Nat) : Nat := s.clkFreq.get (islandFreq i) i
def State.divOf (s : State) (i : Nat) : Nat := s.clkDiv.get 0 i

/-- The divider an island runs at: the slower of the one requested and the slow loop's cap (R395). -/
def State.goalDiv (s : State) (i d : Nat) : Nat := max d (s.fld (CLK_ISTAT i) CLK_ISTAT.CAPDIV)

/-- The islands an island requires in RUN (R383). -/
def clkNeeds (i : Nat) : List Nat :=
  if i < 8 then [8, 9]
  else match i with
    | 8 => [9]
    | 10 => [11]
    | 11 => [8, 9]
    | 12 => [8, 9]
    | 13 => [8, 9]
    | 14 => [8, 9, 11]
    | 15 => [8, 9, 11]
    | _ => []

/-- The island that holds the registers at a CSR offset (01, Block map; R19): none where a window has none. DESIGN CHOICE (log entry 71): the
LNK windows lie in islands 10 and 11, and island 10 alone decides for every LNK register whether it answers. -/
def csrIsland (a : Nat) : Option Nat :=
  let w := a / 0x1000000
  let o := a % 0x1000000
  match w with
  | 0x00 => some (if o < 8 || (decide (0x100 ≤ o) && decide (o < 0x140)) then 17 else 16)
  | 0x01 => some 17
  | 0x02 => some 17
  | 0x03 => some 17
  | 0x04 => some 16
  | 0x05 => some 17
  | 0x06 => some 17
  | 0x07 => some 17
  | 0x08 => some (min (o / 0x10000 / 10) 7)
  | 0x09 => some 8
  | 0x0A => some 16
  | 0x0B => some (if o < 0x10000 then min (o / 0x40 / 10) 7 else 8)
  | 0x0C => some (min (o / 0x200 / 10) 7)
  | 0x0D => some 9
  | 0x0E => some 8
  | 0x0F => some 10
  | 0x10 => some 10
  | 0x11 => some 14
  | 0x12 => some 14
  | 0x13 => some 14
  | 0x14 => some 11
  | 0x15 => some 12
  | 0x16 => some 13
  | 0x17 => some 8
  | _ => none

/-! Entering and leaving a state (R194, R196, R240, R381) -/

/-- The cores of an island changed. -/
def State.mapIsland (s : State) (i : Nat) (f : Core → Core) : State :=
  { s with cores := s.cores.map (fun e => if coreIsland e.1 = i then (e.1, f e.2) else e) }

/-- M lines of L2 and the write-back buffer written to the reservoir (R196). -/
def State.flushToRes (s : State) (c : Nat) : State :=
  let k := s.core c
  let lines := (k.l2.values.filter (fun l => l.st == .m)).map L2Line.line ++ k.wb.map L2Line.line
  let s := lines.foldl (fun s l => s.resInstall l true 0xFFFF) s
  s.modCore c (fun k => { k with
    l2 := k.l2.mapv (fun l => if l.st == L2St.m then { l with st := .e } else l),
    wb := [] })

/-- The island's own flush before its gate closes (R196, R386). -/
def State.islandFlush (s : State) (i target : Nat) : State :=
  if i < 8 && decide (2 ≤ target) then
    let cs := (List.range 10).map (fun n => i * 10 + n)
    let s := s.mapIsland i (fun k => (k.dirtyLines.foldl Core.cleanL1 k))
    if target = ckOFF then cs.foldl State.flushToRes s else s
  else if i = 8 && target = ckOFF then s.cleanReservoir
  else s

/-- What a register of an island OFF keeps: the count and cause of the strongroom's wipes, and what has been retired or put in
service in its place, which stays so: rows of a bank, block cores, engines and cores (R145, R241, R244, R358, R377). -/
def keptAtOff (e : Nat × Word) : Option (Nat × Word) :=
  match findReg e.1 with
  | some (r, _) =>
    let m := if r.name == "CIS_SRSTAT" then CIS_SRSTAT.WIPES.mask ||| CIS_SRSTAT.CAUSE.mask
      else if r.name == "CIS_BSTAT" then CIS_BSTAT.ROWS_LEFT.mask
      else if r.name == "CIP_STAT" then CIP_STAT.SPARES_LEFT.mask ||| CIP_STAT.ACTIVE.mask
      else if r.name == "CMP_STAT" then CMP_STAT.SPARES_LEFT.mask ||| CMP_STAT.ACTIVE.mask
      else if r.name == "TWN_CSTATE" then TWN_CSTATE.ROLE.mask else 0
    let role := TWN_CSTATE.ROLE.get e.2
    let kept := if r.name == "TWN_CSTATE" && role != roleRetired && role != roleSpare then 0 else e.2
    let v := (kept &&& m) ||| (csrReset e.1 &&& ~~~m)
    if v = csrReset e.1 then none else some (e.1, v)
  | none => none

/-- What an island loses as its supply is lowered or removed (R194, R381). The control stores of an island that was OFF are written
again from the verified copies before it runs (log entry 85). -/
def State.islandLost (s : State) (i target : Nat) : State :=
  if target = ckDEEP then
    if i < 8 then s.mapIsland i Core.dropL1All
    else if i = 9 then (List.range 8).foldl (fun s n => s.setF (DRM_SSTAT n) DRM_SSTAT.STATE 1) s
    else s
  else if target = ckOFF then
    let s := { s with
        csr := s.csr.filterMap (fun e => if csrIsland e.1 != some i then some e else keptAtOff e),
        staged := s.staged.filter (fun e => csrIsland e.1 != some i) }
    if i < 8 then s.mapIsland i (fun _ => Core.reset)
    else if i = 8 then
      { s with res := [], resPlru := [], resScrub := [], groups := [], slots := [], cisErrs := [], cisGrant := [] }
    else if i = 10 then (List.range 256).foldl State.clearLink s
    else if i = 11 then { s with iotlb := [], flumeBuf := [] }
    else if i = 12 then { s with basins := [], keyWait := none }.syncBasin
    else if i = 13 then
      { s with engines := [], jobs := [], jobGen := [], cmpCore := [], cmpSession := [], stageHeld := [], stageData := [] }
    else s
  else s

/-- What a wake clears: from OFF, every cistern bank and the strongroom with island 8 (R194, R240, R243); the stacks leave
self-refresh with island 9. -/
def State.islandWoken (s : State) (i origin : Nat) : State :=
  if i = 8 && origin = ckOFF then
    let s := ((List.range 16).filter (fun b => b != 8 && b != 9)).foldl (fun s b => s.cisClear b cisStopped) s
    s.beginWipe 0
  else if i = 9 then (List.range 8).foldl (fun s n => s.setF (DRM_SSTAT n) DRM_SSTAT.STATE 0) s
  else s

/-- An island has come to run: a wipe of the strongroom that waited for island 8 goes on (R387). -/
def State.wipeWaited (s : State) (i : Nat) : State := if i = 8 then s.wipeBanks else s

/-! A change step by step (R384-R386, R485) -/

/-- A change moves to another phase. -/
def State.clkPhase (s : State) (i : Nat) (c : IslandChange) (p : ClkPhase) : State :=
  { s with clkChange := s.clkChange.put i { c with phase := p } }

/-- A change ends in a state: its RESULT, DONE, and CHANGES when it was made (R397, R484). -/
def State.clkFinish (s : State) (i st result : Nat) : State :=
  let s := { s with clkChange := s.clkChange.erase i }
  let s := s.setFs (CLK_ISTAT i) [(CLK_ISTAT.STATE, st), (CLK_ISTAT.BUSY, 0), (CLK_ISTAT.DONE, 1), (CLK_ISTAT.RESULT, result)]
  if result = 0 then s.bump (CLK_ICNT i) CLK_ICNT.CHANGES 1 else s

/-- A ramp towards the goal: over when the divider is there. -/
def State.clkRamp (s : State) (i : Nat) (c : IslandChange) : State :=
  if s.clkDivNow i = s.goalDiv i c.div then s.clkFinish i ckRUN c.result
  else (s.setF (CLK_ISTAT i) CLK_ISTAT.STATE ckCHANGING).clkPhase i c .ramp

/-- Step 3 and 4 of R386: the flush, then every culvert refuses new transfers. -/
def State.clkDrain (s : State) (i : Nat) (c : IslandChange) : State :=
  ((s.islandFlush i c.target).setF (CLK_ISTAT i) CLK_ISTAT.STATE ckDRAINING).clkPhase i c .draining

/-- What comes at /16: the drain, the relock, the switch of source, or the ramp back. -/
def State.clkBottom (s : State) (i : Nat) (c : IslandChange) : State :=
  if c.target != ckRUN then s.clkDrain i c
  else
    let s := s.setF (CLK_ISTAT i) CLK_ISTAT.STATE ckCHANGING
    if c.relock then
      { s.setF (CLK_ISTAT i) CLK_ISTAT.LOCK 0 with clkFreq := s.clkFreq.put i c.freq }.clkPhase i c .locking
    else if c.src != s.fld (CLK_ISTAT i) CLK_ISTAT.SRC then s.clkPhase i c .switching
    else s.clkRamp i c

/-- A change begins: a wake, a way down to /16, or a ramp. -/
def State.clkBegin (s : State) (i : Nat) (c : IslandChange) : State :=
  if c.origin != ckRUN then (s.setF (CLK_ISTAT i) CLK_ISTAT.STATE ckWAKING).clkPhase i c .waking
  else if c.target = ckRUN && !c.relock && c.src == s.fld (CLK_ISTAT i) CLK_ISTAT.SRC then s.clkRamp i c
  else if s.clkDivNow i = 7 then s.clkBottom i c
  else (s.setF (CLK_ISTAT i) CLK_ISTAT.STATE ckCHANGING).clkPhase i c .down

/-- A change that alters the clock of a core island waits for the stagger of the others (R385): `staggerOn` is the core island whose
change began within the last 50 µs. -/
def State.clkStart (s : State) (i : Nat) (c : IslandChange) : State :=
  let s := s.setF (CLK_ISTAT i) CLK_ISTAT.BUSY 1
  let still := c.origin == ckRUN && c.target == ckRUN && !c.relock && c.src == s.fld (CLK_ISTAT i) CLK_ISTAT.SRC
    && s.clkDivNow i == s.goalDiv i c.div
  if 8 ≤ i || still then s.clkBegin i c
  else if s.staggerOn == some i || (s.staggerOn.isNone && s.clkWait.isEmpty) then { s with staggerOn := some i }.clkBegin i c
  else { s.setF (CLK_ISTAT i) CLK_ISTAT.STATE ckWAITING with clkWait := s.clkWait ++ [i] }.clkPhase i c .waiting

/-- STAGGER_WAIT_END (R385): 50 µs after the start of a core island's change. -/
def execStaggerWaitEnd (s : State) : Host.Outcome State Fault Refusal :=
  .next (match s.clkWait with
    | [] => { s with staggerOn := none }
    | i :: t =>
      let u := { s with clkWait := t, staggerOn := some i }
      match u.clkChange.find i with
      | some c => u.clkBegin i c
      | none => u)

/-- A step of a ramping divider (R384). -/
def State.divStep (s : State) (i : Nat) : State :=
  match s.clkChange.find i with
  | none => s
  | some c =>
    let d := s.clkDivNow i
    match c.phase with
    | .down =>
      let s := s.setF (CLK_ISTAT i) CLK_ISTAT.DIV (min 7 (d + 1))
      if 6 ≤ d then s.clkBottom i c else s
    | .switching => (s.setF (CLK_ISTAT i) CLK_ISTAT.SRC c.src).clkRamp i c
    | .ramp => (s.setF (CLK_ISTAT i) CLK_ISTAT.DIV (if d < s.goalDiv i c.div then d + 1 else d - 1)).clkRamp i c
    | _ => s

/-- DIVIDER_STEP (R384). -/
def execDividerStep (i : Fin 17) (s : State) : Host.Outcome State Fault Refusal := .next (s.divStep i.val)

/-- An island that woke, or whose change ended, without a lock stays at /16 on REF (R397, LOCK-FAIL). -/
def State.lockFail (s : State) (i : Nat) : State :=
  (s.setFs (CLK_ISTAT i) [(CLK_ISTAT.SRC, 1), (CLK_ISTAT.DIV, 7), (CLK_ISTAT.LOCK, 0)]).clkFinish i ckRUN 6

/-- PLL_LOCK (R380): the PLL of an island locks within 20 µs, or does not. -/
def State.pllLock (s : State) (i : Nat) (ok : Bool) : State :=
  match s.clkChange.find i with
  | none => s
  | some c =>
    match c.phase with
    | .locking =>
      if ok then (s.setFs (CLK_ISTAT i) [(CLK_ISTAT.LOCK, 1), (CLK_ISTAT.SRC, c.src)]).clkRamp i { c with relock := false }
      else s.lockFail i
    | .waking =>
      if c.origin = ckSLEEP then s
      else if ok then
        { s.setFs (CLK_ISTAT i) [(CLK_ISTAT.LOCK, 1), (CLK_ISTAT.SRC, c.src)] with
          clkFreq := s.clkFreq.put i c.freq,
          clkChange := s.clkChange.put i { c with relock := false } }
      else ((s.islandWoken i c.origin).lockFail i).wipeWaited i
    | _ => s
def execPllLock (i : Fin 17) (ok : Bool) (s : State) : Host.Outcome State Fault Refusal := .next (s.pllLock i.val ok)

/-- WAKE_COMPLETE (R381, R485): the first cycle at /16; then the ramp, or the drain into another state. -/
def State.wakeDone (s : State) (i : Nat) : State :=
  match s.clkChange.find i with
  | none => s
  | some c =>
    if c.phase == .waking && (c.origin == ckSLEEP || s.flag (CLK_ISTAT i) CLK_ISTAT.LOCK) then
      (((s.setF (CLK_ISTAT i) CLK_ISTAT.DIV 7).islandWoken i c.origin).clkBottom i { c with origin := ckRUN }).wipeWaited i
    else s
def execWakeComplete (i : Fin 17) (s : State) : Host.Outcome State Fault Refusal := .next (s.wakeDone i.val)

/-- DRAIN_COMPLETE (R386): the gate closes. -/
def State.drainDone (s : State) (i : Nat) : State :=
  match s.clkChange.find i with
  | none => s
  | some c =>
    if c.phase == .draining then
      let s := (s.islandLost i c.target).setFs (CLK_ISTAT i) [(CLK_ISTAT.DIV, 7),
        (CLK_ISTAT.LOCK, if c.target = ckSLEEP then s.fld (CLK_ISTAT i) CLK_ISTAT.LOCK else 0)]
      s.clkFinish i c.target c.result
    else s
def execDrainComplete (i : Fin 17) (s : State) : Host.Outcome State Fault Refusal := .next (s.drainDone i.val)

/-- DRAIN_TIMEOUT (R386): the island goes back to RUN; the request ends DRAIN-TIMEOUT. -/
def State.drainTimeout (s : State) (i far : Nat) : State :=
  match s.clkChange.find i with
  | none => s
  | some c =>
    if c.phase == .draining then
      let s := (s.setF (CLK_ISTAT i) CLK_ISTAT.DRAINFAR far).bump (CLK_ICNT i) CLK_ICNT.DRAINFAIL 1
      ({ s with clkDiv := s.clkDiv.put i c.back }.fault0 0x84 mstNone accNone).clkRamp i { c with target := ckRUN, div := c.back, result := 5 }
    else s
def execDrainTimeout (i : Fin 17) (far : Fin 18) (s : State) : Host.Outcome State Fault Refusal :=
  .next (s.drainTimeout i.val far.val)

/-! Requests (R381-R383, R397, R484) -/

/-- The state that the enables ask for (R381). -/
def State.clkTarget (s : State) (i : Nat) : Nat :=
  if s.flag (CLK_ICTL i) CLK_ICTL.RUN_EN then ckRUN
  else if s.flag (CLK_ICTL i) CLK_ICTL.SLEEP_EN then ckSLEEP
  else if s.flag (CLK_ICTL i) CLK_ICTL.DEEP_EN then ckDEEP
  else ckOFF

/-- The further condition of R382 for leaving RUN. -/
def State.mayLeaveRun (s : State) (i : Nat) : Bool :=
  if i < 8 then (List.range 10).all (fun n => [roleParked, roleSpare, roleRetired, roleHalted].contains (s.role (i * 10 + n)))
  else if i = 10 || i = 11 then (List.range 256).all (fun l => s.lstate l == lsOFF)
  else true

/-- A departure from RUN is refused: an island that requires this one is in RUN or SLEEP, or R382 forbids it. -/
def State.leaveBad (s : State) (i : Nat) : Bool :=
  !s.mayLeaveRun i || (List.range 16).any (fun d => (clkNeeds d).contains i && decide (s.clkStable d ≤ ckSLEEP))

/-- A way to RUN is refused: an island that this one requires is not in RUN. -/
def State.enterBad (s : State) (i : Nat) : Bool := (clkNeeds i).any (fun d => !s.islandRuns d)

/-- A GO refused at once (R484). -/
def State.clkRefuse (s : State) (i r : Nat) : State :=
  s.setFs (CLK_ISTAT i) [(CLK_ISTAT.RESULT, r), (CLK_ISTAT.DONE, 1)]

/-- GO in CLK_ICTL of an island. -/
def State.clkGo (s : State) (i : Nat) : State :=
  let t := s.clkTarget i
  let cur := s.clkStable i
  let f := s.fld (CLK_ICTL i) CLK_ICTL.FREQ
  if s.flag (CLK_ISTAT i) CLK_ISTAT.BUSY then s.setF (CLK_ISTAT i) CLK_ISTAT.RESULT 1
  else if 14 ≤ i || (i == 9 && (t == ckSLEEP || t == ckOFF)) then s.clkRefuse i 2
  else if (t != ckRUN && t != cur && s.leaveBad i) || (cur != ckRUN && t != cur && s.enterBad i) then s.clkRefuse i 3
  else if f < 1000 || islandFreq i < f then s.clkRefuse i 4
  else if t != ckRUN && t == cur then s.clkRefuse i 0
  else
    let src := s.fld (CLK_ICTL i) CLK_ICTL.SRC
    let relock := f != s.freqOf i || (src == 0 && !s.flag (CLK_ISTAT i) CLK_ISTAT.LOCK)
    let d := s.fld (CLK_ICTL i) CLK_ICTL.DIV
    let c : IslandChange := ⟨.waiting, t, cur, d, if cur = ckRUN then s.divOf i else d, src, f, relock, 0⟩
    { s with clkDiv := if t = ckRUN then s.clkDiv.put i d else s.clkDiv }.clkStart i c

/-- CLK_GO. -/
def execClkGo (i : Fin 18) (s : State) : Host.Outcome State Fault Refusal := .next (s.clkGo i.val)

/-! The strongroom wipe and island 8 (R243, R387) -/

/-- A wipe that finds island 8 asleep wakes it; one that finds it on its way out of RUN abandons that change. -/
def State.wakeForWipe (s : State) : State :=
  match s.clkChange.find 8 with
  | some c =>
    if c.target = ckRUN then s
    else
      let c := { c with target := ckRUN, div := c.back, relock := false, result := 7 }
      if c.phase == .waking then { s with clkChange := s.clkChange.put 8 c } else s.clkRamp 8 c
  | none =>
    let st := s.clkState 8
    if st = ckSLEEP || st = ckDEEP then
      (s.setF (CLK_ISTAT 8) CLK_ISTAT.BUSY 1).clkBegin 8
        ⟨.waking, ckRUN, st, s.divOf 8, s.divOf 8, s.fld (CLK_ISTAT 8) CLK_ISTAT.SRC, s.freqOf 8, false, 0⟩
    else s

/-- A trigger of a strongroom wipe. -/
def State.wipeStrongroom (s : State) (cause : Nat) : State := (s.wakeForWipe).beginWipe cause

/-- STRONGROOM_WIPE: 0 wake of island 8 from off, 1 tamper, 2 life-cycle change (R243, R244). -/
def execStrongroomWipe (cause : Fin 3) (s : State) : Host.Outcome State Fault Refusal :=
  .next (s.wipeStrongroom cause.val)

/-! The reference and the PLLs (R380) -/

/-- REFERENCE_LOSS. -/
def State.refLoss (s : State) : State :=
  if s.flag CLK_REFSTAT CLK_REFSTAT.REFLOCK then
    let s := (s.setFs CLK_REFSTAT [(CLK_REFSTAT.REFLOCK, 0), (CLK_REFSTAT.HOLDOVER, 1)]).bump CLK_REFSTAT CLK_REFSTAT.REFLOSS 1
    (s.setF HRC_STAT HRC_STAT.HOLDOVER 1).fault0 0x7C mstNone accNone
  else s
def execReferenceLoss (s : State) : Host.Outcome State Fault Refusal := .next s.refLoss

/-- REFERENCE_RETURN: the PLLs relock without a ramp. -/
def State.refReturn (s : State) : State :=
  if s.flag CLK_REFSTAT CLK_REFSTAT.HOLDOVER then
    ((s.setFs CLK_REFSTAT [(CLK_REFSTAT.REFLOCK, 1), (CLK_REFSTAT.HOLDOVER, 0)]).setF HRC_STAT HRC_STAT.HOLDOVER 0).keepSpareRx
  else s
def execReferenceReturn (s : State) : Host.Outcome State Fault Refusal := .next s.refReturn

/-- HOLDOVER_EXPIRY: fatal after 10 ms. -/
def execHoldoverExpiry (s : State) : Host.Outcome State Fault Refusal :=
  .next (if s.flag CLK_REFSTAT CLK_REFSTAT.HOLDOVER then s.fault0 0x7D mstNone accNone else s)

/-- PLL_LOCK_LOSS: the island goes on at REF with its divider. -/
def State.pllLoss (s : State) (i : Nat) : State :=
  if s.flag (CLK_ISTAT i) CLK_ISTAT.LOCK && s.flag CLK_REFSTAT CLK_REFSTAT.REFLOCK then
    let s := (s.setFs (CLK_ISTAT i) [(CLK_ISTAT.LOCK, 0), (CLK_ISTAT.SRC, 1)]).bump (CLK_ICNT i) CLK_ICNT.LOCKLOSS 1
    s.fault0 0x80 mstNone accNone
  else s
def execPllLockLoss (i : Fin 17) (s : State) : Host.Outcome State Fault Refusal := .next (s.pllLoss i.val)

/-! Culverts (R388-R391) -/

/-- CULVERT_TRANSFER: one transfer from an island to another, with how many of its tries meet a parity error: refused where
the receiver does not run or the culvert is broken; each repeat is recorded; with the third repeat failed the culvert is
broken (R391). -/
def State.culvert (s : State) (a b errs : Nat) : State :=
  if s.culvertShut a b then s
  else
    let s := (List.range (min errs 3)).foldl (fun s _ => s.fault 0x88 mstNone accNone (Word.ofNat (a + b * 256))) s
    if errs = 4 then
      { s with culvertsBroken := insertNat s.culvertsBroken (a * 32 + b) }.fault 0x89 mstNone accNone (Word.ofNat (a + b * 256))
    else s
def execCulvertTransfer (a b : Fin 18) (errs : Fin 5) (s : State) : Host.Outcome State Fault Refusal :=
  .next (s.culvert a.val b.val errs.val)

/-! The power loops and clamps (R392-R396) -/

/-- The throttle level set, never below what heat holds it at (R480). -/
def State.setThrottle (s : State) (n : Nat) : State := s.setF LEV_PSTAT LEV_PSTAT.THROTTLE (max (min n 7) s.heatFloor)

/-- VIN sampled (R393): no command carries it, so VIN_DV takes a free value (R398; log entry 7). -/
def State.sampleVin (s : State) : State := (s.setF LEV_PSTAT LEV_PSTAT.VIN_DV (bits s.freeVal.toNat 0 10)).drawn

/-- FAST_LOOP_WINDOW: the end of a window with its mean power. -/
def State.fastLoop (s : State) (p : Nat) : State :=
  let s := s.sampleVin
  let level := s.fld LEV_PSTAT LEV_PSTAT.THROTTLE
  let ceil := s.fld LEV_PCEIL LEV_PCEIL.CEIL_W
  let s := if level = 0 then s else s.bump LEV_PCNT LEV_PCNT.THROTTLED 1
  let s := s.setF LEV_PSTAT LEV_PSTAT.PEAK_W (max p (s.fld LEV_PSTAT LEV_PSTAT.PEAK_W))
  if ceil < p then { s with fastLow := 0 }.setThrottle (level + 1)
  else if p * 100 ≤ ceil * 95 then
    if 63 ≤ s.fastLow then { s with fastLow := 0 }.setThrottle (level - 1) else { s with fastLow := s.fastLow + 1 }
  else { s with fastLow := 0 }
def execFastLoopWindow (p : BitVec 12) (s : State) : Host.Outcome State Fault Refusal := .next (s.fastLoop p.toNat)

/-- The cap of a core island moved, and the island with it (R395). -/
def State.moveCap (s : State) (i cap : Nat) : State :=
  let s := (s.setF (CLK_ISTAT i) CLK_ISTAT.CAPDIV cap).bump LEV_PCNT LEV_PCNT.LOOP_STEPS 1
  if s.clkState i = ckRUN then
    s.clkStart i ⟨.waiting, ckRUN, ckRUN, s.divOf i, s.divOf i, s.fld (CLK_ISTAT i) CLK_ISTAT.SRC, s.freqOf i, false, 0⟩
  else s

/-- The core island that the slow loop slows: the smallest effective divider, the highest number among those. -/
def State.capVictim (s : State) : Option Nat :=
  let l := (List.range 8).filter (fun i => s.clkState i == ckRUN && decide (s.clkDivNow i < 7))
  l.foldl (fun best i => match best with
    | none => some i
    | some b => if s.clkDivNow i ≤ s.clkDivNow b then some i else some b) none

/-- SLOW_LOOP_EVALUATION: the end of a millisecond with its mean power. -/
def State.slowLoop (s : State) (p : Nat) : State :=
  let limit := s.fld LEV_PLIMIT LEV_PLIMIT.LIMIT_W
  let s := s.setF LEV_PSTAT LEV_PSTAT.INPUT_W p
  let s := { s with slowLow := if p * 10 < limit * 9 then s.slowLow + 1 else 0 }
  if limit < p then
    match s.capVictim with
    | some i => s.moveCap i (min 7 (s.fld (CLK_ISTAT i) CLK_ISTAT.CAPDIV + 1))
    | none => s
  else if 100 ≤ s.slowLow then
    match firstIdx 8 (fun i => !s.flag (CLK_ISTAT i) CLK_ISTAT.BUSY && decide (s.divOf i < s.fld (CLK_ISTAT i) CLK_ISTAT.CAPDIV)) with
    | some i => s.moveCap i (s.fld (CLK_ISTAT i) CLK_ISTAT.CAPDIV - 1)
    | none => s
  else s
def execSlowLoopEvaluation (p : BitVec 12) (s : State) : Host.Outcome State Fault Refusal := .next (s.slowLoop p.toNat)

/-- CLAMP_ENGAGE (R396). -/
def State.clampEngage (s : State) : State :=
  let s := ((s.setF LEV_PSTAT LEV_PSTAT.CLAMPED 1).setThrottle 7).bump LEV_PCNT LEV_PCNT.CLAMPS 1
  { s with fastLow := 0 }.fault0 0x8C mstNone accNone
def execClampEngage (s : State) : Host.Outcome State Fault Refusal := .next s.clampEngage

/-- CLAMP_SUSTAINED: engaged for 100 µs without a break. -/
def execClampSustained (s : State) : Host.Outcome State Fault Refusal :=
  .next (if s.flag LEV_PSTAT LEV_PSTAT.CLAMPED then s.fault0 0x8D mstNone accNone else s)

/-- CLAMP_RELEASE. -/
def execClampRelease (s : State) : Host.Outcome State Fault Refusal := .next (s.setF LEV_PSTAT LEV_PSTAT.CLAMPED 0)

end Sys2Proof.Machine
end

