-- ==== Sys2Proof/Machine/Ecdsa.lean ====
section
/-!
DEFINITION. The signature of an image (05, R135): SHA-384 of FIPS 180-4 and ECDSA P-384 verification of FIPS 186-5, over
byte strings; numbers in keys, signatures and hashes are big-endian (R132).
-/

namespace Sys2Proof.Machine
open Sys2Proof

/-! SHA-384 -/

/-- The largest number of at most n bits whose k-th power is not above x. -/
def floorRoot (k x : Nat) : Nat → Nat → Nat
  | 0, r => r
  | n + 1, r => floorRoot k x n (if (r + 2 ^ n) ^ k ≤ x then r + 2 ^ n else r)

/-- The primes below 410: the first 80 of them. -/
def shaPrimes : List Nat := (List.range 410).filter (fun n => decide (2 ≤ n) && (List.range 21).all (fun d => d < 2 || d ≥ n || n % d != 0))

/-- The constants: the first 64 bits of the fractions of cube roots, and the initial hash, of square roots. -/
def shaK : List Nat := shaPrimes.map (fun p => floorRoot 3 (p * 2 ^ 192) 72 0 % 2 ^ 64)
def shaH0 : List Nat := ((shaPrimes.drop 8).take 8).map (fun p => floorRoot 2 (p * 2 ^ 128) 72 0 % 2 ^ 64)

/-- A 64-bit word rotated right, and the four mixing functions of three rotations or two and a shift. -/
def rotr64 (n x : Nat) : Nat := x / 2 ^ n + x % 2 ^ n * 2 ^ (64 - n)
def shaSig (a b c x : Nat) : Nat := rotr64 a x ^^^ rotr64 b x ^^^ rotr64 c x
def shaMix (a b c x : Nat) : Nat := rotr64 a x ^^^ rotr64 b x ^^^ x / 2 ^ c

/-- Sum of 64-bit words. -/
def add64 (l : List Nat) : Nat := l.foldl (· + ·) 0 % 2 ^ 64

/-- n more words of the message schedule, newest first. -/
def shaExpand : Nat → List Nat → List Nat
  | 0, w => w
  | n + 1, w => shaExpand n (add64 [shaMix 19 61 6 (w.getD 1 0), w.getD 6 0, shaMix 1 8 7 (w.getD 14 0), w.getD 15 0] :: w)

/-- One round: the eight working variables, a constant and a schedule word. -/
def shaRound (v : List Nat) (kw : Nat × Nat) : List Nat :=
  let g (i : Nat) : Nat := v.getD i 0
  let ch := (g 4 &&& g 5) ^^^ ((2 ^ 64 - 1 - g 4) &&& g 6)
  let maj := (g 0 &&& g 1) ^^^ (g 0 &&& g 2) ^^^ (g 1 &&& g 2)
  let t1 := add64 [g 7, shaSig 14 18 41 (g 4), ch, kw.1, kw.2]
  [add64 [t1, shaSig 28 34 39 (g 0), maj], g 0, g 1, g 2, add64 [g 3, t1], g 4, g 5, g 6]

/-- The hash after a block of 128 bytes. -/
def shaBlock (h : List Nat) (b : List Byte) : List Nat :=
  let w0 := (List.range 16).map (fun i => beNat ((b.drop (8 * i)).take 8))
  let w := (shaExpand 64 w0.reverse).reverse
  List.zipWith (fun x y => add64 [x, y]) h ((shaK.zip w).foldl shaRound h)

/-- A message padded: a 1 bit, zeros, and its length in bits as 16 bytes. -/
def shaPad (m : List Byte) : List Byte :=
  m ++ [0x80] ++ List.replicate ((239 - m.length % 128) % 128) 0 ++ beBytes 16 (8 * m.length)

/-- Blocks hashed in order. -/
def shaBlocks : Nat → List Nat → List Byte → List Nat
  | 0, h, _ => h
  | n + 1, h, m => shaBlocks n (shaBlock h (m.take 128)) (m.drop 128)

/-- SHA-384 of a byte string, as a number of 384 bits. -/
def sha384 (m : List Byte) : Nat :=
  let p := shaPad m
  ((shaBlocks (p.length / 128) shaH0 p).take 6).foldl (fun n x => n * 2 ^ 64 + x) 0

/-! ECDSA P-384 -/

/-- The field, the order of the base point, the coefficient b and the base point of P-384; a is -3. -/
def p384 : Nat := 2 ^ 384 - 2 ^ 128 - 2 ^ 96 + 2 ^ 32 - 1
def p384N : Nat := 0xFFFFFFFFFFFFFFFFFFFFFFFFFFFFFFFFFFFFFFFFFFFFFFFFC7634D81F4372DDF581A0DB248B0A77AECEC196ACCC52973
def p384B : Nat := 0xB3312FA7E23EE7E4988E056BE3F82D19181D9C6EFE8141120314088F5013875AC656398D8A2ED19D2A85C8EDD3EC2AEF
def p384G : Nat × Nat :=
  (0xAA87CA22BE8B05378EB1C71EF320AD746E1D3B628BA79B9859F741E082542A385502F25DBF55296C3A545E3872760AB7,
   0x3617DE4A96262C6F5D9E98BF9292DC29F8F41DBD289A147CE9DA3113B5F0B8C00A60B1CE1D7E819D7A431D7C90EA0E5F)

/-- A power modulo m, over the n low bits of the exponent. -/
def powMod (m x e : Nat) : Nat → Nat
  | 0 => 1 % m
  | n + 1 =>
    let h := powMod m (x * x % m) (e / 2) n
    if e % 2 = 1 then x * h % m else h

/-- The inverse modulo a prime of at most 384 bits. -/
def invMod (m x : Nat) : Nat := powMod m x (m - 2) 384

/-- The sum of two points, none being the point at infinity. -/
def ecAdd : Option (Nat × Nat) → Option (Nat × Nat) → Option (Nat × Nat)
  | none, q => q
  | p, none => p
  | some (x1, y1), some (x2, y2) =>
    if x1 = x2 ∧ (y1 + y2) % p384 = 0 then none
    else
      let l := if x1 = x2 then (3 * x1 * x1 + p384 - 3) * invMod p384 (2 * y1) % p384
        else (y2 + p384 - y1) * invMod p384 ((x2 + p384 - x1) % p384) % p384
      let x := (l * l + 2 * p384 - x1 - x2) % p384
      some (x, (l * (x1 + p384 - x) + p384 - y1) % p384)

/-- A point times the n low bits of a number. -/
def ecMul (k : Nat) (q : Option (Nat × Nat)) : Nat → Option (Nat × Nat)
  | 0 => none
  | n + 1 =>
    let h := ecMul (k / 2) (ecAdd q q) n
    if k % 2 = 1 then ecAdd q h else h

/-- A point lies on the curve with coordinates in range. -/
def onCurve (x y : Nat) : Bool :=
  decide (x < p384) && decide (y < p384) && y * y % p384 == (x * x * x + p384B + (p384 - 3) * x) % p384

/-- The signature r ‖ s of a message under the key Qx ‖ Qy, 96 bytes each, is good. -/
def ecdsaP384 (sig msg key : List Byte) : Bool :=
  let r := beNat (sig.take 48)
  let s := beNat ((sig.drop 48).take 48)
  let x := beNat (key.take 48)
  let y := beNat ((key.drop 48).take 48)
  let w := invMod p384N s
  let u := ecMul (sha384 msg * w % p384N) (some p384G) 384
  decide (1 ≤ r) && decide (r < p384N) && decide (1 ≤ s) && decide (s < p384N) && onCurve x y
    && (match ecAdd u (ecMul (r * w % p384N) (some (x, y)) 384) with
      | none => false
      | some p => p.1 % p384N == r)

end Sys2Proof.Machine
end

