-- ==== Sys2Proof/Machine/Images.lean ====
section
/-!
DEFINITION. GCI images and the control stores (05, R130-R143): verification in its order, run-time patches, patch-match
entries, micro-traps and the restoration of words.
-/

namespace Sys2Proof.Machine
open Sys2Proof Csr

/-! The image (R132, R133, R136) -/

/-- TYPE of an image. -/
def gciCORE : Nat := 1
def gciSLUICE : Nat := 2
def gciHEADWORKS : Nat := 3
def gciFLUME : Nat := 4

/-- Words of a TYPE's store, bytes of a word, and the first word of the patch area (R130, R136, R266); the headworks
cistern holds 8 MiB (R236). -/
def gciWords (t : Nat) : Nat :=
  if t = gciCORE then 16384 else if t = gciSLUICE then 65536 else if t = gciHEADWORKS then 1048576 else 32768
def gciWidth (t : Nat) : Nat := if t = gciCORE then 24 else if t = gciSLUICE then 32 else 8
def gciPatchAt (t : Nat) : Nat := if t = gciCORE then 15360 else if t = gciSLUICE then 61440 else gciWords t

/-- A number of n bytes at an offset of an image. -/
def gciNum (img : List Byte) (o n : Nat) : Nat := leNat ((img.drop o).take n)

/-- Bytes of an image. -/
def gciPart (img : List Byte) (o n : Nat) : List Byte := (img.drop o).take n

/-- Header fields. -/
def gciTYPE (img : List Byte) : Nat := gciNum img 8 1
def gciFLAGS (img : List Byte) : Nat := gciNum img 9 1
def gciPLEN (img : List Byte) : Nat := gciNum img 0x14 4
def gciWORDS (img : List Byte) : Nat := gciNum img 0x18 4
def gciVERSION (img : List Byte) : Nat := gciNum img 0x10 4
def gciPatch (img : List Byte) : Bool := (gciFLAGS img).testBit 1

/-- MAGIC, FORMAT, HDRLEN and the header's zero fields. -/
def gciFormatOk (img : List Byte) : Bool :=
  decide (0x200 ≤ img.length) && gciNum img 0 4 == 0x31494347 && gciNum img 4 2 == 1 && gciNum img 6 2 == 0x80
    && decide (gciFLAGS img < 8) && gciNum img 0x1C 4 == 0 && gciNum img 0x2C 4 == 0 && gciNum img 0x40 64 == 0

/-- PLEN and WORDS within the bounds of the store of a TYPE, one record a word at the most, and the ciphertext whole. -/
def gciLengthOk (img : List Byte) (t : Nat) : Bool :=
  decide (gciWORDS img ≤ gciWords t) && decide (gciPLEN img ≤ gciWords t * (gciWidth t + 16))
    && img.length == 0x200 + gciPLEN img

/-- The header with TAG zero, which GCM authenticates (R134). -/
def gciAad (img : List Byte) : List Byte := gciPart img 0 0x30 ++ List.replicate 16 0 ++ gciPart img 0x40 0x40

/-- What Etdan and the OEM sign (R135). -/
def gciSigned (img : List Byte) : List Byte := gciPart img 0 0xE0 ++ img.drop 0x200
def gciCounter (img : List Byte) : List Byte := gciPart img 0 0x1A0 ++ img.drop 0x200

/-- A record: first word and words. -/
abbrev GciRecord := Nat × List Nat

/-- Words of a width from bytes. -/
def gciWordsOf (w : Nat) : Nat → List Byte → List Nat
  | 0, _ => []
  | n + 1, l => leNat (l.take w) :: gciWordsOf w n (l.drop w)

/-- The records of a plaintext, none where one is malformed; `fuel` bounds their number. -/
def gciRecords (w : Nat) : Nat → List Byte → Option (List GciRecord)
  | _, [] => some []
  | 0, _ => none
  | fuel + 1, l =>
    let n := leNat ((l.drop 4).take 4)
    if l.length < 16 || n = 0 || leNat ((l.drop 8).take 8) != 0 || decide (l.length < 16 + n * w) then none
    else (gciRecords w fuel (l.drop (16 + n * w))).map
      (fun rs => (leNat (l.take 4), gciWordsOf w n (l.drop 16)) :: rs)

/-- Two records do not overlap. -/
def gciApart (a b : GciRecord) : Bool := decide (a.1 + a.2.length ≤ b.1) || decide (b.1 + b.2.length ≤ a.1)

/-- No two of the records overlap. -/
def gciDisjoint : List GciRecord → Bool
  | [] => true
  | r :: t => t.all (gciApart r) && gciDisjoint t

/-- Words that records write below a limit. -/
def gciBelow (lim : Nat) (rs : List GciRecord) : Nat :=
  (rs.map (fun r => min (r.1 + r.2.length) lim - min r.1 lim)).foldl (· + ·) 0

/-- The records are those of an image of a TYPE: inside the store or the patch area, apart, WORDS in all; a base image of
a control store or of the flumes writes every word below the patch area (R136, R266). -/
def gciRecordsOk (t : Nat) (patch : Bool) (words : Nat) (rs : List GciRecord) : Bool :=
  rs.all (fun r => decide (r.1 + r.2.length ≤ gciWords t) && (!patch || decide (gciPatchAt t ≤ r.1)))
    && gciDisjoint rs && gciBelow (gciWords t) rs == words
    && (patch || t == gciHEADWORKS || gciBelow (gciPatchAt t) rs == gciPatchAt t)

/-! Verification (R137) -/

/-- The SVN floor of a TYPE. -/
def State.svnFloor (s : State) (t : Nat) : Nat := bits (s.rd LCS_SVN).toNat (16 * (t - 1)) 16

/-- A patch-match entry is enabled for the store of a TYPE. -/
def State.armed (s : State) (t : Nat) : Bool :=
  s.csr.any (fun e =>
    if t = gciCORE then decide (0xA001000 ≤ e.1) && decide (e.1 < 0xA001000 + 80 * 0x40) && CST_CPATCH.EN.get e.2 == 1
    else t == gciSLUICE && decide (0xA003000 ≤ e.1) && decide (e.1 < 0xA003080) && CST_SPATCH.EN.get e.2 == 1)

/-- Checks 1 to 6, by result code. -/
def State.gciHeader (s : State) (img : List Byte) (types : List Nat) (patch : Bool) : Nat :=
  let t := gciTYPE img
  let lcs := s.fld LCS_STAT LCS_STAT.STATE
  if !gciFormatOk img then 1
  else if gciNum img 0xC 2 != 0x7280 || gciNum img 0xA 1 != 0xB0 then 2
  else if !types.contains t || gciPatch img != patch then 3
  else if !gciLengthOk img t then 4
  else if (gciFLAGS img).testBit 2 && lcs != 0 && lcs != 3 then 5
  else if gciNum img 0xE 2 < s.svnFloor t then 6
  else 0

/-- Checks 7 to 12. DESIGN CHOICE (log entry 8): a KEYIDX above 3, which names no fused key, ends as a revoked one. -/
def State.gciKeys (s : State) (img : List Byte) : Nat :=
  if sha384 (gciPart img 0x80 96) != Config.etdanKeyHash then 7
  else if !ecdsaP384 (gciPart img 0xE0 96) (gciSigned img) (gciPart img 0x80 96) then 8
  else
    let oem := match s.oemHash with
      | none => 0
      | some h =>
        if !(gciFLAGS img).testBit 0 then 9
        else if sha384 (gciPart img 0x140 96) != h then 0xA
        else if !ecdsaP384 (gciPart img 0x1A0 96) (gciCounter img) (gciPart img 0x140 96) then 0xB
        else 0
    if oem != 0 then oem
    else if gciNum img 0xB 1 ≥ 4 || bits (s.fld LCS_FSTAT LCS_FSTAT.REVOKED) (gciNum img 0xB 1) 1 == 1 then 0xC
    else 0

/-- The plaintext of an image under the fused key that KEYIDX selects, where its tag agrees (R134). -/
def gciPlain (img : List Byte) : Option (List Byte) :=
  gcmOpen ((beBytes 32 (Config.imageKey (gciNum img 0xB 1)).toNat).map BitVec.toNat) (beNat (gciPart img 0x20 12)) (gciAad img)
    (img.drop 0x200) (beNat (gciPart img 0x30 16))

/-- Checks 13 to 15: the records, or the result code. -/
def State.gciBody (s : State) (img : List Byte) (runtime : Bool) : Nat × List GciRecord :=
  let t := gciTYPE img
  match gciPlain img with
  | none => (0xD, [])
  | some p =>
    match gciRecords (gciWidth t) p.length p with
    | none => (0xE, [])
    | some rs =>
      if !gciRecordsOk t (gciPatch img) (gciWORDS img) rs then (0xE, [])
      else if runtime && s.armed t then (0xF, [])
      else (0, rs)

/-- The verification of an image of one of some TYPEs: its result code and its records. -/
def State.gciVerify (s : State) (img : List Byte) (types : List Nat) (patch runtime : Bool) : Nat × List GciRecord :=
  let h := s.gciHeader img types patch
  if h != 0 then (h, [])
  else
    let k := s.gciKeys img
    if k != 0 then (k, []) else s.gciBody img runtime

/-- Records written into a store. -/
def writeWords (t : Table Nat) (rs : List GciRecord) : Table Nat :=
  rs.foldl (fun t r => (r.2.zipIdx).foldl (fun t e => t.put (r.1 + e.2) e.1) t) t

/-- The words of records written into the headworks cistern, 8 bytes each (R136). -/
def State.writeCistern (s : State) (rs : List GciRecord) : State :=
  rs.foldl (fun s r => s.writeThrough (cisBase 15 + 8 * r.1) (r.2.flatMap (leBytes 8))) s

/-- Verified records written into the stores of a TYPE (R131, R266). -/
def State.writeStore (s : State) (t : Nat) (rs : List GciRecord) : State :=
  if t = gciCORE then { s with coreStore := writeWords s.coreStore rs }
  else if t = gciSLUICE then { s with sluStore := writeWords s.sluStore rs }
  else if t = gciHEADWORKS then { s.writeCistern rs with hwkStore := writeWords s.hwkStore rs }
  else { s with flumeStore := writeWords s.flumeStore rs }

/-- The verified plaintext of a CORE or SLUICE image, kept in the headworks cistern until the next start (R131). -/
def State.stageImage (s : State) (img : List Byte) : State :=
  if gciTYPE img ≤ gciSLUICE then { s with stagedImages := s.stagedImages ++ [(gciTYPE img, (gciPlain img).getD [])] } else s

/-- An image presented: verified, then written, or rejected with CST-REJECT; CST_STATUS reports it (R137, R138, R141). -/
def State.present (s : State) (img : List Byte) (types : List Nat) (patch runtime : Bool) : State × Nat :=
  let r := s.gciVerify img types patch runtime
  let s := s.setFs CST_STATUS [(CST_STATUS.RESULT, r.1), (CST_STATUS.TYPE, gciTYPE img), (CST_STATUS.BUSY, 0),
    (CST_STATUS.DONE, 1)]
  if r.1 = 0 then
    (((s.setF CST_STATUS CST_STATUS.VERSION (gciVERSION img)).writeStore (gciTYPE img) r.2).stageImage img, 0)
  else (s.fault0 0x20 mstNone accNone, r.1)

/-- A run-time patch loaded from general DRAM (R141); an image that is not whole in it, or that holds poison, is
BAD-FORMAT. -/
def State.cstLoad (s : State) : State :=
  let a := s.fld CST_LOAD CST_LOAD.ADDR * 32
  let n := 0x200 + s.num (a + 0x14) 4
  let whole := s.rangeClass a == .normal && s.rangeClass (a + n - 1) == .normal && !s.poisonedRange a n
  (s.present (if whole then s.bytes a n else []) [gciCORE, gciSLUICE] true true).1

/-- GO in CST_LOAD, ignored while BUSY. -/
def State.cstGo (s : State) : State := if s.flag CST_STATUS CST_STATUS.BUSY then s else s.cstLoad

/-- CST_LOAD. -/
def execCstLoad (s : State) : Host.Outcome State Fault Refusal := .next s.cstGo

/-! Patch-match entries (R139, R140) -/

/-- A value of an entry: EN reads 0 when TARGET lies below the patch area. -/
def cpatchValue (v : Word) : Word :=
  let v := v &&& 0xFFFF3FFF
  if CST_CPATCH.TARGET.get v < 15360 then CST_CPATCH.EN.set v 0 else v
def spatchValue (v : Word) : Word :=
  let v := v &&& 0x3FFFFFFFF
  if CST_SPATCH.TARGET.get v < 61440 then CST_SPATCH.EN.set v 0 else v

/-- A performed write to a translation register or a CST_CPATCH entry of a core (R140, R205): in force from its next bundle boundary,
which a bundle that stalls has before it, but for one that waits for a fence, whose accesses come after it (R80); a member's is written in every member, and in force for each from the interval that
follows the group's next checkpoint. -/
def State.writeAtCheckpoint (s : State) (c a : Nat) (v : Word) : State :=
  let hold (s : State) (d : Nat) : State :=
    let t := s.wr (regOfCore a d) v
    if (s.core d).stall.isSome && (s.core d).stall != some .fence then t.keepForce s (regOfCore a d) 0 else t
  match s.groupOf c with
  | some g =>
    let cs := (s.memberIdx g).map (s.memberCore g)
    if s.guarded g then
      let at_ := s.openInterval (s.memberCore g 0)
      let s := s.setGroup g { s.group g with later := (s.group g).later ++ cs.map (fun d => (at_, regOfCore a d, s.rd (regOfCore a d))) }
      cs.foldl (fun s d => s.wr (regOfCore a d) v) s
    else cs.foldl hold s
  | none => hold s c

/-- CPATCH_WRITE (R140). -/
def execCpatchWrite (c : Fin 80) (e : Fin 8) (v : Word) (s : State) : Host.Outcome State Fault Refusal :=
  .next (s.writeAtCheckpoint c.val (CST_CPATCH c.val e.val) (cpatchValue v))

/-- SPATCH_WRITE (R140): both masters hold one set of entries. -/
def execSpatchWrite (e : Fin 16) (v : Word) (s : State) : Host.Outcome State Fault Refusal :=
  .next (s.wr (CST_SPATCH e.val) (spatchValue v))

/-! Micro-traps (R142, R143) -/

/-- The save area of a unit and its words after the first. -/
def saveArea (u : StoreUnit) (j : Nat) : Nat :=
  match u with
  | .core c => CST_MSAVE c.val j
  | .sluice b => CST_SMSAVE (b2n b) j
def saveWords (u : StoreUnit) : Nat := match u with | .core _ => 17 | .sluice _ => 33

/-- VALID and the cause of a save area: 1 PATCH, 2 CSERR. -/
def State.saveValid (s : State) (u : StoreUnit) : Bool := bit (s.rd (saveArea u 0)) 20
def State.saveCause (s : State) (u : StoreUnit) : Nat := bits (s.rd (saveArea u 0)).toNat 16 4

/-- VALID cleared at the resume. -/
def State.microResume (s : State) (u : StoreUnit) : State :=
  s.wr (saveArea u 0) (setBit (s.rd (saveArea u 0)) 20 false)

/-- The micro-PC saved, with temporaries and flags whose values the spec does not give. -/
def State.microSave (s : State) (u : StoreUnit) (mpc cause : Nat) : State :=
  let s := s.wr (saveArea u 0) (Word.ofNat (mpc + cause * 2 ^ 16 + 2 ^ 20))
  (List.range (saveWords u)).foldl (fun s j => (s.wr (saveArea u (j + 1)) s.freeVal).drawn) s

/-- An armed entry with SAVE = 1, as in force, matches a micro-PC (R139, R140). -/
def State.microMatch (s : State) (u : StoreUnit) (mpc : Nat) : Bool :=
  match u with
  | .core c => (List.range 8).any (fun e =>
      let v := s.coreCsr c.val (CST_CPATCH c.val e)
      CST_CPATCH.EN.get v == 1 && CST_CPATCH.SAVE.get v == 1 && CST_CPATCH.MATCH.get v == mpc)
  | .sluice _ => (List.range 16).any (fun e =>
      let v := s.rd (CST_SPATCH e)
      CST_SPATCH.EN.get v == 1 && CST_SPATCH.SAVE.get v == 1 && CST_SPATCH.MATCH.get v == mpc)

/-- A master stops; the ditch rider will declare it failed. -/
def State.stopMaster (s : State) (b : Bool) : State := s.putSlu b { s.slu b with stopped := true }

/-- A nested micro-trap: MICRO-NEST of a core, or the master stops; the save area is kept (R143). -/
def State.microNest (s : State) (u : StoreUnit) : State :=
  match u with
  | .core c => s.raise c.val (plainExc 0x60 3 0)
  | .sluice b => s.stopMaster b

/-- The unit's micro-PC lies in its store. -/
def microPc (u : StoreUnit) (mpc : Nat) : Nat := match u with | .core _ => mpc % 16384 | .sluice _ => mpc % 65536

/-- A micro-trap: nested where one is being handled, else saved; the routine of an armed entry returns with a
micro-return unless it meets a second micro-trap; CSERR waits for the word's restoration. -/
def State.microTrap (s : State) (u : StoreUnit) (mpc : Nat) (cserr nest : Bool) : State :=
  if !cserr && !s.microMatch u mpc then s
  else if s.saveValid u then s.microNest u
  else
    let s := s.microSave u mpc (if cserr then 2 else 1)
    if cserr then
      match u with
      | .core c => s.modCore c.val (fun k => { k with restoring := true })
      | .sluice _ => s
    else if nest then s.microNest u
    else s.microResume u

/-- MICRO_TRAP: the unit, its micro-PC, CSERR or PATCH, and whether the patch routine meets a second micro-trap. -/
def execMicroTrap (u : StoreUnit) (mpc : BitVec 16) (cserr nest : Bool) (s : State) : Host.Outcome State Fault Refusal :=
  .next (s.microTrap u (microPc u mpc.toNat) cserr nest)

/-- The word restored from the verified copy, or not (R142): CSTORE, a failed member, or a master that stops. -/
def State.wordRestore (s : State) (u : StoreUnit) (ok : Bool) : State :=
  if s.saveValid u && s.saveCause u == 2 then
    if ok then
      let s := s.microResume u
      match u with
      | .core c => s.modCore c.val (fun k => { k with restoring := false })
      | .sluice _ => s.sluResume
    else
      match u with
      | .core c =>
        let s := (s.modCore c.val (fun k => { k with restoring := false })).fault0 0x0E c.val accNone
        if (s.groupOf c.val).isSome then s.modCore c.val (fun k => { k with failed := true })
        else s.raise c.val (plainExc 0x60 4 0)
      | .sluice b => s.stopMaster b
  else s

/-- CSTORE_WORD_RESTORE. -/
def execCstoreWordRestore (u : StoreUnit) (ok : Bool) (s : State) : Host.Outcome State Fault Refusal :=
  .next (s.wordRestore u ok)

end Sys2Proof.Machine
end

