-- ==== Sys2Proof/Machine/Start.lean ====
section
/-!
DEFINITION. Cold start, warm start and trickle service (17, R399-R418), with the pins that hold a start back (R465, R466).
A start runs in stages: each COLD_START or WARM_START takes it as far as the next image that the host must supply.
-/

namespace Sys2Proof.Machine
open Sys2Proof Csr

/-! What a start keeps (R409) -/

/-- The bits of a register, by name, that a start leaves as they stand: what islands 17's collector, chain, fuses and
start registers hold; with a warm start also RUN, REVERT, CTXBASE and the maps in force (R234, R409, R418, R453). -/
def startMask (warm : Bool) (name : String) : Word :=
  match name with
  | "FLT_STATUS" | "FLT_SUMMARY" | "FLT_CFG" | "FLT_CAP" | "FLT_CAPADDR" | "FLT_CAPTIME" | "FLT_SRC" | "FLT_SRCADDR"
  | "HRC_STAT" | "HRC_ENUM" | "HRC_TIME" | "LEV_TSTAT" | "SPR_RSTAT" | "STA_LATCH"
  | "HWK_ID" | "HWK_SCFG" | "HWK_LMASK" | "LCS_SVN" => 0xFFFFFFFFFFFFFFFF
  | "CLK_REFSTAT" => CLK_REFSTAT.REFLOCK.mask ||| CLK_REFSTAT.HOLDOVER.mask
  | "STA_STAT" => STA_STAT.SEQ.mask ||| STA_STAT.PARTIAL.mask
  | "LCS_STAT" => LCS_STAT.STATE.mask ||| LCS_STAT.TAMPER.mask
  | "LCS_FSTAT" => LCS_FSTAT.OEMHASH.mask ||| LCS_FSTAT.KIK.mask ||| LCS_FSTAT.REVOKED.mask
  | "HWK_SSTAT" => HWK_SSTAT.LASTFAIL.mask ||| HWK_SSTAT.FAILSTEP.mask ||| HWK_SSTAT.WARMFAIL.mask ||| HWK_SSTAT.COLDFAIL.mask
  | "SES_CFG" => if warm then SES_CFG.RUN.mask ||| SES_CFG.REVERT.mask ||| SES_CFG.CTXBASE.mask else 0
  | "ALT_CFG" => if warm then ALT_CFG.CTXBASE.mask else 0
  | "SPR_LEFT" => if warm then 0xFFFFFFFFFFFFFFFF else 0
  | "CIP_STAT" => if warm then CIP_STAT.SPARES_LEFT.mask ||| CIP_STAT.ACTIVE.mask else 0
  | "CMP_STAT" => if warm then CMP_STAT.SPARES_LEFT.mask ||| CMP_STAT.ACTIVE.mask else 0
  | "DRM_SSTAT" => if warm then DRM_SSTAT.SPARED.mask ||| DRM_SSTAT.ROWS_LEFT.mask else 0
  | "CIS_BSTAT" => if warm then CIS_BSTAT.ROWS_LEFT.mask else 0
  | "CIS_SRSTAT" => CIS_SRSTAT.WIPES.mask ||| CIS_SRSTAT.CAUSE.mask
  | "LNK_STAT" => if warm then LNK_STAT.LANE.mask else 0
  | "LNK_PSTAT" => if warm then LNK_PSTAT.CARRIES.mask else 0
  | "TWN_CSTATE" => if warm then TWN_CSTATE.ROLE.mask else 0
  | _ => 0

/-- The CSRs as a start leaves them: every other field at its reset value. -/
def State.startCsr (s : State) (warm : Bool) : Table Word :=
  s.csr.filterMap (fun e =>
    let m := match findReg e.1 with
      | some (r, _) => startMask warm r.name
      | none => 0
    let v := (e.2 &&& m) ||| (csrReset e.1 &&& ~~~m)
    if v = csrReset e.1 then none else some (e.1, v))

/-- The role a core takes at a start: a retired core stays retired, a spare not yet used stays SPARE, every other core is in
service in split mode (R145, R401). -/
def State.startRole (s : State) (c : Nat) : Nat :=
  if s.role c = roleRetired then roleRetired
  else if s.role c = roleSpare then roleSpare
  else roleSplit

/-- Entries that belong to no record and are not yet written, of refused transactions and attentions among them: a warm start keeps
them, to get slots anew (R28, R291). -/
def State.entriesDue (s : State) : List TailItem :=
  s.tailQueue.filterMap (fun t => match t with
    | .other n _ a b c d => some (.other n none a b c d)
    | .record _ => none)

/-- PHASE set, with the notice of its change (R434). -/
def State.setPhase (s : State) (p : Nat) : State :=
  if s.fld HWK_SSTAT HWK_SSTAT.PHASE = p then s
  else (s.setF HWK_SSTAT HWK_SSTAT.PHASE p).notice 4 (noticePayload 4 [(2, p)])

/-- A start begins (R399, R407 steps 1 and 2): dirty data is lost, every island but 17 is reset, lanes are idle, the links'
epochs change. A warm start leaves the stacks in self-refresh. -/
def State.beginStart (s : State) (warm forced : Bool) : State :=
  let s := (s.setPhase 0).loseDirty
  let roles := (List.range 80).map (fun c => (c, s.startRole c))
  let s := { s with
      csr := s.startCsr warm, staged := [], force := [], cores := [], groups := [],
      res := [], resPlru := [], resScrub := [], inReset := false, fallow := false, lanesIdle := true,
      sprNeeds := [], sprDeferred := [], rowErrs := [], scrubPos := [], subst := [],
      chkRetired := if warm then s.chkRetired else [],
      rowsUsed := if warm then s.rowsUsed else [],
      cisErrs := [], cisEnd := [], cisGrant := [],
      slots := if warm then s.slots else [],
      basins := [], basinQueue := [], flumeBuf := [],
      links := (List.range 256).map (fun l => (l, Link.cleared (((s.link l).epoch + 1) % 2 ^ 32))),
      coeffs := if warm then s.coeffs else [],
      inbox := [], live := [], sessions := [],
      sesImage := warm && s.sesImage,
      altImage := warm && s.altImage,
      sesBusy := none, sesWait := false, tailProd := [], tailCons := [],
      tailQueue := if warm then s.entriesDue else [],
      coldDue := if warm then s.coldDue else List.range 256,
      warmDue := if warm then List.range 256 else [],
      upWait := [], sesInit := warm && s.sesInit, altInit := warm && s.altInit, sesAddr := 0, stageQueue := [], stageHeld := [], stageData := [],
      engines := [], cmpSession := [], cmpCore := [], cmpCoreNext := false, jobs := [], jobGen := [], xfers := [],
      resendLate := [], stalled := [], deficits := [], weightNew := [], issueQueue := [], iotlb := [], quiescing := none, altWait := none, keyWait := none,
      sluA := Sluice.reset, sluB := Sluice.reset, turnChange := 0, swapHc := 0, swapRetry := 0, clkChange := [], clkFreq := [], clkDiv := [],
      clkWait := [], staggerOn := none, fastLow := 0, slowLow := 0, culvertsBroken := [],
      coreStore := [], sluStore := [], hwkStore := [], flumeStore := [], stagedImages := [],
      startStage := .begun,
      imageIn := { s.imageIn with data := [], full := false, tries := 0 },
      loopDone := [], loopFail := [], fullRate := [], trainBad := [], rateDue := true, fullLinks := [], startBegan := true,
      badIslands := [], dieUp := false }
  let s := s.setFs HWK_SSTAT [(HWK_SSTAT.KIND, b2n warm), (HWK_SSTAT.FORCED, b2n forced),
    (HWK_SSTAT.BASEMASK, if warm then 0 else 0xFF)]
  let s := s.setThrottle 0
  if warm then
    let s := roles.foldl (fun s r => s.setRole r.1 r.2) s
    let s := (List.range 8).foldl (fun s n => s.setF (DRM_SSTAT n) DRM_SSTAT.STATE 1) s
    let s := [8, 9].foldl (fun s b => s.setCis b cisRunning) s
    (s.setF SES_STAT SES_STAT.RUNNING (s.fld SES_CFG SES_CFG.RUN)).syncCmp
  else s

/-! Failed starts (R416, R417) -/

/-- Stacks whose training failed (R235). -/
def State.stacksFailed (s : State) (l : List Nat) : State := l.foldl (fun s n => s.setF (DRM_SSTAT n) DRM_SSTAT.STATE 3) s

/-- A start fails with a code at a step: LASTFAIL and FAILSTEP, START-FAIL, and the next start at once or fallow. -/
def State.startFail (s : State) (code step : Nat) : State :=
  let s := s.setFs HWK_SSTAT [(HWK_SSTAT.LASTFAIL, code), (HWK_SSTAT.FAILSTEP, step)]
  let s := ((List.range 8).filter (fun n => s.fld (DRM_SSTAT n) DRM_SSTAT.STATE != 3)).foldl (fun s n =>
    s.setF (DRM_SSTAT n) DRM_SSTAT.STATE 1) { s with lanesIdle := true }
  let s := s.fault0 0x90 mstNone accNone
  if s.flag HWK_SSTAT HWK_SSTAT.KIND then
    let n := s.fld HWK_SSTAT HWK_SSTAT.WARMFAIL + 1
    if n < 3 then (s.setF HWK_SSTAT HWK_SSTAT.WARMFAIL n).beginStart true false
    else ((s.setF HWK_SSTAT HWK_SSTAT.WARMFAIL 0).fault0 0x93 mstNone accNone).beginStart false true
  else
    let n := min 3 (s.fld HWK_SSTAT HWK_SSTAT.COLDFAIL + 1)
    let s := s.setF HWK_SSTAT HWK_SSTAT.COLDFAIL n
    if n < 3 then s.beginStart false false
    else { s with startStage := .idle }.fault0 0xAC mstNone accNone

/-- Both start counts cleared, and LASTFAIL with them (R417, R418). -/
def State.clearCounts (s : State) : State :=
  s.setFs HWK_SSTAT [(HWK_SSTAT.WARMFAIL, 0), (HWK_SSTAT.COLDFAIL, 0), (HWK_SSTAT.LASTFAIL, 0), (HWK_SSTAT.FAILSTEP, 0)]

/-- A start is in progress. -/
def State.starting (s : State) : Bool := s.startStage != .idle && !s.inReset && !s.fallow

/-- The step of the cold or warm table at which the module stands (R401, R407). -/
def State.startStep (s : State) : Nat :=
  let warm := s.flag HWK_SSTAT HWK_SSTAT.KIND
  match s.fld HWK_SSTAT HWK_SSTAT.PHASE with
  | 1 => if warm then 12 else 13
  | 2 => if warm then 13 else 14
  | _ =>
    match s.startStage with
    | .begun => 3
    | .image 3 => 5
    | .image 4 => 7
    | .image _ => 8
    | .patch _ => 8
    | _ => if warm then 9 else 9

/-! Pins (R399, R465, R466) -/

/-- The effect of PRST_N asserted, PWR_GOOD low or VIN lost (R421, R448, R465, R466, R418). -/
def State.pinReset (s : State) : State :=
  let s := s.clearCollector
  let s := { s with
      csr := s.csr.filter (fun e => match findReg e.1 with
        | some (r, _) => !(["HRC_STAT", "HRC_ENUM", "HRC_TIME", "HRC_CNT", "HRC_MBOX", "CLK_REFSTAT", "STA_ROT", "STA_STAT", "STA_MARK",
            "STA_LATCH", "HWK_SSTAT", "HWK_STIME", "HWK_SCMD", "HWK_SCFG", "HWK_LMASK"].contains r.name)
        | none => true),
      noticed := [], noticeHeld := [], inReset := true, fallow := false, lanesIdle := true, bypass := true, pings := 0, rotAt := 0,
      startStage := .idle }
  (List.range 8).foldl (fun s n => s.setF (DRM_SSTAT n) DRM_SSTAT.STATE 1) s

/-- A cold start begins once no pin and no scan hold holds it back (R399, R465, R470). -/
def State.releaseStart (s : State) : State :=
  if s.prst || s.pwrLow || s.vinLow || s.scanHold then s else s.beginStart false false

/-- POWER_ON (R399): VIN rises into range; island 17 has just powered up. -/
def State.powerOn (s : State) : State :=
  (({ s with vinLow := false, scanHold := false, tapIr := 1, wipeAt := none }.pinReset).setFs CIS_SRSTAT
    [(CIS_SRSTAT.WIPING, 0), (CIS_SRSTAT.CAUSE, 0), (CIS_SRSTAT.WIPES, 0)]).releaseStart
def execPowerOn (s : State) : Host.Outcome State Fault Refusal := .next s.powerOn

/-- PRST_ASSERT (R465): PRST_N asserted for 10 µs. -/
def execPrstAssert (s : State) : Host.Outcome State Fault Refusal := .next { s with prst := true }.pinReset

/-- PRST_RELEASE (R399). -/
def execPrstRelease (s : State) : Host.Outcome State Fault Refusal :=
  .next (if s.prst then { s with prst := false }.releaseStart else s)

/-- PWR_GOOD_LOW (R465): low for 1 µs with PRST_N released. -/
def execPwrGoodLow (s : State) : Host.Outcome State Fault Refusal := .next { s with pwrLow := true }.pinReset

/-- PWR_GOOD_HIGH (R465). -/
def execPwrGoodHigh (s : State) : Host.Outcome State Fault Refusal :=
  .next (if s.pwrLow then { s with pwrLow := false }.releaseStart else s)

/-- VIN_LOW (R466): below 44.0 V for 100 µs; TAMPER_N is not sensed until the next start. -/
def execVinLow (s : State) : Host.Outcome State Fault Refusal := .next { s with vinLow := true }.pinReset

/-- VIN_OUTSIDE_RANGE (R466): outside 48-60 V for 1 ms, still above 44.0 V; the module keeps running. -/
def execVinOutsideRange (high : Bool) (s : State) : Host.Outcome State Fault Refusal :=
  .next (if s.vinLow then s else s.fault0 (if high then 0xA9 else 0xA8) mstNone accNone)

/-! Requests (R399, R400) -/

/-- A WARM request is refused: in STARTING, with a stack at base rate, or while the ledger is not READY (R400). -/
def State.warmRefused (s : State) : Bool :=
  s.fld HWK_SSTAT HWK_SSTAT.PHASE == 0 || s.fld HWK_SSTAT HWK_SSTAT.BASEMASK != 0
    || s.fld LGR_STAT LGR_STAT.STATE != 2

/-- A request for a start: 1 WARM, 2 COLD, 3 is refused BAD-OP; no request starts a module in reset or fallow (R417). -/
def State.startRequest (s : State) (op : Nat) : State :=
  if s.inReset || s.fallow || op = 0 then s
  else if op = 3 then s.setF HWK_SSTAT HWK_SSTAT.RESULT 2
  else if op = 1 && s.warmRefused then s.setF HWK_SSTAT HWK_SSTAT.RESULT 1
  else s.beginStart (op == 1) false

/-- START_WARM. -/
def execStartWarm (s : State) : Host.Outcome State Fault Refusal := .next (s.startRequest 1)
/-- START_COLD. -/
def execStartCold (s : State) : Host.Outcome State Fault Refusal := .next (s.startRequest 2)
/-- START_BAD_OP (R418). -/
def execStartBadOp (s : State) : Host.Outcome State Fault Refusal := .next (s.startRequest 3)
/-- GO in HWK_SCMD. -/
def State.hwkGo (s : State) : State := s.startRequest (s.fld HWK_SCMD HWK_SCMD.OP)

/-! The repair store (R453) and BIST (R403) -/

/-- One record of the repair store applied at a cold start. -/
def State.applyRepair (s : State) (r : Nat × Nat) : State :=
  let u := r.2
  if r.1 = repCore then
    ((s.setRole u roleRetired).setRole (u / 10 * 10 + 9) (if u % 10 = 9 then roleRetired else roleSplit)).wr SPR_LEFT
      (setBit (s.rd SPR_LEFT) (u / 10) false)
  else if r.1 = repChecker then { s.drop SPR_LEFT SPR_LEFT.CHECKERS with chkRetired := insertNat s.chkRetired u }
  else if r.1 = repLane then
    let l := u / 512
    let s := s.setF (LNK_PSTAT (s.laneOf l)) LNK_PSTAT.CARRIES 0x1FF
    ((s.setF (LNK_PSTAT (u % 512)) LNK_PSTAT.CARRIES l).setF (LNK_STAT l) LNK_STAT.LANE (u % 512)).drop SPR_LEFT SPR_LEFT.LANES
  else if r.1 = repRow then
    let b := u / 2 ^ 17
    let s := { s with rowsUsed := s.rowsUsed.modify 0 b (· + 1) }
    s.drop (DRM_SSTAT (b / 256)) DRM_SSTAT.ROWS_LEFT
  else if r.1 = repChannel then
    let s := { s with rowsUsed := s.rowsUsed.filter (fun e => e.1 / 16 != u) }
    let s := s.setFs (DRM_SSTAT (u / 16)) [(DRM_SSTAT.SPARED, u % 16), (DRM_SSTAT.ROWS_LEFT, s.rowsLeft (u / 16))]
    s.wr SPR_LEFT (setBit (s.rd SPR_LEFT) (27 + u / 16) false)
  else if r.1 = repCisRow then s.drop (CIS_BSTAT (u / 1024)) CIS_BSTAT.ROWS_LEFT
  else if r.1 = repCipher then (s.drop CIP_STAT CIP_STAT.SPARES_LEFT).drop SPR_LEFT SPR_LEFT.CIPHER
  else if r.1 = repCmp then (s.drop CMP_STAT CMP_STAT.SPARES_LEFT).drop SPR_LEFT SPR_LEFT.CMP
  else if r.1 = repHrRx then (s.setF HRC_STAT HRC_STAT.SPARE_RX 1).setF SPR_LEFT SPR_LEFT.HR_RX 0
  else if r.1 = repHrTx then (s.setF HRC_STAT HRC_STAT.SPARE_TX 1).setF SPR_LEFT SPR_LEFT.HR_TX 0
  else s

/-- A core retired by BIST; the cluster's spare comes into service (R403, R451). -/
def State.bistCore (s : State) (c : Nat) : State :=
  if s.role c = roleRetired then s
  else if s.role c = roleSpare then (s.setRole c roleRetired).spendCore c
  else
    match s.clusterSpare c with
    | some sp => ((s.setRole c roleRetired).setRole sp roleSplit).spendCore c
    | none => (s.setRole c roleRetired).exhausted

/-- A BIST failure that does not by itself end the start (R403); a warm start's array tests leave banks 8 and 9 out (R407 step 3). -/
def State.bistOne (s : State) : BistFail → State
  | .vital => s
  | .core c => s.bistCore c.val
  | .cluster i => { s with badIslands := insertNat s.badIslands i.val }.fault0 0x91 mstNone accNone
  | .master b => s.setSlu b slFAILED
  | .cipher => s.retireCipher
  | .engine => s.retireEngine
  | .cisternRow b row =>
    if s.flag HWK_SSTAT HWK_SSTAT.KIND && (b.val == 8 || b.val == 9) then s
    else if 0 < s.fld (CIS_BSTAT b.val) CIS_BSTAT.ROWS_LEFT then
      (s.drop (CIS_BSTAT b.val) CIS_BSTAT.ROWS_LEFT).repaired repCisRow (b.val * 1024 + row.val)
    else s.exhausted
  | .dramRow n ch bank row => s.spareRow n.val ch.val bank.val row.toNat
  | .compression => { s with badIslands := insertNat s.badIslands 13 }.fault0 0x92 mstNone accNone

/-- The headworks requests an image of a start with a new REQ (R410, R435). -/
def State.requestImage (s : State) (st : StartStage) (typ : Nat) : State :=
  let req := (s.imageIn.req + 1) % 65536
  { s with startStage := st, imageIn := ⟨req, [], false, 0⟩ }.notice 3
    (noticePayload 3 [(2, typ), (4, req / 256), (5, req % 256)])

/-- Steps 2 and 3: the reference locks, the repair store is applied at a cold start, BIST runs and the clears of the banks, 57 µs
long, end; then the HEADWORKS image is requested. -/
def State.startBist (s : State) (o : StartOutcome) : State :=
  let warm := s.flag HWK_SSTAT HWK_SSTAT.KIND
  if !warm && !o.refLock then s.startFail 1 2
  else
    let s := if warm then s
      else s.repair.foldl State.applyRepair ({ s.setF CLK_REFSTAT CLK_REFSTAT.REFLOCK 1 with bypass := false }.beginWipe 0)
    let s := o.bist.foldl State.bistOne s
    let s := (List.range 16).foldl (fun s b => if s.cisState b = cisClearing then s.cisClearDone b else s) s
    let s := (s.badIslands.foldl (fun s i => s.setFs (CLK_ISTAT i) [(CLK_ISTAT.STATE, 3), (CLK_ISTAT.LOCK, 0)]) s)
    if o.bist.contains BistFail.vital || (List.range 8).all (fun i => s.badIslands.contains i) then s.startFail 2 3
    else if s.sluState false = slFAILED && s.sluState true = slFAILED then s.startFail 6 3
    else s.requestImage (.image gciHEADWORKS) gciHEADWORKS

/-! Images (R402, R410, R411) -/

/-- Step 6 of a warm start: the channels are retrained at full rate, and the stacks leave self-refresh (R407, R408). -/
def State.warmTrain (s : State) (fail : List (Fin 8)) : State :=
  if fail != [] then (s.stacksFailed (fail.map Fin.val)).startFail 5 6
  else (List.range 8).foldl (fun s n => s.setF (DRM_SSTAT n) DRM_SSTAT.STATE 0) s

/-- What the writing of an image leads to: the headworks starts; links 0-15 may leave OFF; the next image. -/
def State.imageWritten (s : State) (typ : Nat) (patch : Option Bool) : State :=
  let next (s : State) : State := match patch with
    | none => { s with startStage := .loaded, imageIn := { s.imageIn with full := false, data := [] } }
    | some b => s.requestImage (.patch (gciCORE + b2n b)) (gciCORE + b2n b)
  if typ = gciHEADWORKS then
    let s := [80, 81, 82, 83].foldl (fun s c => s.modCore c (fun k => k.startAt (Config.headworksEntry s.hwkStore.values))) s
    s.requestImage (.image gciFLUME) gciFLUME
  else if typ = gciFLUME then
    let s := { s with lanesIdle := false }.lanesBegin
    let s := if s.flag HWK_SSTAT HWK_SSTAT.KIND then s
      else ((List.range 16).filter (fun l => !s.loopFail.contains (s.laneOf l))).foldl State.linkEnable s
    s.requestImage (.image gciCORE) gciCORE
  else if typ = gciCORE then s.requestImage (.image gciSLUICE) gciSLUICE
  else next s

/-- A whole image of a stage verified: written, or, rejected with BAD-LENGTH or TAG, requested again until its third
presentation fails; any other rejection, and any of a HEADWORKS image, fails the start at once (R137, R138). -/
def State.startImage (s : State) (typ : Nat) (isPatch : Bool) (o : StartOutcome) : State :=
  if !s.imageIn.full then s
  else
    let r := s.present s.imageIn.data [typ] isPatch false
    if r.2 = 0 then
      if typ = gciFLUME && s.flag HWK_SSTAT HWK_SSTAT.KIND && o.dramFail != [] then r.1.warmTrain o.dramFail
      else if isPatch then r.1.imageWritten gciSLUICE o.patch
      else (if typ = gciFLUME && s.flag HWK_SSTAT HWK_SSTAT.KIND then r.1.warmTrain [] else r.1).imageWritten typ o.patch
    else if typ = gciHEADWORKS || 2 ≤ s.imageIn.tries || (r.2 != 4 && r.2 != 0xD) then r.1.startFail 3 r.1.startStep
    else
      let n := s.imageIn.tries
      let s := r.1.requestImage s.startStage typ
      { s with imageIn := { s.imageIn with tries := n + 1 } }

/-! The end of a cold start (R401, R404-R406) -/

/-- Base training (R405, R406): the stack's spare replaces a channel that fails, or stands in for none. -/
def State.baseTrain (s : State) (f : List (Fin 8 × Fin 17)) (n : Nat) : Option State :=
  let bad := (f.filter (fun e => e.1.val == n)).map (fun e => e.2.val)
  let chans := bad.filter (· < 16)
  let spared := s.fld (DRM_SSTAT n) DRM_SSTAT.SPARED
  let used := spared != 0x1F
  let live := chans.filter (fun c => !(used && c == spared))
  match live.eraseDups with
  | [] =>
    if used || bad.contains 16 then some (s.setF HWK_SSTAT HWK_SSTAT.BASEMASK
      ((setBit (Word.ofNat (s.fld HWK_SSTAT HWK_SSTAT.BASEMASK)) n false).toNat))
    else some s
  | [c] =>
    if used || bad.contains 16 then none
    else some ((s.spareServes n c).setF HWK_SSTAT HWK_SSTAT.BASEMASK
      ((setBit (Word.ofNat (s.fld HWK_SSTAT HWK_SSTAT.BASEMASK)) n false).toNat))
  | _ => none

/-- PHASE = TRICKLE (R401 step 11, R407 step 11, R412): the cores start at /8, island 13 is OFF, sluice A, or B in its place,
is granted the turn. -/
def State.trickle (s : State) (us : Nat) : State :=
  let entry := Config.imageEntry s.hwkStore.values
  let s := ((List.range 80).filter (fun c => s.role c == roleSplit)).foldl (fun s c =>
    s.modCore c (fun k => k.startAt entry)) s
  let s := [0, 1, 2, 3, 4, 5, 6, 7, 12].foldl (fun s i => s.setF (CLK_ISTAT i) CLK_ISTAT.DIV 5) s
  let s := { s with clkDiv := [0, 1, 2, 3, 4, 5, 6, 7, 12].foldl (fun t i => t.put i 5) s.clkDiv }
  let s := s.setFs (CLK_ISTAT 13) [(CLK_ISTAT.STATE, 3), (CLK_ISTAT.LOCK, 0)]
  let s := { s.setPhase 1 with startStage := .idle }.setF HWK_STIME HWK_STIME.TRICKLE_AT us
  let s := if s.flag HWK_SCFG HWK_SCFG.HOLD_TRICKLE then s.clearCounts else s
  s.grantTurn (s.sluState false == slFAILED)

/-- Steps 6 and 9 to 11 of a cold start: base training, the clear of all DRAM, the ledger initialised. -/
def State.coldFinish (s : State) (o : StartOutcome) : State :=
  match (List.range 8).foldl (fun (r : Option State) n => r.bind (fun t => t.baseTrain o.baseFail n)) (some s) with
  | none => (s.stacksFailed ((List.range 8).filter (fun n => (s.baseTrain o.baseFail n).isNone))).startFail 5 6
  | some t =>
    let t := { t with
        mem := memErase t.mem 0 0x8000000000, dram := [], resOld := [], resPoison := [], dramPoison := [],
        poison := t.poison.filter (fun b => decide (0x200000000 ≤ b)), live := [] }
    let t := (List.range 8).foldl (fun t n => t.setF (DRM_SSTAT n) DRM_SSTAT.STATE 0) t
    (t.setFs LGR_STAT [(LGR_STAT.STATE, 2), (LGR_STAT.FREE, 4194304)]).trickle o.us.toNat |>.keyResume.altResume

/-! The end of a warm start (R319, R271, R326, R407-R409) -/

/-- VER a is newer than b (R319). -/
def verNewer (a b : Nat) : Bool := decide (0 < (a + 65536 - b) % 65536) && decide ((a + 65536 - b) % 65536 < 32768)

/-- One record of the scan (R319 steps 1 and 2): a copy is repaired from the newer or the good one, or both are rewritten as
FREE. -/
def State.scanRecord (s : State) (bad : List (BitVec 22 × Bool)) (i : Nat) : State :=
  let p := ledgerPrimary i
  let m := ledgerMirror i
  let badAt (mirror : Bool) : Bool := bad.any (fun e => e.1.toNat == i && e.2 == mirror)
  let bp := badAt false || s.poisoned p
  let bm := badAt true || s.poisoned m
  let mst := 0x090 + b2n (s.sluState false == slFAILED)
  let s := if badAt false then s.dramRead p .uncorrectable mst accRead else s
  let s := if badAt true then s.dramRead m .uncorrectable mst accRead else s
  if bp && bm then
    (s.ledgerPut i (List.replicate 64 0)).fault 0x40 mstNone accNone (Word.ofNat p)
  else
    let vp := (recOf (s.bytes p 64)).ver
    let vm := (recOf (s.bytes m 64)).ver
    let s := if bp then s.fault 0x3C mstNone accNone (Word.ofNat p) else s
    if bp || (!bm && verNewer vm vp) then (s.writeThrough p (s.bytes m 64)).bump LGR_CNT1 LGR_CNT1.MIRROR_FIX 1
    else if bm || s.bytes p 64 != s.bytes m 64 then (s.writeThrough m (s.bytes p 64)).bump LGR_CNT1 LGR_CNT1.MIRROR_FIX 1
    else s

/-- The records that anything was written to or marked in: every other one is FREE with VER 0 in both copies. -/
def State.touchedRecords (s : State) (bad : List (BitVec 22 × Bool)) : List Nat :=
  let idx (a : Nat) : Option Nat :=
    if 0x7FE0000000 ≤ a && a < 0x8000000000 then some ((a - 0x7FE0000000) / 64 % 4194304) else none
  let l := s.mem.filterMap (fun c => idx c.1) ++ s.poison.filterMap (fun b => idx (b * 64)) ++ bad.map (fun e => e.1.toNat)
  l.foldl (fun l i => if l.head? = some i then l else insertNat l i) []

/-- The live records found by the scan (R319 step 3). -/
def State.scanLedger (s : State) (bad : List (BitVec 22 × Bool)) : State :=
  let all := s.touchedRecords bad
  let s := all.foldl (fun s i => s.scanRecord bad i) s
  { s with live := all.filter (fun i => (s.record i).unended || (s.record i).ended) }

/-- The doorbell records of a reloaded session (R271): the first DSEQ not found in its ring is the next to be assigned. -/
def State.findBells (s : State) (k : Session) : Nat → Nat → Nat
  | 0, d => d
  | f + 1, d =>
    if s.num (k.dring + 16 * (d % 2 ^ k.dlog2) + 8) 6 = d then State.findBells s k f ((d + 1) % 2 ^ 48) else d

/-- The session that a context image entry spells; its path list tells which links had answered (R271, R274). -/
def sessionOf (e : List Byte) : Session :=
  let k : Session := { Session.closed with desc := e.take 64 }
  let w (o : Nat) : Nat := leNat ((e.drop o).take 8)
  { k with
    state := bits (w 0x40) 0 3, active := bits (w 0x40) 3 2, sepoch := bits (w 0x40) 16 16, nextTseq := bits (w 0x48) 0 48,
    attn := bits (w 0x60) 0 48, nextDseq := bits (w 0x68) 0 48, wlog2 := bits (w 0x70) 0 5, opts := bits (w 0x70) 5 2,
    answered := (List.range 4).filterMap (fun j => if (w 0x70).testBit (8 + j) then some (k.path j) else none),
    reason := if bits (w 0x40) 0 3 = ssBROKEN && k.desc.all (· == 0) then rsCONTEXT else 0 }

/-- The records of a session whose context is lost: those not yet ended end FAILED, 0x10 or 0x11, and every one is retired without
an entry (R271, R319 step 5). -/
def State.loseRecs (s : State) (n : Nat) : State :=
  (s.sessionRecs n).foldl (fun s i =>
    let r := s.record i
    let s := if r.unended then
        (s.putRec i { r with
          state := rFAILED, status := if r.state = rACCEPTED then 0x10 else 0x11,
          detail := rsCONTEXT, tpv := false }).bump LGR_CNT0 LGR_CNT0.ENDED 1
      else s
    s.retireRec i) s

/-- A session's context is lost at a warm start (R271). -/
def State.loseSession (s : State) (n : Nat) : State :=
  ((s.loseRecs n).setF SES_STAT SES_STAT.CTXERR 1).putSession n { Session.closed with state := ssBROKEN, reason := rsCONTEXT }

/-- A session's context reloaded from its image entry (R271): of a CLOSED one too, whose ended records may still await their
retirement (R27); one never opened stands for itself. -/
def State.reloadSession (s : State) (n : Nat) : State :=
  let a := s.fld SES_CFG SES_CFG.CTXBASE * 2 ^ 25 + 128 * n
  let e := s.bytes a 128
  if s.poisonedRange a 128 || crc32c (e.take 124) != leNat (e.drop 124) then s.loseSession n
  else
    let k := sessionOf e
    if k = Session.closed then s
    else
      let k := { k with bellDseq := if k.state = ssCLOSED then k.nextDseq else s.findBells k (2 ^ k.dlog2) k.nextDseq }
      { s with sessions := s.sessions.put n k }

/-- What a reloaded context leads to: OPENING becomes CLOSED, a session of an allotment whose context is lost becomes BROKEN
CONTEXT-LOST, CLOSING becomes BROKEN, a session that lost a record is reset on its first path to come UP (R271, R319 step 6, R326).
-/
def State.settleSession (lost : List Nat) (s : State) (n : Nat) : State :=
  let k := s.session n
  let shown := bits (leNat (((s.bytes (s.fld SES_CFG SES_CFG.CTXBASE * 2 ^ 25 + 128 * n) 128).drop 0x58).take 8)) 0 23
  if k.state = ssOPENING then s.putSession n { k with state := ssCLOSED }
  else if k.moving && lost.contains k.allot then (s.putSession n { k with state := ssOPEN }).resetSession n rsCONTEXT
  else if k.state = ssCLOSING then
    (s.putSession n { k with state := ssOPEN }).resetSession n rsADMIN
  else if k.state = ssOPEN && decide ((s.unendedRecs n k.nextTseq).length < shown) then
    s.putSession n { k with resetDue := some rsLEDGER }
  else s

/-- The address of an allotment's entry in the context image (R326). -/
def State.allotEntry (s : State) (a : Nat) : Nat := s.fld ALT_CFG ALT_CFG.CTXBASE * 2 ^ 21 + 512 * a

/-- An allotment's image entry fails its CRC (R326). -/
def State.allotBad (s : State) (a : Nat) : Bool :=
  let e := s.bytes (s.allotEntry a) 512
  s.poisonedRange (s.allotEntry a) 512 || crc32c (e.take 0x1FC) != leNat (e.drop 0x1FC)

/-- An allotment whose context is lost: FREE, or allotment 0 ACTIVE with its reset values, with CTXLOST and CTXERR set (R326). -/
def State.loseAllot (s : State) (a : Nat) : State :=
  let s := s.resetContext a
  ((s.setFs (ALT_ASTAT a) [(ALT_ASTAT.STATE, if a = 0 then alACTIVE else alFREE), (ALT_ASTAT.CTXLOST, 1)]).altSync a).setF
    ALT_STAT ALT_STAT.CTXERR 1

/-- An allotment's context reloaded from its image entry (R326). -/
def State.reloadAllot (s : State) (a : Nat) : State :=
  let e := s.bytes (s.allotEntry a) 512
  if s.allotBad a then s.loseAllot a
  else
    (List.range 63).foldl (fun s i =>
      let v := Word.ofNat (leNat ((e.drop (8 * i)).take 8))
      if s.rd (ALT_ASTAT a + 8 * i) = v then s else s.wr (ALT_ASTAT a + 8 * i) v) s

/-- Records of sessions put in TSEQ order within each session, the sessions in order of number: the acceptance order as far as the
reloaded contexts show it (R319, R355; log entry 49). -/
def State.inTseqOrder (s : State) (sessions l : List Nat) : List Nat :=
  sessions.flatMap (fun n =>
    (((l.filter (fun i => (s.record i).session == n)).map (fun i => ((s.record i).tseq, i))).foldl
      (insertTseq (((s.session n).nextTseq + 2 ^ 47) % 2 ^ 48)) []).map Prod.snd)

/-- The sessions that own a record of a list. -/
def State.ownersOf (s : State) (l : List Nat) : List Nat := l.foldl (fun t i => insertNat t (s.record i).session) []

/-- The reservations that an unended transaction makes again (R355, R375). -/
def State.reserveAgain (s : State) (i : Nat) : State :=
  let r := s.record i
  let k := s.session r.session
  if !r.unended then s
  else
    let s := if r.inbound && r.isSealed then
        let p := if r.squeeze then cmpBound k.format r.count 0 else r.count
        { s with basinQueue := s.basinQueue ++ [(i, min ((p + 65535) / 65536 + 1) 64)] }.syncBasin
      else s
    if !r.inbound && r.squeeze && r.state != rACKED then
      { s with stageQueue := s.stageQueue ++ [(i, (cmpBound k.format r.count 0 + 1048575) / 1048576)] }
    else s

/-- Each ring's producer index (R319 step 7): the larger of its consumer index word and the highest TPOS + 1. -/
def State.findProducer (s : State) (n : Nat) : State :=
  let k := s.session n
  let c := s.num k.tcons 4
  let ps := (s.live.map s.record).filter (fun r => r.ended && r.tpv && (s.session r.session).tring == k.tring)
  let ahead (x : Nat) : Nat := (x + 2 ^ 32 - c) % 2 ^ 32
  let p := ps.foldl (fun m r => if ahead ((r.tpos + 1) % 2 ^ 32) < 2 ^ 31 && ahead m < ahead ((r.tpos + 1) % 2 ^ 32)
    then (r.tpos + 1) % 2 ^ 32 else m) c
  { s with tailProd := s.tailProd.put k.tring p, tailCons := s.tailCons.put k.tring c }

/-- QUEUED of an allotment counted anew from the ledger (R326), with OVER_ALLOTMENT (R334). -/
def State.recountQueued (s : State) (a : Nat) : State :=
  let n := (s.live.filter (fun i => (s.record i).state == rACCEPTED && (s.session (s.record i).session).allot == a)).length
  if n = s.queued a then s else s.setQueued a n

/-- The allotments whose QUEUED is not 0, or which own an ACCEPTED record. -/
def State.queuers (s : State) : List Nat :=
  let held := s.csr.filterMap (fun e =>
    if decide (0x14400000 ≤ e.1) && decide (e.1 < 0x14600000) && e.1 % 0x200 == 0 && ALT_ASTAT.QUEUED.get e.2 != 0 then
      some ((e.1 - 0x14400000) / 0x200) else none)
  (s.live.filter (fun i => (s.record i).state == rACCEPTED)).foldl (fun l i => insertNat l (s.session (s.record i).session).allot)
    held

/-- Step 9 of a warm start (R319, R271, R326): the ledger scanned, contexts reloaded, rings and reservations set up again. Without a
context image the contexts of the sessions that own records, and of the allotments that sessions name, are lost (log entry 49). -/
def State.warmScan (s : State) (o : StartOutcome) : State :=
  let s := s.scanLedger o.badCopies
  let bad := if s.altImage then (List.range 4096).filter s.allotBad else []
  let s := if s.altImage then (List.range 4096).foldl State.reloadAllot s else s
  let s := if s.sesImage then (List.range 262144).foldl State.reloadSession s else (s.ownersOf s.live).foldl State.loseSession s
  let known := s.sessions.filter (fun e => e.2.reason != rsCONTEXT)
  let named := known.foldl (fun l e => insertNat l e.2.allot) []
  let lost := if s.altImage then bad else named
  let s := if s.altImage then s else lost.foldl State.loseAllot s
  let open_ := ((known.filter (fun e => e.2.state == ssCLOSED) ++ known.filter (fun e => e.2.state != ssCLOSED)).map Prod.fst)
  let s := open_.foldl State.findProducer s
  let ended := s.live.filter (fun i => (s.record i).ended && open_.contains (s.record i).session)
  let again := ended.filter (fun i => (s.record i).tpv)
  let late := s.inTseqOrder open_ (ended.filter (fun i => !(s.record i).tpv))
  let s := State.assignSlots ((again ++ late).map TailItem.record ++ s.entriesDue.filter (fun t => open_.contains (s.itemSession t))) [] s
  let s := s.queuers.foldl State.recountQueued s
  let s := open_.foldl (State.settleSession lost) s
  let s := (s.inTseqOrder (s.ownersOf s.live) s.live).foldl State.reserveAgain s
  let s := open_.foldl (fun s n => s.syncRefs (s.session n).dict) s
  let s := (s.syncGauges (open_.flatMap (fun n => (s.session n).links)).eraseDups).syncActive
  (s.setF LGR_STAT LGR_STAT.STATE 2).countFree

/-- Steps 9 to 11 of a warm start; a channel that then fails its training still fails the start (R408). -/
def State.warmFinish (s : State) (o : StartOutcome) : State :=
  if o.dramFail != [] then s.warmTrain o.dramFail
  else
    let s := s.warmTrain []
    let s := (s.setF LGR_STAT LGR_STAT.STATE 1).warmScan o
    let s := ((List.range 16).filter (fun l => !s.loopFail.contains (s.laneOf l))).foldl State.linkEnable s
    s.trickle o.us.toNat

/-- A start goes on: to the request of an image, through the image received, or into trickle service. -/
def State.startOn (s : State) (o : StartOutcome) : State :=
  match s.startStage with
  | .idle => s
  | .begun => s.startBist o
  | .image typ => s.startImage typ false o
  | .patch typ => s.startImage typ true o
  | .loaded => if s.flag HWK_SSTAT HWK_SSTAT.KIND then s.warmFinish o else s.coldFinish o

/-- COLD_START (R401). -/
def execColdStart (o : StartOutcome) (s : State) : Host.Outcome State Fault Refusal :=
  .next (if s.starting && !s.flag HWK_SSTAT HWK_SSTAT.KIND then s.startOn o else s)

/-- WARM_START (R407). -/
def execWarmStart (o : StartOutcome) (s : State) : Host.Outcome State Fault Refusal :=
  .next (if s.starting && s.flag HWK_SSTAT HWK_SSTAT.KIND then s.startOn o else s)

/-- IMAGE_REQ_TIMEOUT (R410): an image not supplied within 1 s of its request. -/
def execImageReqTimeout (s : State) : Host.Outcome State Fault Refusal :=
  .next (match s.startStage with
    | .image _ | .patch _ => if s.starting && !s.imageIn.full then s.startFail 4 s.startStep else s
    | _ => s)

/-- START_DEADLINE (R415): the deadline of TRICKLE, or of FULL unless HOLD_TRICKLE suspends it. -/
def execStartDeadline (s : State) : Host.Outcome State Fault Refusal :=
  let p := s.fld HWK_SSTAT HWK_SSTAT.PHASE
  .next (if s.inReset || s.fallow || p = 3 then s
    else if p = 0 then (if s.startStage = .idle then s else s.startFail 7 s.startStep)
    else if s.flag HWK_SCFG HWK_SCFG.HOLD_TRICKLE then s
    else s.startFail 7 s.startStep)

/-- START_FAIL (R416): a step of the start fails with a code of LASTFAIL. -/
def execStartFail (code : BitVec 4) (step : BitVec 4) (s : State) : Host.Outcome State Fault Refusal :=
  if code.toNat = 0 ∨ 7 < code.toNat then .refused .illFormed
  else .next (if s.starting then s.startFail code.toNat step.toNat else s)

/-! Trickle service (R401, R404, R406, R412-R414) -/

/-- LANE_LOOPBACK_END (R401, R403): a failed lane's link moves to a serving spare. -/
def execLaneLoopbackEnd (lane : Fin 288) (pass : Bool) (s : State) : Host.Outcome State Fault Refusal :=
  .next (if s.fld HWK_SSTAT HWK_SSTAT.PHASE = 3 || s.inReset || s.fallow || s.loopDone.contains lane.val then s
    else
      let s := { s with loopDone := insertNat s.loopDone lane.val }
      if pass then s
      else
        let s := { s with loopFail := insertNat s.loopFail lane.val }
        let l := s.fld (LNK_PSTAT lane.val) LNK_PSTAT.CARRIES
        if l < 256 then
          match s.freeSpare l with
          | some k => s.takeSpare l k
          | none => s
        else s)

/-- The channel of a stack that full-rate training comes to next: the spare, then each channel in turn (R404). -/
def State.nextTrain (s : State) (n : Nat) : Option Nat :=
  ([16] ++ List.range 16).find? (fun c => !s.fullRate.contains (n * 32 + c))

/-- FULL_RATE_TRAINING (R404, R406): a channel's training ends under service; one that fails stays at base rate. -/
def execFullRateTraining (n : Fin 8) (ch : Fin 17) (ok : Bool) (s : State) : Host.Outcome State Fault Refusal :=
  .next (if s.fld HWK_SSTAT HWK_SSTAT.PHASE != 1 || !(s.fld HWK_SSTAT HWK_SSTAT.BASEMASK).testBit n.val
      || s.nextTrain n.val != some ch.val then s
    else
      let s := { s with
          fullRate := insertNat s.fullRate (n.val * 32 + ch.val),
          trainBad := if ok then s.trainBad else insertNat s.trainBad n.val }
      let s := if ok then s else s.fault0 0x39 mstDram accNone
      if (s.nextTrain n.val).isNone && !s.trainBad.contains n.val then
        s.setF HWK_SSTAT HWK_SSTAT.BASEMASK ((setBit (Word.ofNat (s.fld HWK_SSTAT HWK_SSTAT.BASEMASK)) n.val false).toNat)
      else s)

/-- The transition may begin (R413). -/
def State.mayTransit (s : State) : Bool :=
  s.loopDone.length == 288 && !s.flag HWK_SCFG HWK_SCFG.HOLD_TRICKLE
    && (List.range 8).all (fun n => !(s.fld HWK_SSTAT HWK_SSTAT.BASEMASK).testBit n
      || s.trainBad.contains n)

/-- The links that the headworks enables at T (R414). -/
def State.transitLinks (s : State) : List Nat :=
  (List.range 256).filter (fun l => (s.fld (HWK_LMASK (l / 64)) HWK_LMASK.LINKS).testBit (l % 64)
    && !s.loopFail.contains (s.laneOf l) && s.lstate l != lsUP)

/-- An island goes to RUN at /1, unless BIST left it OFF or a change of it is in progress. -/
def State.toFull (s : State) (i : Nat) : State :=
  if s.badIslands.contains i || (s.clkChange.find i).isSome then s
  else
    let s := { s with clkDiv := s.clkDiv.erase i }
    s.clkStart i { phase := .ramp, target := ckRUN, origin := s.clkStable i, div := 0, back := 0,
                   src := s.fld (CLK_ISTAT i) CLK_ISTAT.SRC, freq := s.freqOf i, relock := false, result := 0 }

/-- Step 1 and 2 of the transition (R413): islands 12, 13 and the core islands in order, the other master, the links. -/
def State.transitBegin (s : State) : State :=
  let s := s.setPhase 2
  let s := ([12, 13] ++ List.range 8).foldl State.toFull s
  let s := [false, true].foldl (fun s b => if s.sluState b = slOFF then s.setSlu b slJOINING else s) s
  let s := { s with fullLinks := s.transitLinks }
  (s.fullLinks.foldl State.linkEnable s).lanesBegin

/-- Steps 4 and 5: the other master joins, or stays FAILED; PHASE = FULL, the counts cleared. -/
def State.transitEnd (s : State) (bistOk : Bool) (us : Nat) : State :=
  let s := [false, true].foldl (fun s b =>
    if s.sluState b = slJOINING then (if s.sluActs then s.joinMaster b bistOk else s.setSlu b slFAILED) else s) s
  (((s.setPhase 3).setF HWK_STIME HWK_STIME.FULL_AT us).clearCounts).restartSwap

/-- A link whose lane runs NRZ leaves it through RETRAIN: UP, or on its way there (R246, R250). -/
def State.leaveNrz (s : State) (l : Nat) : State :=
  if s.fld (LNK_PSTAT (s.laneOf l)) LNK_PSTAT.MODE != 2 then s
  else if s.lstate l = lsTRAIN || s.lstate l = lsLOCK || s.lstate l = lsINIT then
    (s.toRetrain l).setF (LNK_STAT l) LNK_STAT.DOWNCAUSE 6
  else s.linkDown l 6

/-- Step 6: links 0-15 leave NRZ. -/
def State.transitRate (s : State) : State := (List.range 16).foldl State.leaveNrz { s with rateDue := false }

/-- TRANSITION (R413): the event carries the module on by one of its three stages once the stage's conditions hold. -/
def execTransition (bistOk : Bool) (us : BitVec 32) (s : State) : Host.Outcome State Fault Refusal :=
  .next (if s.inReset || s.fallow then s
    else match s.fld HWK_SSTAT HWK_SSTAT.PHASE with
      | 1 => if s.mayTransit then s.transitBegin else s
      | 2 => if ([12, 13] ++ List.range 8).all (fun i => (s.clkChange.find i).isNone) then s.transitEnd bistOk us.toNat else s
      | 3 => if s.rateDue && s.fullLinks.all (fun l => s.lstate l == lsUP || s.lstate l == lsFAILED) then s.transitRate else s
      | _ => s)

end Sys2Proof.Machine
end

