-- ==== Sys2Proof/Machine/Spares.lean ====
section
/-!
DEFINITION. The spares manager (19, R450-R453), the sideband pins and the TAP (20, R467-R470, R480), the life-cycle block
(R471, R472), cache commands and patrol scrubbers (07, R192, R193, R197, R198), and the die-to-die link (R56).
-/

namespace Sys2Proof.Machine
open Sys2Proof Csr

/-! Substitution (R451, R452) -/

/-- The cluster's spare takes the place of a retired core and becomes PARKED. -/
def State.replaceCore (s : State) (c : Nat) : State :=
  match s.clusterSpare c with
  | some sp => ((s.setRole c roleRetired).setRole sp roleParked).spendCore c
  | none => s.exhausted

/-- A consent request raised: SPR_REQ, SPR-CONSENT and line 11. -/
def State.askConsent (s : State) (c reason : Nat) : State :=
  let s := s.setFs SPR_REQ [(SPR_REQ.VALID, 1), (SPR_REQ.CORE, c), (SPR_REQ.REASON, reason)]
  let s := { s with sprNeeds := s.sprNeeds.erase c }.fault0 0x9D (mstCore c) accNone
  if s.flag SPR_CFG SPR_CFG.NOTIFY_EN && decide (s.fld SPR_CFG SPR_CFG.CORE < 80) then s.setLine (s.fld SPR_CFG SPR_CFG.CORE) 11
  else s

/-- One need served by the role of its core; one that needs consent waits while another request stands. -/
def State.serveNeed (s : State) (c reason : Nat) : State :=
  let done := { s with sprNeeds := s.sprNeeds.erase c }
  match s.role c with
  | 2 =>
    match s.groupOf c with
    | some g => done.memberFailed g (s.indexOf c)
    | none => done
  | 1 | 4 => done.replaceCore c
  | 3 => done
  | _ =>
    if s.sprDeferred.contains c then s
    else if (s.clusterSpare c).isNone then done.exhausted
    else if s.flag SPR_REQ SPR_REQ.VALID then s
    else s.askConsent c reason

/-- The needs served in ascending core number. -/
def State.serveNeeds (s : State) : State := s.sprNeeds.foldl (fun s e => s.serveNeed e.1 e.2) s

/-- SPR-WEAR, once for a unit (R450). -/
def State.wearWarning (s : State) (kind unit master : Nat) : State :=
  if s.warned.contains (kind * 65536 + unit) then s
  else { s with warned := insertNat s.warned (kind * 65536 + unit) }.fault0 0x9C master accNone

/-- The slowdown limit of SPR_CFG, and a slowdown that warns. -/
def State.roLimit (s : State) : Nat := s.fld SPR_CFG SPR_CFG.RO_LIMIT_PPM
def State.roWarns (s : State) (ppm : Nat) : Bool := decide (s.roLimit ≤ 2 * ppm)

/-- One core's oscillator. -/
def State.coreWear (s : State) (c ppm : Nat) : State :=
  let s := s.setFs (SPR_CWEAR c) [(SPR_CWEAR.SLOW_PPM, ppm), (SPR_CWEAR.WARN, b2n (s.roWarns ppm))]
  let s := if s.roWarns ppm then s.wearWarning repCore c (mstCore c) else s
  if s.roLimit ≤ ppm then s.need c 1 else s

/-- One island's oscillator: its host decides what to do. -/
def State.islandWear (s : State) (i ppm : Nat) : State :=
  let s := s.setFs (SPR_IWEAR i) [(SPR_IWEAR.SLOW_PPM, ppm), (SPR_IWEAR.WARN, b2n (s.roWarns ppm))]
  if s.roWarns ppm then s.wearWarning 10 i mstNone else s

/-- One block core's or engine's oscillator: a spare takes the place of a worn one; with none left it stays in service (R450,
R451). -/
def State.unitWear (s : State) (cipher : Bool) (u ppm : Nat) : State :=
  let s := if s.roWarns ppm then s.wearWarning (if cipher then repCipher else repCmp) u (if cipher then mstCipher else mstCmp)
    else s
  let left := if cipher then s.fld CIP_STAT CIP_STAT.SPARES_LEFT else s.fld CMP_STAT CMP_STAT.SPARES_LEFT
  if ppm < s.roLimit then s
  else if left = 0 then s.exhausted
  else if cipher then s.swapCipher
  else s.swapEngine

/-- One lane's eye: its present opening, and how many refreshes in a row found it below the limit. -/
def State.laneWear (s : State) (lane eye low : Nat) : State :=
  let lim := s.fld SPR_CFG SPR_CFG.EYE_MIN_MV
  let s := s.setF (LNK_PSTAT lane) LNK_PSTAT.EYE_MV eye
  if lim = 0 then s
  else
    let s := if eye < 2 * lim then s.wearWarning repLane lane mstNone else s
    let l := s.fld (LNK_PSTAT lane) LNK_PSTAT.CARRIES
    if 1000 ≤ low && l < 256 then
      if s.lstate l = lsUP && (s.link l).move.isNone && (s.runSpare l).isNone then s.exhausted else s.linkMove l
    else s

/-- Spare rows used in a channel. -/
def State.channelRows (s : State) (n ch : Nat) : Nat :=
  ((List.range 16).map (fun b => s.rowsUsed.get 0 (bankKey n ch b))).foldl (· + ·) 0

/-- One channel's rows: substituted once it has used CH_ROWS. -/
def State.channelWear (s : State) (n ch : Nat) : State :=
  let used := s.channelRows n ch
  let lim := s.fld SPR_CFG SPR_CFG.CH_ROWS
  let s := if lim ≤ 2 * used && used != 0 then s.wearWarning repChannel (n * 16 + ch) mstDram else s
  if lim ≤ used && used != 0 then
    if s.fld (DRM_SSTAT n) DRM_SSTAT.SPARED = ch then s
    else if s.fld (DRM_SSTAT n) DRM_SSTAT.SPARED != 0x1F then s.exhausted
    else s.substitute n ch
  else s

/-- WEAR_EVALUATION (R450, R451): the readings of one second; then the needs that stand are served. -/
def State.evaluateWear (s : State) (w : WearReading) : State :=
  let s := w.cores.foldl (fun s e => s.coreWear e.1.val e.2.toNat) s
  let s := w.islands.foldl (fun s e => s.islandWear e.1.val e.2.toNat) s
  let s := w.cipher.foldl (fun s e => s.unitWear true e.1.toNat e.2.toNat) s
  let s := w.engines.foldl (fun s e => s.unitWear false e.1.val e.2.toNat) s
  let s := w.lanes.foldl (fun s e => s.laneWear e.lane.val e.eye.toNat e.low.toNat) s
  let s := (List.range 128).foldl (fun s k => s.channelWear (k / 16) (k % 16)) s
  s.serveNeeds
def execWearEvaluation (w : WearReading) (s : State) : Host.Outcome State Fault Refusal := .next (s.evaluateWear w)

/-- A SPR command ends with a RESULT. -/
def State.endSpr (s : State) (r : Nat) : State := s.setFs SPR_STAT [(SPR_STAT.BUSY, 0), (SPR_STAT.DONE, 1), (SPR_STAT.RESULT, r)]

/-- The core that SPR_CMD names is the one that SPR_REQ names. -/
def State.sprNamed (s : State) : Bool :=
  s.flag SPR_REQ SPR_REQ.VALID && s.fld SPR_CMD SPR_CMD.CORE == s.fld SPR_REQ SPR_REQ.CORE

/-- CONSENT (R452); a core that has meanwhile joined a group is replaced as a member is (R451). -/
def State.sprConsent (s : State) : State :=
  let c := s.fld SPR_CMD SPR_CMD.CORE
  if c < 80 && s.role c = roleSplit then s.endSpr 1
  else if !s.sprNamed then s.endSpr 2
  else
    let s := s.setF SPR_REQ SPR_REQ.VALID 0
    let s := match s.groupOf c with
      | some g => s.memberFailed g (s.indexOf c)
      | none => s.replaceCore c
    (s.serveNeeds).endSpr 0

/-- DEFER (R452): the request is withdrawn for 24 h. -/
def State.sprDefer (s : State) : State :=
  let c := s.fld SPR_CMD SPR_CMD.CORE
  if !s.sprNamed then s.endSpr 2
  else
    let reason := s.fld SPR_REQ SPR_REQ.REASON
    let s := { s.setF SPR_REQ SPR_REQ.VALID 0 with
        sprNeeds := s.sprNeeds.put c reason, sprDeferred := insertNat s.sprDeferred c }
    (s.serveNeeds).endSpr 0

/-- GO in SPR_CMD with an OP, ignored while BUSY (R457). -/
def State.sprGo (s : State) (op : Nat) : State :=
  if s.flag SPR_STAT SPR_STAT.BUSY then s
  else match op with
    | 0 => s.endSpr 0
    | 1 => s.sprConsent
    | 2 => s.sprDefer
    | _ => s.endSpr 3

/-- SPR_CONSENT. -/
def execSprConsent (s : State) : Host.Outcome State Fault Refusal := .next (s.sprGo 1)
/-- SPR_DEFER. -/
def execSprDefer (s : State) : Host.Outcome State Fault Refusal := .next (s.sprGo 2)
/-- SPR_BAD_OP (R457). -/
def execSprBadOp (s : State) : Host.Outcome State Fault Refusal := .next (s.sprGo 3)

/-- DEFER_EXPIRY (R452): 24 h have passed; the request is raised again if the need persists. -/
def execDeferExpiry (c : Fin 80) (persists : Bool) (s : State) : Host.Outcome State Fault Refusal :=
  .next (if s.sprDeferred.contains c.val then
    let s := { s with
        sprDeferred := removeNat s.sprDeferred c.val,
        sprNeeds := if persists then s.sprNeeds else s.sprNeeds.erase c.val }
    s.serveNeeds
  else s)

/-! TAMPER_N and heat (R467, R480) -/

/-- TAMPER_ASSERT (R467): TAMPER_N held for 10 µs; not sensed in reset (PRST_N asserted or PWR_GOOD low, R464,
R465) or without VIN. -/
def execTamperAssert (s : State) : Host.Outcome State Fault Refusal :=
  .next (if s.prst || s.pwrLow || s.vinLow || s.tamper then s
    else ((({ s with tamper := true }.setF LCS_STAT LCS_STAT.TAMPER 1).fault0 0xA0 mstNone accNone).wipeStrongroom 1))

/-- TAMPER_RELEASE (R467). -/
def execTamperRelease (s : State) : Host.Outcome State Fault Refusal :=
  .next ({ s with tamper := false }.setF LCS_STAT LCS_STAT.TAMPER 0)

/-- THERMAL_SENSE (R480): the hottest junction and the coolant's inlet and outlet, in °C. -/
def execThermalSense (tj tin tout : BitVec 8) (s : State) : Host.Outcome State Fault Refusal :=
  let was := s.flag LEV_TSTAT LEV_TSTAT.HIGH
  let s := s.setFs LEV_TSTAT [(LEV_TSTAT.TJ_MAX, tj.toNat), (LEV_TSTAT.T_IN, tin.toNat), (LEV_TSTAT.T_OUT, tout.toNat)]
  .next (if 105 ≤ tj.toNat || 45 < tin.toNat then
      let s := { s.setF LEV_TSTAT LEV_TSTAT.HIGH 1 with heatFloor := 4 }
      let s := s.setThrottle (s.fld LEV_PSTAT LEV_PSTAT.THROTTLE)
      if was then s else s.fault0 0xA4 mstNone accNone
    else if tj.toNat ≤ 100 && tin.toNat ≤ 43 then { s.setF LEV_TSTAT LEV_TSTAT.HIGH 0 with heatFloor := 0 }
    else s)

/-- THERM_TRIP (R480): fatal. -/
def execThermTrip (s : State) : Host.Outcome State Fault Refusal := .next (s.fault0 0xA5 mstNone accNone)

/-! The life cycle (R471, R472) -/

/-- GO in LCS_CMD: one step forward, or to SCRAPPED, wipes the strongroom. -/
def State.lcsGo (s : State) : State :=
  let t := s.fld LCS_CMD LCS_CMD.TARGET
  let st := s.fld LCS_STAT LCS_STAT.STATE
  let ends (s : State) (r : Nat) : State := s.setFs LCS_STAT [(LCS_STAT.BUSY, 0), (LCS_STAT.DONE, 1), (LCS_STAT.RESULT, r)]
  if s.flag LCS_STAT LCS_STAT.BUSY then s
  else if 5 ≤ t then ends s 2
  else if t = 4 || (t = st + 1 && t < 4) then ends ((s.setF LCS_STAT LCS_STAT.STATE t).wipeStrongroom 2) 0
  else ends s 1

/-- LCS_STATE_CHANGE. -/
def execLcsStateChange (s : State) : Host.Outcome State Fault Refusal := .next s.lcsGo

/-- A fuse command ends with a RESULT. -/
def State.endFuse (s : State) (r : Nat) : State :=
  s.setFs LCS_FSTAT [(LCS_FSTAT.BUSY, 0), (LCS_FSTAT.DONE, 1), (LCS_FSTAT.RESULT, r)]

/-- The argument area of LCS_FARG, and whether its bytes can be had. -/
def State.fuseArea (s : State) : Nat := s.fld LCS_FARG LCS_FARG.ADDR * 64
def State.fuseAreaGood (s : State) (n : Nat) : Bool :=
  s.rangeClass s.fuseArea == .normal && !s.poisonedRange s.fuseArea n

/-- OEM-HASH: once, in PROVISIONED. -/
def State.fuseOem (s : State) : State :=
  if s.fld LCS_STAT LCS_STAT.STATE != 1 then s.endFuse 1
  else if s.oemHash.isSome then s.endFuse 2
  else if !s.fuseAreaGood 48 then s.endFuse 3
  else ({ s with oemHash := some (beNat (s.bytes s.fuseArea 48)) }.setF LCS_FSTAT LCS_FSTAT.OEMHASH 1).endFuse 0

/-- KIK: once, in PROVISIONED; the argument area is zeroed. -/
def State.fuseKik (s : State) : State :=
  if s.fld LCS_STAT LCS_STAT.STATE != 1 then s.endFuse 1
  else if s.kik.isSome then s.endFuse 2
  else if !s.fuseAreaGood 64 then s.endFuse 3
  else
    let key := (s.bytes s.fuseArea 32).map BitVec.toNat
    (({ s with kik := some key }.blockWrite s.fuseArea (List.replicate 64 0) false).setF LCS_FSTAT LCS_FSTAT.KIK 1).endFuse 0

/-- SVN: a floor raised, at most 32 times for a TYPE. -/
def State.fuseSvn (s : State) : State :=
  let t := s.fld LCS_FCMD LCS_FCMD.TYPE
  let v := s.fld LCS_FCMD LCS_FCMD.SVN
  if 4 ≤ s.fld LCS_STAT LCS_STAT.STATE then s.endFuse 1
  else if t = 0 || 4 < t then s.endFuse 3
  else if v ≤ s.svnFloor t then s.endFuse 4
  else if 32 ≤ s.svnRaises.get 0 t then s.endFuse 6
  else ({ s with svnRaises := s.svnRaises.modify 0 t (· + 1) }.setF LCS_SVN ⟨16 * (t - 1), 16⟩ v).endFuse 0

/-- REVOKE: an image key, unless it is the last one left. -/
def State.fuseRevoke (s : State) : State :=
  let k := s.fld LCS_FCMD LCS_FCMD.KEYIDX
  let st := s.fld LCS_STAT LCS_STAT.STATE
  let rev := s.fld LCS_FSTAT LCS_FSTAT.REVOKED
  if st = 0 || 4 ≤ st then s.endFuse 1
  else if rev.testBit k then s.endFuse 2
  else if rev ||| 2 ^ k = 0xF then s.endFuse 5
  else (s.setF LCS_FSTAT LCS_FSTAT.REVOKED (rev ||| 2 ^ k)).endFuse 0

/-- GO in LCS_FCMD with an OP, ignored while BUSY; a command in SCRAPPED ends BAD-STATE. -/
def State.fuseGo (s : State) (op : Nat) : State :=
  if s.flag LCS_FSTAT LCS_FSTAT.BUSY then s
  else match op with
    | 0 => s.endFuse 0
    | 1 => s.fuseOem
    | 2 => s.fuseKik
    | 3 => s.fuseSvn
    | 4 => s.fuseRevoke
    | _ => s.endFuse (if s.fld LCS_STAT LCS_STAT.STATE = 4 then 1 else 7)

/-- OEM_HASH. -/
def execOemHash (s : State) : Host.Outcome State Fault Refusal := .next (s.fuseGo 1)
/-- KIK. -/
def execKik (s : State) : Host.Outcome State Fault Refusal := .next (s.fuseGo 2)
/-- SVN. -/
def execSvn (s : State) : Host.Outcome State Fault Refusal := .next (s.fuseGo 3)
/-- REVOKE. -/
def execRevoke (s : State) : Host.Outcome State Fault Refusal := .next (s.fuseGo 4)
/-- LCS_FCMD_BAD_OP. -/
def execLcsFcmdBadOp (s : State) : Host.Outcome State Fault Refusal := .next (s.fuseGo 5)

/-! The test access port (R468-R470) -/

/-- The life-cycle state accepts a TAP instruction (R469). -/
def State.tapAccepts (s : State) (ir : Nat) : Bool :=
  match s.fld LCS_STAT LCS_STAT.STATE with
  | 2 => ir == 1 || ir == 2 || ir == 0xFF
  | 4 => ir == 1 || ir == 0xFF
  | _ => true

/-- Scan hold ends; a cold start begins if the pins allow one (R470). -/
def State.endScan (s : State) : State := if s.scanHold then { s with scanHold := false }.releaseStart else s

/-- An instruction of scan hold loaded: it enters scan hold while PRST_N is asserted, takes effect in scan hold, and else
acts as BYPASS; a refused one acts as BYPASS too (R469, R470). -/
def State.tapScan (s : State) (ir : Nat) : State :=
  if s.vinLow then s
  else if s.tapAccepts ir && (s.prst || s.scanHold) then { s with scanHold := true, tapIr := ir }
  else { s with tapIr := 0xFF }.endScan

/-- EXTEST. -/
def execExtest (s : State) : Host.Outcome State Fault Refusal := .next (s.tapScan 0x00)
/-- EXTEST_PULSE. -/
def execExtestPulse (s : State) : Host.Outcome State Fault Refusal := .next (s.tapScan 0x03)
/-- EXTEST_TRAIN. -/
def execExtestTrain (s : State) : Host.Outcome State Fault Refusal := .next (s.tapScan 0x04)
/-- CLAMP. -/
def execClamp (s : State) : Host.Outcome State Fault Refusal := .next (s.tapScan 0x05)
/-- HIGHZ. -/
def execHighz (s : State) : Host.Outcome State Fault Refusal := .next (s.tapScan 0x06)

/-- IDCODE: the identification register is shifted out. -/
def execIdcode (s : State) : Host.Outcome State Fault Refusal :=
  .next (if s.vinLow then s else ({ s with tapIr := 1 }.send (.tdo 0xB7280A5F)).endScan)

/-- SAMPLE_PRELOAD: the boundary register shifts out the pins it sampled and takes the cells shifted in. -/
def execSamplePreload (pins preload : BitVec 587) (s : State) : Host.Outcome State Fault Refusal :=
  .next (if s.vinLow then s
    else if s.tapAccepts 2 then ({ s with tapIr := 2, boundary := preload.toNat }.send (.tdo pins.toNat)).endScan
    else { s with tapIr := 0xFF }.endScan)

/-- BYPASS: the one-bit bypass register is selected. -/
def execBypass (s : State) : Host.Outcome State Fault Refusal := .next (if s.vinLow then s else { s with tapIr := 0xFF }.endScan)

/-- TAP_RESET: TRST_N or Test-Logic-Reset; IDCODE becomes the instruction, as IEEE 1149.1 has it. -/
def execTapReset (s : State) : Host.Outcome State Fault Refusal := .next (if s.vinLow then s else { s with tapIr := 1 }.endScan)

/-! Cache commands (R197, R198) -/

/-- GO in CAC_CCMD of a core with an OP, ignored while BUSY. -/
def State.cacGo (s : State) (c op : Nat) : State :=
  let ends (s : State) (r : Nat) : State := s.setFs (CAC_CSTAT c) [(CAC_CSTAT.BUSY, 0), (CAC_CSTAT.DONE, 1), (CAC_CSTAT.RESULT, r)]
  if s.flag (CAC_CSTAT c) CAC_CSTAT.BUSY then s
  else if op = 3 then ends s 2
  else if !s.islandRuns (coreIsland c) then ends s 3
  else if op = 0 then ends s 0
  else if op = 1 then ends (s.cleanCore c) 0
  else if [roleParked, roleHalted, roleRetired].contains (s.role c) then ends ((s.cleanCore c).modCore c Core.dropCaches) 0
  else ends s 1

/-- CAC_CLEAN_ALL. -/
def execCacCleanAll (c : Fin 80) (s : State) : Host.Outcome State Fault Refusal := .next (s.cacGo c.val 1)
/-- CAC_FLUSH_ALL. -/
def execCacFlushAll (c : Fin 80) (s : State) : Host.Outcome State Fault Refusal := .next (s.cacGo c.val 2)
/-- CAC_BAD_OP. -/
def execCacBadOp (c : Fin 80) (s : State) : Host.Outcome State Fault Refusal := .next (s.cacGo c.val 3)

/-- GO in CAC_RCMD with an OP, ignored while BUSY. -/
def State.cacRGo (s : State) (op : Nat) : State :=
  if s.flag CAC_RSTAT CAC_RSTAT.BUSY then s
  else
    let s := if op = 1 then s.cleanReservoir else if op = 2 then s.flushReservoir else s
    s.setF CAC_RSTAT CAC_RSTAT.DONE 1

/-- RESERVOIR_CLEAN_ALL. -/
def execReservoirCleanAll (s : State) : Host.Outcome State Fault Refusal := .next (s.cacRGo 1)
/-- RESERVOIR_FLUSH_ALL. -/
def execReservoirFlushAll (s : State) : Host.Outcome State Fault Refusal := .next (s.cacRGo 2)

/-! Patrol scrubbers (R192, R193) -/

/-- A double-bit error that an access other than a fill, a walk or a scrub meets in the L2 or reservoir arrays (a store, a snoop, a
write-back, a DMA or sluice access), named by its event (R192): a clean line (0x28) leaves the array that holds it, the master's L2 or
else the reservoir, and the sub-block of a dirty one (0x29) is poisoned. -/
def State.arrayEvent (s : State) (code master pa : Nat) : State :=
  let line := lineOf pa
  let sub : BitVec 4 := BitVec.ofNat 4 (2 ^ subOf pa)
  let st := if master < 80 then (s.core master).l2State line else L2St.i
  let dirtyRes := match s.resKey line with | some key => s.res.get 0 key % 2 == 1 | none => false
  if code = 0x28 then
    match st with
    | .s | .e => s.modCore master (fun k => (k.dropL1 line).setL2St line .i)
    | .m | .w => s
    | _ => if dirtyRes then s else
      match s.resKey line with
      | some key => { s with res := s.res.erase key }.backInvalidate line none
      | none => s
  else if code = 0x29 then
    match st with
    | .m | .w => s.poisonSubs (some master) line sub
    | _ => if dirtyRes then s.poisonSubs none line sub else s
  else s

/-- FAULT_EVENT (R442): a block's error line carries an event; that of a sump parity error tells what the sub-block it names has
become (R191), that of a double-bit error in a cache array what the line has (R192). -/
def execFaultEvent (code : BitVec 8) (master : BitVec 10) (access : BitVec 4) (addr : Word) (s : State) :
    Host.Outcome State Fault Refusal :=
  if faultCodeOk code.toNat then
    let s := if master.toNat < 80 then s.sumpParity master.toNat code.toNat addr.toNat else s
    .next ((s.arrayEvent code.toNat master.toNat addr.toNat).fault code.toNat master.toNat access.toNat addr)
  else .refused .illFormed

/-- L2_PATROL_SCRUB: the next line of a core's L2, with what its check finds and the sub-blocks a double error touches. -/
def State.scrubL2 (s : State) (c : Nat) (e : Ecc) (subs : BitVec 4) : State :=
  let k := s.core c
  let key := k.scrub
  let s := s.setCore c { k with scrub := (key + 1) % 8192 }
  match k.l2.find key, e with
  | _, .ok => s
  | none, _ => s
  | some l, .corrected =>
    if l.st == .i then s else s.fault 0x24 (mstCore c) accPatrol (Word.ofNat (l.line * 256))
  | some l, .uncorrectable =>
    if l.st == .i then s
    else s.doubleL2 c l.line subs accPatrol
def execL2PatrolScrub (c : Fin 80) (e : Ecc) (subs : BitVec 4) (s : State) : Host.Outcome State Fault Refusal :=
  .next (s.scrubL2 c.val e subs)

/-- RESERVOIR_PATROL_SCRUB: the next line of a slice. -/
def State.scrubRes (s : State) (slice : Nat) (e : Ecc) (subs : BitVec 4) : State :=
  let n := s.resScrub.get 0 slice
  let key := slice * 65536 + n
  let s := { s with resScrub := s.resScrub.put slice ((n + 1) % 65536) }
  match s.res.find key, e with
  | _, .ok => s
  | none, _ => s
  | some v, .corrected => s.fault 0x24 mstNone accPatrol (Word.ofNat (v / 2 * 256))
  | some v, .uncorrectable => s.doubleRes (v / 2) subs none mstNone accPatrol
def execReservoirPatrolScrub (slice : Fin 16) (e : Ecc) (subs : BitVec 4) (s : State) : Host.Outcome State Fault Refusal :=
  .next (s.scrubRes slice.val e subs)

end Sys2Proof.Machine
end

