-- ==== Sys2Proof/Machine/Bus.lean ====
section
/-!
DEFINITION. Accesses to the CSR range (00, R2-R8, R481; 01, R18-R20): what answers, how each field takes a write, and the
commands that writes carry.
-/

namespace Sys2Proof.Machine
open Sys2Proof Csr

/-! What answers (R2, R18, R19) -/

/-- The LAT window of a part that carries a die (R18). -/
def State.latWindow (s : State) (a : Nat) : Bool := a / 0x1000000 == 0x17 && s.lateralPart

/-- The island that holds a register is in RUN; the sluice masters' windows answer from either of theirs (R19). -/
def State.blockRuns (s : State) (a : Nat) : Bool :=
  match csrIsland a with
  | none => false
  | some i => s.islandRuns i || (i == 14 && s.islandRuns 15)

/-- The island of a master of CSR accesses: a core's, or 17 for the commands of the headrace (01, R433). -/
def codeIsland (mst : Nat) : Nat := if mst < 80 then coreIsland mst else if mst = mstHrc then 17 else 16

/-- The culvert from a master to the block of a register is broken, from either of the sluice masters' islands in their windows
(R391). -/
def State.blockCut (s : State) (mst a : Nat) : Bool :=
  match csrIsland a with
  | none => false
  | some 14 => s.culvertBroken (codeIsland mst) 14 && s.culvertBroken (codeIsland mst) 15
  | some i => s.culvertBroken (codeIsland mst) i

/-- The fault code of an access to a CSR offset, none where it is carried out: CSR-ACCESS for another size, a misaligned
or an unassigned address, ISLAND-DOWN where the block's island does not run or its culvert is broken (R2, R18, R19, R390). -/
def State.csrRefused (s : State) (mst a width : Nat) : Option Nat :=
  if width != 8 || a % 8 != 0 then some 0x00
  else if (findReg a).isNone && !s.latWindow a then some 0x00
  else if s.blockRuns a && !s.blockCut mst a then none else some 0x01

/-- A refused CSR access recorded. -/
def State.csrFault (s : State) (code mst a : Nat) : State :=
  s.fault code mst accCsr (Word.ofNat (0xF00000000000 + a))

/-! Reading -/

/-- What a read of a register gives: S fields as last written (R8). -/
def State.csrValue (s : State) (a : Nat) : Word :=
  match findReg a, s.staged.find a with
  | some (r, _), some v =>
    (r.fields.filter (fun f => f.cls == UpdClass.staged)).foldl (fun x f => f.fld.set x (f.fld.get v)) (s.rd a)
  | _, _ => s.rd a

/-- A read of a CSR by a master: the value, and whether it was carried out. -/
def State.csrRead (s : State) (mst a width : Nat) : State × Word × Bool :=
  match s.csrRefused mst a width with
  | some code => (s.csrFault code mst a, 0, false)
  | none =>
    if s.latWindow a then ((s.send (.dieAccess false (0xF00000000000 + a) 8 0)).drawn, s.freeVal, true)
    else (s, s.csrValue a, true)

/-! Writing (R4-R8, R481) -/

/-- What a write makes of one field: the register word, the staged word, and whether an F-class write was ignored. An F field
that differs while its block runs is ignored whatever its value (R481); `refused` says that the register does not accept
the field's value as part of its whole. -/
def FieldDef.write (stopped refused : Bool) (v : Word) (x : Word × Word × Bool) (f : FieldDef) : Word × Word × Bool :=
  let n := f.fld.get v
  match f.acc with
  | .ro => x
  | .wo => x
  | .w1c => (x.1 &&& ~~~ (v &&& f.fld.mask), x.2.1, x.2.2)
  | .w1s => (x.1 ||| (v &&& f.fld.mask), x.2.1, x.2.2)
  | .rw =>
    if f.cls == .fenced && !stopped then (x.1, x.2.1, x.2.2 || n != f.fld.get x.1)
    else if refused || !f.accepts n then x
    else match f.cls with
      | .staged => (x.1, f.fld.set x.2.1 n, x.2.2)
      | _ => (f.fld.set x.1 n, x.2.1, x.2.2)

/-- The block of an F-class register is stopped (R252, R268, R269, R271, R326, R340, R365; 15, Registers). -/
def State.fencedStopped (s : State) (name : String) (idx : List Nat) : Bool :=
  let n := idx.headD 0
  match name with
  | "ALT_CFG" => !s.flag SES_STAT SES_STAT.RUNNING && s.fld ALT_STAT ALT_STAT.ACTIVE == 1
  | "ALT_SIPHON" => s.allotState n == alFREE || s.allotState n == alQUIESCED
  | "CMP_STAGE" => s.flag CMP_STAT CMP_STAT.STOPPED
  | "CMP_DICTA" => s.fld (CMP_DICTB n) CMP_DICTB.REFS == 0
  | "CMP_DICTB" => s.fld (CMP_DICTB n) CMP_DICTB.REFS == 0
  | "LNK_SPCFG" => s.fld (LNK_PSTAT (256 + n)) LNK_PSTAT.CARRIES == 0x1FF
  | "SES_CFG" => !s.flag SES_STAT SES_STAT.RUNNING
  | "LNK_CTL" => s.lstate n == lsOFF
  | "LNK_RXBUF" => s.lstate n == lsOFF
  | "LNK_DMAC" => s.lstate n == lsOFF
  | "LNK_SMAC" => s.lstate n == lsOFF
  | _ => true

/-- FENCED_WRITE of the block set. -/
def State.setFenced (s : State) (name : String) (idx : List Nat) : State :=
  let n := idx.headD 0
  match name with
  | "ALT_CFG" => s.setF ALT_STAT ALT_STAT.FENCED_WRITE 1
  | "ALT_SIPHON" => s.setF (ALT_ASTAT n) ALT_ASTAT.FENCED_WRITE 1
  | "CMP_STAGE" => s.setF CMP_STAT CMP_STAT.FENCED_WRITE 1
  | "CMP_DICTA" => s.setF CMP_STAT CMP_STAT.FENCED_WRITE 1
  | "CMP_DICTB" => s.setF CMP_STAT CMP_STAT.FENCED_WRITE 1
  | "LNK_SPCFG" => s.setF (LNK_PSTAT (256 + n)) LNK_PSTAT.FENCED_WRITE 1
  | "SES_CFG" => s.setF SES_STAT SES_STAT.FENCED_WRITE 1
  | _ => s.setF (LNK_STAT n) LNK_STAT.FENCED_WRITE 1

/-- A value that the F-class fields of a register, or its one field, do not accept as a whole (R268, R336, R340, R392, R441;
15, Registers). The ranges that must be NORMAL are not accepted elsewhere (log entry 15). -/
def State.regRejects (s : State) (name : String) (v : Word) : Bool :=
  match name with
  | "LNK_RXBUF" =>
    let l := [LNK_RXBUF.CTL, LNK_RXBUF.REQ, LNK_RXBUF.DATA, LNK_RXBUF.RSP].map (fun f => f.get v)
    l.contains 0 || decide (1024 < l.sum)
  | "CMP_STAGE" =>
    let m := CMP_STAGE.SIZE.get v
    m != 0 && (decide (m < 128) || decide (4096 < m)
      || !normalRange (CMP_STAGE.BASE.get v * 2 ^ 20) (m * 2 ^ 20))
  | "ALT_SIPHON" => !siphonOk (v &&& 0x0000FFFFFFFFF01F).toNat
  | "ALT_CFG" => !normalRange (ALT_CFG.CTXBASE.get v * 2 ^ 21) 0x200000
  | "SES_CFG" => !normalRange (SES_CFG.CTXBASE.get v * 2 ^ 25) 0x2000000
  | "LEV_PLIMIT" => decide (LEV_PLIMIT.LIMIT_W.get v < 1300)
      || decide (s.fld LEV_PCEIL LEV_PCEIL.CEIL_W < LEV_PLIMIT.LIMIT_W.get v)
  | _ => false

/-- A write to STA_ROT (R436): accepted with a period of 1 to 3,600,000 ms and AT_MS 1 ms to 2^39 ms ahead of rack time,
modulo 2^40; else LATE sets. -/
def State.writeStaRot (s : State) (v : Word) : State :=
  let p := STA_ROT.PERIOD_MS.get v
  let ahead := (STA_ROT.AT_MS.get v * 156250 + 2 ^ 40 * 156250 - (s.rd HRC_TIME).toNat % (2 ^ 40 * 156250))
    % (2 ^ 40 * 156250)
  if 1 ≤ p ∧ p ≤ 3600000 ∧ 156250 ≤ ahead ∧ ahead ≤ 2 ^ 39 * 156250 then
    { s.setFs STA_ROT [(STA_ROT.PERIOD_MS, p), (STA_ROT.AT_MS, STA_ROT.AT_MS.get v)] with
        rotAt := ((s.rd HRC_TIME).toNat + ahead) / 156250 }
  else s.setF STA_STAT STA_STAT.LATE 1

/-- A performed write to a reach register of a core: one that is not accepted leaves it unchanged (R202, R205). -/
def State.writeReach (s : State) (c a : Nat) (v : Word) : State :=
  if reachAccepted v then s.writeAtCheckpoint c a (reachBits v) else s

/-- The registers whose L-class fields wait for a unit boundary that is an event of its own: what they held stays in force in
each unit until then (R7). Every other unit boundary lies between two commands (log entry 17). -/
def State.holdLive (s : State) (name : String) (idx : List Nat) (a : Nat) (old : State) : State :=
  let n := idx.headD 0
  match name with
  | "TWN_CMD" | "TWN_CMDARG" => if s.flag TWN_CMDSTAT TWN_CMDSTAT.BUSY then s.keepForce old a 0 else s
  | "SES_CMD" | "SES_CMDARG" => if s.flag SES_CMDSTAT SES_CMDSTAT.BUSY then s.keepForce old a 0 else s
  | "TWN_GCFG" =>
    if s.guarded n && s.rd a != old.rd a then
      s.setGroup n { s.group n with
        ixch := (s.group n).ixch ++ [(s.openInterval (s.memberCore n 0), old.flag a TWN_GCFG.IXCH)] }
    else s
  | "DRM_CFG" => ((List.range 8).filter (fun k => s.fld (DRM_SSTAT k) DRM_SSTAT.STATE == 0)).foldl (fun s k => s.keepForce old a k) s
  | "CAC_CCFG" => if (s.core n).stall.isSome then s.keepForce old a 0 else s
  | "CAC_RCFG" => (List.range 16).foldl (fun s k => s.keepForce old a k) s
  | "LGR_CFG" => if s.fld LGR_STAT LGR_STAT.STATE = 2 then s.keepForce old a 0 else s
  | _ => s

/-- That refusal reaches a field: every field of LEV_PLIMIT, elsewhere those of class F, so that the others of the same write
take effect (R9). -/
def State.fieldRefused (s : State) (r : RegDef) (v : Word) (f : FieldDef) : Bool :=
  s.regRejects r.name v && (f.cls == .fenced || r.name == "LEV_PLIMIT")

/-- Every field of a register takes a write by its access code and class (R4, R7, R9, R481). -/
def State.writeFields (s : State) (r : RegDef) (idx : List Nat) (a : Nat) (v : Word) : State :=
  let old := s.rd a
  let st := (s.staged.find a).getD old
  let x := r.fields.foldl (fun x f => FieldDef.write (s.fencedStopped r.name idx) (s.fieldRefused r v f) v x f) (old, st, false)
  let t := if x.1 = old then s else s.wr a x.1
  let t := if x.2.1 = st then t else { t with staged := t.staged.put a x.2.1 }
  let t := t.holdLive r.name idx a s
  if x.2.2 then t.setFenced r.name idx else t

/-- CTXBASE of the SES block takes effect: a write while stopped that changes it, or while no image is in force (R271). -/
def State.sesBase (s t : State) : State :=
  if !s.flag SES_STAT SES_STAT.RUNNING && (s.fld SES_CFG SES_CFG.CTXBASE != t.fld SES_CFG SES_CFG.CTXBASE
      || (!s.sesImage && !s.sesInit)) then
    { t with sesInit := true, sesImage := false }
  else t

/-- SES_CFG.RUN as written: 1 starts the block, 0 stops it once it can (R271). -/
def State.sesRunBit (s : State) : State :=
  if s.flag SES_CFG SES_CFG.RUN then (s.setF SES_STAT SES_STAT.RUNNING 1).syncCmp else s.sesStop

/-- CTXBASE of the ALT block takes effect (R326). -/
def State.altBase (s t : State) : State :=
  if s.fencedStopped "ALT_CFG" [] && (s.fld ALT_CFG ALT_CFG.CTXBASE != t.fld ALT_CFG ALT_CFG.CTXBASE
      || (!s.altImage && !s.altInit)) then
    { t with altInit := true, altImage := false }
  else t

/-- A new WEIGHT takes effect at the next round, a QLIMIT write sets or clears OVER_ALLOTMENT (R334). -/
def State.shareWritten (s old : State) (a : Nat) : State :=
  let s := if s.fld (ALT_SHARE a) ALT_SHARE.WEIGHT = old.fld (ALT_SHARE a) ALT_SHARE.WEIGHT then s
    else { s with weightNew := insertNat s.weightNew a }
  s.setF (ALT_ASTAT a) ALT_ASTAT.OVER_ALLOTMENT
    (b2n (decide (s.fld (ALT_SHARE a) ALT_SHARE.QLIMIT < s.fld (ALT_ASTAT a) ALT_ASTAT.QUEUED)))

/-- A write to LNK_CTL after its F-class fields: EN, RETRAIN and MOVE (R268). -/
def State.linkControl (s : State) (l : Nat) (v : Word) : State :=
  let s := if LNK_CTL.EN.get v = 1 then s.linkEnable l else s.linkDisable l
  let s := if LNK_CTL.RETRAIN.get v = 1 then s.linkRetrain l else s
  if LNK_CTL.MOVE.get v = 1 then s.linkMove l else s

/-- A write to CIS_BCTL of a bank (R239, R240, R244): whether the bank is stopped is judged before the write (R10). -/
def State.cisControl (s : State) (b : Nat) (v : Word) : State :=
  let stopped := s.cisCountsStopped b
  let s := s.cisPower b (CIS_BCTL.MASK.get v) (CIS_BCTL.POWER.get v)
  let s := if CIS_BCTL.WIPE.get v != 1 then s else if stopped then s.cisWipeStopped b else s.cisWipe b
  s.cisStop b (CIS_BCTL.STOP.get v == 1)

/-- The commands that bit 63, or a COMMIT bit, of a written word starts; the operands are the register's fields. -/
def State.csrCommand (s : State) (name : String) (idx : List Nat) (v : Word) : State :=
  let n := idx.headD 0
  let go := bit v 63
  match name with
  | "TWN_CMD" => if go then s.goTwn else s
  | "CAC_CCMD" => if go then s.cacGo n (s.fld (CAC_CCMD n) CAC_CCMD.OP) else s
  | "CAC_RCMD" => if go && CAC_RCMD.OP.get v != 3 then s.cacRGo (s.fld CAC_RCMD CAC_RCMD.OP) else s
  | "CIP_KCMD" => if go then s.goCip else s
  | "CLK_ICTL" => if go then s.clkGo n else s
  | "CST_LOAD" => if go then s.cstGo else s
  | "DRM_SCMD" => if go then s.substitute n (s.fld (DRM_SCMD n) DRM_SCMD.CHANNEL) else s
  | "HWK_SCMD" => if go then s.hwkGo else s
  | "LCS_CMD" => if go then s.lcsGo else s
  | "LCS_FCMD" => if go then s.fuseGo (s.fld LCS_FCMD LCS_FCMD.OP) else s
  | "LGR_RD" => if go then s.lgrRd .ok .ok else s
  | "SES_CMD" => if go then s.sesGo (s.fld SES_CMD SES_CMD.OP) else s
  | "ALT_CMD" => if go then s.altGo (s.fld ALT_CMD ALT_CMD.OP) else s
  | "SLU_CMD" => if go then s.sluGo (s.fld SLU_CMD SLU_CMD.OP) true else s
  | "SPR_CMD" => if go then s.sprGo (s.fld SPR_CMD SPR_CMD.OP) else s
  | "DRM_COMMIT" => if bit v 0 then s.commitDrm else s
  | "CIP_COMMIT" => if bit v 0 then s.commitCip else s
  | "SLU_COMMIT" => if bit v 0 then s.commitSlu else s
  | _ => s

/-- What follows from a register's new value beside its command. -/
def State.csrWritten (s old : State) (name : String) (idx : List Nat) : State :=
  let n := idx.headD 0
  match name with
  | "CIP_CFG" => s.setF CIP_STAT CIP_STAT.STAGED (b2n (s.staged.find CIP_CFG).isSome)
  | "DRM_CFG" => s.setF DRM_STAT DRM_STAT.STAGED (b2n (s.staged.find DRM_CFG).isSome)
  | "SLU_CFG" =>
    let s := s.setF SLU_STAT SLU_STAT.STAGED (b2n (s.staged.find SLU_CFG).isSome)
    s.syncSwap
  | "SES_CFG" => (old.sesBase s).sesRunBit
  | "ALT_CFG" => old.altBase s
  | "ALT_SHARE" => (s.shareWritten old n).altSync n
  | "ALT_ACTL" =>
    let s := if s.lateralPart then s else s.setF (ALT_ACTL n) ALT_ACTL.LGRANT 0
    (if s.fld (ALT_SIPHON n) ALT_SIPHON.SLOG2 = 0 && !old.flag (ALT_ACTL n) ALT_ACTL.LOGDIRTY then
      s.setF (ALT_ACTL n) ALT_ACTL.LOGDIRTY 0 else s).altSync n
  | "ALT_ASTAT" => s.altSync n
  | "ALT_SIPHON" => s.altSync n
  | "ALT_SIRQ" => s.altSync n
  | "ALT_SPROD" => s.altSync n
  | "ALT_SCONS" => s.altSync n
  | "CMP_DICTA" => (s.syncRefs (s.fld (CMP_DICTA n) CMP_DICTA.ID)).syncRefs (old.fld (CMP_DICTA n) CMP_DICTA.ID)
  | "CMP_STAGE" => s.syncStage
  | "LNK_SPCFG" => s.serveFailed n
  | _ => s

/-- A write to an assigned register whose block answers. -/
def State.writeReg (s : State) (r : RegDef) (idx : List Nat) (a : Nat) (v : Word) : State :=
  let n := idx.headD 0
  match r.name with
  | "FLT_STATUS" => s.writeFltStatus v
  | "FLT_CAP" => s.writeFltCap v
  | "CIS_BCTL" => s.cisControl n v
  | "STA_ROT" => s.writeStaRot v
  | "XLT_GREACH" => s.writeReach n a v
  | "XLT_HREACH" => s.writeReach n a v
  | "XLT_CTX" => s.writeAtCheckpoint n a (v &&& 1)
  | "ALT_IOREACH" => if reachAccepted v then (s.wr a (reachBits v)).altSync n else s
  | "CST_CPATCH" => s.writeAtCheckpoint n a (cpatchValue v)
  | "CST_SPATCH" => s.wr a (spatchValue v)
  | "LNK_CTL" => (s.writeFields { r with fields := r.fields.filter (fun f => f.lo != 0) } idx a v).linkControl n v
  | _ => ((s.writeFields r idx a v).csrWritten s r.name idx).csrCommand r.name idx v

/-- A write of a CSR by a master; false where it was refused. -/
def State.csrWrite (s : State) (mst a width : Nat) (v : Word) : State × Bool :=
  match s.csrRefused mst a width with
  | some code => (s.csrFault code mst a, false)
  | none =>
    if s.latWindow a then (s.send (.dieAccess true (0xF00000000000 + a) 8 v), true)
    else match findReg a with
      | none => (s, true)
      | some (r, idx) => (s.writeReg r idx a v, true)


/-- The master code of a CSR access (R447). -/
def busCode : BusMaster → Nat
  | .core c => mstCore c.val
  | .hrc => mstHrc

/-- CSR_REGISTER_WRITE (R2, R7, R18-R20, R481): a write of `width` bytes at an offset of the CSR range; none is carried out
in reset or in fallow (R433). -/
def execCsrRegisterWrite (m : BusMaster) (a : BitVec 32) (width : BitVec 5) (v : Word) (s : State) :
    Host.Outcome State Fault Refusal :=
  .next (if s.inReset || s.fallow then s else (s.csrWrite (busCode m) a.toNat width.toNat v).1)

end Sys2Proof.Machine
end

