-- ==== Sys2Proof/Machine/CoreMem.lean ====
section
/-!
DEFINITION. Memory accesses of a core (03, R75-R81; 06, R148, R156): what its loads see, how stores, lateral writes and
other outputs wait and are performed, atomics, and the stride prefetcher.
-/

namespace Sys2Proof.Machine
open Sys2Proof Csr

/-- The bank that holds the headworks programs and frames (R85, R129, R236). -/
def hwBank : Nat := 15

/-- An address of the headworks cistern bank. -/
def inHwBank (pa : Nat) : Bool := decide (cisBase hwBank ≤ pa) && decide (pa < cisBase hwBank + 0x800000)

/-- The master a core is for physical accesses (R21, R237). -/
def State.masterOf (s : State) (c : Nat) : Master := if c < 80 then .core c (s.core c).host else .headworks c

/-- The member of its group that a core is. -/
def State.member (s : State) (c : Nat) : Member :=
  match s.groupOf c with
  | some g => (s.group g).members.get Member.reset (s.indexOf c)
  | none => Member.reset

/-- A core's member record changed. -/
def State.modMember (s : State) (c : Nat) (f : Member → Member) : State :=
  match s.groupOf c with
  | some g => s.setGroup g { s.group g with members := (s.group g).members.modify Member.reset (s.indexOf c) f }
  | none => s

/-- The core whose queue a core's outputs leave by: the leading member's for a member (R148). -/
def State.outCore (s : State) (c : Nat) : Nat :=
  match s.groupOf c with
  | some g => s.memberCore g 0
  | none => c

/-! What a load sees (R78, R148, R180) -/

/-- The entries not yet performed that a core's loads see, oldest first: the store buffer, for a member the leading member's
and its own delay registers but those already released. -/
def State.storeView (s : State) (c : Nat) : List StoreEnt :=
  let sb := (s.core (s.outCore c)).sb
  match s.groupOf c with
  | some g => sb ++ (s.member c).unconfirmed.drop (s.group g).released
  | none => sb

/-- The byte that an entry stores at an address. -/
def StoreEnt.byteAt (e : StoreEnt) (a : Nat) : Option Byte :=
  if e.typ == 1 && decide (e.addr ≤ a) && decide (a < e.addr + e.width) then
    some (if e.width = 256 then 0 else BitVec.ofNat 8 (e.data.toNat >>> (8 * (a - e.addr))))
  else none

/-- The byte at an address that the newest entry covering it holds. -/
def buffered (l : List StoreEnt) (a : Nat) : Option Byte := l.reverse.findSome? (fun e => e.byteAt a)

/-- Bytes as a core's load sees them (R78). -/
def State.loadBytes (s : State) (c pa n : Nat) : List Byte :=
  let v := s.storeView c
  (List.range n).map (fun i => (buffered v (pa + i)).getD (memGet s.mem (pa + i)))

/-- A load meets poison: a poisoned sub-block, unless buffered stores give every byte. -/
def State.loadPoison (s : State) (c pa n : Nat) : Bool :=
  s.poisonedRange pa n && (List.range n).any (fun i => (buffered (s.storeView c) (pa + i)).isNone)

/-! Performing outputs -/

/-- Bytes of this core's L1I copies that a store of its own leaves older than memory (R181). -/
def Core.keepStale (k : Core) (m : List Host.Cell) (pa n : Nat) : Core :=
  match l1Way k.l1i 4 (lineOf pa) with
  | none => k
  | some w =>
    let l := (k.l1i.find (setL1 (lineOf pa) * 4 + w)).getD (emptyLine (lineOf pa))
    { k with stale := (List.range n).foldl (fun t i =>
        if l.sub (subOf (pa + i)) == .c && (t.find (pa + i)).isNone then t.put (pa + i) (memGet m (pa + i)) else t) k.stale }

/-- A store performed: memory and the caches; a zeroed line is not fetched (R78, R174, R187). -/
def State.performStore (s : State) (c pa width : Nat) (data : Word) : State :=
  let l : List Byte := if width = 256 then List.replicate 256 0 else leBytes width data.toNat
  let s := s.modCore c (fun k => k.keepStale s.mem pa l.length)
  if width = 256 && decide (c < 80) && s.rangeClass pa == .normal then
    ((s.keepRes pa 256).writeCached pa l).zeroCaches c (lineOf pa)
  else s.coreWrite c pa l

/-- An ipi sent by a core (R126): a line outside 2-9 has no effect; a target not in service drops it. -/
def State.ipi (s : State) (c : Nat) (v : Word) : State :=
  let target := bits v.toNat 0 7
  let line := bits v.toNat 8 6
  if 2 ≤ line && line ≤ 9 then
    if s.inService target then s.setLine target line else s.fault0 0x08 (mstCore c) accNone
  else s

/-- A write to tmr0, tmr1 or ipend performed: in the group's checker for a member, else in the core (R155). -/
def State.timerWrite (s : State) (c p : Nat) (v : Word) : State :=
  match s.groupOf c with
  | none => s.modCore c (fun k => k.writePort p v)
  | some g =>
    let gr := s.group g
    s.setGroup g (match p with
      | 0x8E => { gr with tmr0 := v }
      | 0x8F => { gr with tmr1 := v }
      | _ => { gr with ipend := gr.ipend &&& ~~~ v })

/-- A DEVICE store performed: a CSR write, or an access of the die (R20, R79). -/
def State.deviceWrite (s : State) (c : Nat) (e : StoreEnt) : State :=
  if isCsrAddr e.addr then (s.csrWrite (mstCore c) (e.addr - 0xF00000000000) e.width e.data).1
  else s.send (.dieAccess true e.addr e.width e.data)

/-- The lateral writes at the head of a queue up to the end of their group. -/
def lateralGroup : List StoreEnt → List StoreEnt
  | [] => []
  | e :: t => if e.typ != 2 then [] else if e.last then [e] else e :: lateralGroup t

/-- The fences of the cores whose outputs leave by a core's queue, n entries nearer their end (R76, R80). -/
def State.stepFences (s : State) (c n : Nat) : State :=
  (match s.groupOf c with | some g => (s.memberIdx g).map (s.memberCore g) | none => [c]).foldl (fun s m =>
    if (s.core m).latFence = 0 && (s.core m).fences.isEmpty then s
    else s.modCore m (fun k =>
      { k with latFence := k.latFence - n, fences := k.fences.map (fun (f : FenceEnt) => ⟨f.mask, f.ahead - n, f.loads, f.cms⟩) })) s

/-- An entry performed. -/
def State.performEnt (s : State) (c : Nat) (e : StoreEnt) : State :=
  match e.typ with
  | 1 => s.performStore c e.addr e.width e.data
  | 3 => s.deviceWrite c e
  | 4 => s.ipi c e.data
  | _ => s.timerWrite c e.addr e.data

/-- A store has to wait: its line finds no way in L2, or its fill would meet maintenance of it outstanding in the core (R149,
R188). -/
def State.storeWaits (s : State) (c : Nat) (e : StoreEnt) : Bool :=
  e.typ == 1 && decide (c < 80) && s.rangeClass e.addr == .normal && !(s.core c).inL1D e.addr
    && ((s.core c).noWay (lineOf e.addr) || (e.width != 256 && (s.core c).maintained (lineOf e.addr)))

/-- Accesses that waited for the maintenance of a line go to the caches (R188). -/
def State.goOn (s : State) (c line : Nat) : State :=
  if (s.core c).maintained line then s
  else ((s.core c).awaits.filter (fun a => lineOf a.addr == line && a.addr != 0 && s.rangeClass a.addr == .normal)).foldl
    (fun s a => s.touchData c a.addr true) s

/-- An entry leaves the cm queue, for the core and for the fences behind it. -/
def Core.dropCm (k : Core) (e : CmEnt) : Core :=
  { k with cmq := k.cmq.erase e, fences := k.fences.map (fun (f : FenceEnt) => ⟨f.mask, f.ahead, f.loads, f.cms.erase e⟩) }

/-- Maintenance of a line that has been performed completes, its fills first, as a store that must not wait lets it (R188). -/
def State.endMaintenance (s : State) (c line : Nat) : State :=
  let s := s.retireFills c line
  (s.modCore c (fun k => (k.cmq.filter (fun e => e.line == line && e.barrier == 0 && e.op != .pref)).foldl Core.dropCm k)).goOn c line

/-- The entry at the head of a core's queue performed; a bundle's lateral writes leave as one group (R60, R78). -/
def State.performHead (s : State) (c : Nat) : State :=
  match (s.core c).sb with
  | [] => s
  | e :: rest =>
    if e.typ = 2 then
      let l := lateralGroup (e :: rest)
      ((s.modCore c (fun k => { k with sb := (e :: rest).drop l.length })).stepFences c l.length).send
        (.lateral c (l.map (fun e => (e.addr, e.data))))
    else ((s.modCore c (fun k => { k with sb := rest })).stepFences c 1).performEnt c e

/-- The store at the head of a core's queue waits. -/
def State.headWaits (s : State) (c : Nat) : Bool :=
  match (s.core c).sb with
  | e :: _ => s.storeWaits c e
  | [] => false

/-- What the entry at the head of a core's queue waits for comes about (R176, R188). -/
def State.headReady (s : State) (c : Nat) : State :=
  match (s.core c).sb with
  | e :: _ => if s.storeWaits c e then (s.endMaintenance c (lineOf e.addr)).makeWay c (lineOf e.addr) else s
  | [] => s

/-- Every entry of a core's queue performed, in order. -/
def State.drain (s : State) (c : Nat) : State :=
  (List.range (s.core c).sb.length).foldl (fun s _ => (s.headReady c).performHead c) s

/-! Outputs of a bundle -/

/-- Entries a bundle adds: to the delay registers of a guarded member, else to the core's own queue (R148). Lateral writes, timer
writes and `ipi` wait in one queue with stores, count among its entries and are performed in program order with them; R71 speaks of
stores alone (DESIGN CHOICE). Those that a former group performed before its core went on alone are not performed again (R160,
R164). -/
def State.output (s : State) (c : Nat) (l : List StoreEnt) : State :=
  if s.guardedCore c then s.modMember c (fun m => { m with outs := m.outs ++ l })
  else s.modCore c (fun k => { k with sb := k.sb ++ l.drop k.skip, skip := k.skip - l.length })

/-- An output that a core performs at once, unless a former group performed it (R160, R164). -/
def State.outputNow (s : State) (c : Nat) (act : State → State) : State :=
  if 0 < (s.core c).skip then s.modCore c (fun k => { k with skip := k.skip - 1 }) else act s

/-- How many of a core's outputs are performed before its last lateral write is. -/
def lateralUpTo (l : List StoreEnt) : Nat := l.length - (l.reverse.takeWhile (fun e => e.typ != 2)).length

/-- A lat.t.fence is outstanding (R76). -/
def State.latBusy (s : State) (c : Nat) : Bool := decide (0 < (s.core c).latFence)

/-! Loads -/

/-- The bytes of a load trigger and its sign (R75). -/
def ldShape : LdOp → Nat × Bool
  | .ld8u => (1, false) | .ld8s => (1, true) | .ld16u => (2, false) | .ld16s => (2, true) | .ld32u => (4, false)
  | .ld32s => (4, true) | .ld64 => (8, false)

/-- The same by the trigger's offset. -/
def ldShapeAt (off : Nat) : Nat × Bool :=
  match off with
  | 0x10 => (1, false) | 0x11 => (1, true) | 0x12 => (2, false) | 0x13 => (2, true) | 0x14 => (4, false)
  | 0x15 => (4, true) | _ => (8, false)

/-- A loaded value extended to 64 bits. -/
def extendLd (sh : Nat × Bool) (v : Word) : Word :=
  if sh.1 = 8 then v else if sh.2 then sextW v (8 * sh.1) else zextW v (8 * sh.1)

/-- The stream of the stride prefetcher after a load (R185): at the end of the list as the most recently used, its stride and
the differences in a row that were equal. -/
def Stream.train (t : Stream) (va : Word) : Stream :=
  let d : Int := (va.toNat : Int) - (t.last.toNat : Int)
  if d = t.stride then { t with last := va, runs := t.runs + 1 } else { t with last := va, stride := d, runs := 1 }

/-- The stream fetches ahead: three loads in a row differed by one nonzero stride of at most 8 KiB. -/
def Stream.ready (t : Stream) : Bool := decide (2 ≤ t.runs) && t.stride != 0 && decide (t.stride.natAbs ≤ 8192)

/-- Stride prefetch of a load (R185, R186): a hit of the TLB in NORMAL memory only. -/
def State.stridePrefetch (s : State) (c : Nat) (key va : Word) : State :=
  if s.prefetcher c (s.replaying c) = 1 then
    let l := (s.core c).streams
    let t : Stream := match l.find? (fun t => t.key == key) with
      | some t => t.train va
      | none => ⟨key, va, 0, 0⟩
    let rest := l.filter (fun t => t.key != key)
    let rest := if 16 ≤ rest.length then rest.drop 1 else rest
    let s := s.modCore c (fun k => { k with streams := rest ++ [t] })
    if t.ready then
      let at? := BitVec.ofInt 64 ((va.toNat : Int) + t.stride * (s.fldIn (CAC_CCFG c) 0 CAC_CCFG.PFDEPTH : Int))
      match s.xlat c at? .pref with
      | .ok pa =>
        if s.rangeClass pa != .normal then s.countCac c CAC_CCNT.PF_DROP
        else (s.tlbHit c at? .pref).touchData c pa false
      | _ => s.countCac c CAC_CCNT.PF_DROP
    else s
  else s

/-- The data that a trailing member's next NORMAL or SCRATCH load takes from the leading member in a second re-run (R157): none where
it makes the load itself. -/
def State.forwarded (s : State) (c : Nat) : Option (Word × Bool) :=
  (s.groupOf c).bind (fun g =>
    let m := s.member c
    if 2 ≤ (s.group g).attempts && s.indexOf c != 0 && m.closed.isEmpty then
      ((s.group g).ahead (s.indexOf c)).bind (fun iv => iv.loads[m.loads.length]?)
    else none)

/-- The data of a member's load recorded (R157). -/
def State.recordLoad (s : State) (c : Nat) (r : Word × Bool) : State := s.modMember c (fun m => { m with loads := m.loads ++ [r] })

/-- A NORMAL or SCRATCH load performed: its value and poison, the caches and the prefetchers (R78, R173, R185); one whose data is
forwarded makes no access (R157). -/
def State.load (s : State) (c slot pa n : Nat) (va : Word) : State × Word × Bool :=
  match s.forwarded c with
  | some r => (s.recordLoad c r, r.1, r.2)
  | none =>
  let r := (Word.ofNat (leNat (s.loadBytes c pa n)), s.loadPoison c pa n)
  let s := s.recordLoad c r
  let s := if s.rangeClass pa == .normal && decide (c < 80) then
      let s := if !(s.core c).inL1D pa && (s.core c).maintained (lineOf pa) then s else s.touchData c pa true
      s.stridePrefetch c ((s.core c).port 0x88 + Word.ofNat (4 * slot)) va
    else if c < 80 then s
    else s.blockRead pa n false
  (s, r.1, r.2)

/-- A DEVICE read performed: after every earlier access; a CSR, or a value the die returns (R79). -/
def State.deviceRead (s : State) (c q pa n : Nat) : State × Word :=
  let s := s.drain q
  if isCsrAddr pa then
    let r := s.csrRead (mstCore c) (pa - 0xF00000000000) n
    (r.1, r.2.1)
  else ((s.send (.dieAccess false pa n 0)).drawn, s.freeVal)

/-! Atomics (R75, R79) -/

/-- What an 8-byte atomic stores, none where a comparison fails. -/
def atomNew (port : Nat) (old b cmp : Word) : Option Word :=
  match port with
  | 0x3A8 => if old = cmp then some b else none
  | 0x3A9 => some b
  | 0x3AA => some (old + b)
  | 0x3AB => some (old &&& b)
  | _ => some (old ||| b)

/-- An atomic performed through a core's caches after every earlier access: the old value, and whether it was poisoned, when
nothing is stored. -/
def State.atomic (s : State) (c port pa : Nat) (b : Word) (more : List Word) : State × HeldRes :=
  let s := s.drain c
  let n := if port = 0x3AD then 16 else 8
  let lo := s.word pa
  let hi := if port = 0x3AD then s.word (pa + 8) else 0
  if s.poisonedRange pa n then (s, ⟨0, 0, true, false, 0⟩)
  else
    let s := if c < 80 then s.touchData c pa true else s.blockRead pa n false
    let w : Option (List Byte) :=
      if port = 0x3AD then
        if lo = more.getD 0 0 && hi = more.getD 1 0 then some (leBytes 8 b.toNat ++ leBytes 8 (more.getD 2 0).toNat) else none
      else (atomNew port lo b (more.getD 0 0)).map (fun v => leBytes 8 v.toNat)
    (match w with | some l => s.coreWrite c pa l | none => s, ⟨lo, hi, false, false, 0⟩)

/-! Requests to the sessions and the compression engine -/

/-- bell.t.ring (R275): what bell.res holds; an accepted record is written to its ring. -/
def State.ring (s : State) (allot bell : Nat) (b : Word) : State × Word :=
  if b.toNat % 32 != 0 then (s, 0x03)
  else
    match s.sessions.find? (fun e => e.2.state != ssCLOSED && !e.2.blank && e.2.allot == allot && e.2.bell == bell) with
    | none => (s, 0x02)
    | some (n, k) =>
      if k.state != ssOPEN then (s, 0x04)
      else if 2 ^ k.dlog2 ≤ (k.bellDseq + 2 ^ 48 - k.nextDseq) % 2 ^ 48 then (s, 0x01)
      else
        let s := s.imageWrite (k.dring + 16 * (k.bellDseq % 2 ^ k.dlog2))
          (leBytes 8 (bits b.toNat 0 48) ++ leBytes 8 (k.bellDseq % 2 ^ 48 + allot * 2 ^ 48))
        (s.putSession n { k with bellDseq := (k.bellDseq + 1) % 2 ^ 48 }, Word.ofNat (k.bellDseq % 2 ^ 48 * 65536))

/-- A cmx trigger (R368): cmx.res. -/
def State.cmx (s : State) (port : Nat) (host : Bool) (act : Nat) (b : Word) : State × Word :=
  let guest : Option Nat := if host then none else some act
  match port with
  | 0x428 =>
    let r := s.cmxSubmit (guest.getD 0) b.toNat
    (r.1, Word.ofNat r.2)
  | 0x429 =>
    let r := s.cmxResume guest b.toNat
    (r.1, Word.ofNat r.2)
  | _ => (s, Word.ofNat (s.cmxStatus guest b.toNat))

/-! Maintenance and invalidation (R187, R219) -/

/-- A clean, flush or inv of a line performed for a core: after its earlier stores; the fills of the line outstanding in this core
install as I (R187, R188). -/
def State.maintain (s : State) (q : Nat) (op : CmOp) (line : Nat) : State :=
  let s := (s.drain q).modCore q (fun k => k.meetFills line)
  match op with
  | .clean => s.cleanLine line
  | .flush => (s.cleanLine line).dropLine line
  | .inv => s.dropLine line
  | _ => s

/-- A TLB invalidation performed after the core's earlier stores (R219). -/
def State.invalidate (s : State) (q : Nat) (e : InvEnt) : State :=
  let s := s.drain q
  match e.port with
  | 0x3CA => s.invVa e.b
  | 0x3CB => s.invTlb (fun t => t.tag == (if bit e.b 0 then none else some (e.ctx.toNat % 4096)))
  | _ => s.invAll

/-- The outputs and results that a boundary operation has: performed once for a group, by its leading core (R156). -/
def State.boundaryRun (s : State) (c : Nat) (r : BoundaryReq) (die : Option Word) : State × HeldRes :=
  let m (n : Nat) : Word := r.more.getD n 0
  let plain (x : State × Word) : State × HeldRes := (x.1, ⟨x.2, 0, false, false, 0⟩)
  if r.port = 0x3B0 then (s.drain c, ⟨0, 0, false, false, 0⟩)
  else if 0x3A8 ≤ r.port && r.port ≤ 0x3AD then s.atomic c r.port r.addr r.b r.more
  else if r.port = 0x448 then plain ((s.drain c).ring (m 1).toNat (m 0).toNat r.b)
  else if unitOf r.port = 0x420 then plain (s.cmx r.port (m 0 == 1) (m 1).toNat r.b)
  else if r.port = 0x3EA then
    ((s.maintain c .inv (lineOf r.addr)).modCore c (fun k => { k with cmq := k.cmq ++ [⟨.inv, lineOf r.addr, 0⟩] }),
      ⟨0, 0, false, false, 0⟩)
  else if 0xF00 ≤ r.port then
    match die with
    | some v => (s.drain c, ⟨v, 0, false, false, 0⟩)
    | none => ((s.drain c).fault0 0x98 (mstCore c) accRead, ⟨0, 0, false, true, 0⟩)
  else
    let x := s.deviceRead c c r.addr (ldShapeAt (r.port % 0x40)).1
    plain (x.1, extendLd (ldShapeAt (r.port % 0x40)) x.2)

end Sys2Proof.Machine
end

