-- ==== Sys2Proof/Machine/Triggers.lean ====
section
/-!
DEFINITION. The triggers of a core's memory, maintenance and request units (03, R70-R86; 07, R187-R189; 08, R218-R220): what each
does in the bundle that triggers it, or why that bundle stalls or raises an exception.
-/

namespace Sys2Proof.Machine
open Sys2Proof Csr

/-- What raising an exception does besides (R21, R210). -/
inductive Side where
  | none
  | addr (access pa : Nat)
  | conflict (va : Word) (kind : AccKind)
deriving DecidableEq, Repr

/-- What a trigger comes to: its effect, a stall of the whole bundle, or an exception. -/
inductive Plan where
  | go (s : State)
  | stall (st : Stall)
  | raise (e : Exc) (side : Side)
deriving DecidableEq, Repr

/-- The next trigger of the bundle, after one that goes. -/
def Plan.andThen (p : Plan) (f : State → Plan) : Plan :=
  match p with
  | .go s => f s
  | .stall st => .stall st
  | .raise e d => .raise e d

/-- What an exception does besides, on the state before the bundle. -/
def State.side (s : State) (c : Nat) (d : Side) : State :=
  match d with
  | .none => s
  | .addr access pa => s.addrFault (s.masterOf c) access pa
  | .conflict va kind => s.conflict c va kind

/-- A DATA-ACCESS exception of a trigger, with its virtual address (R112, R118, R119). -/
def dataExc (sub slot port : Nat) (va : Word) : Exc := ⟨0x21, sub, slot, port, va, 0, [], false⟩

/-- The physical address of a data access that may be made, or what stands in its way (R20, R21, R71, R199, R210). -/
def State.dataAddr (s : State) (c : Nat) (va : Word) (kind : AccKind) (slot port access : Nat) : Except Plan Nat :=
  match s.xlat c va kind with
  | .ok pa =>
    if s.mayReach (s.masterOf c) pa then .ok pa
    else .error (.raise { dataExc 2 slot port va with toHost := !(s.core c).host && isCsrAddr pa } (.addr access pa))
  | .address => .error (.raise (dataExc 2 slot port va) .none)
  | .fault d => .error (.raise { dataExc 3 slot port va with detail := d } .none)
  | .walk => .error (.stall (.walk va kind slot port))
  | .conflict => .error (.raise (plainExc 0x60 2 slot) (.conflict va kind))

/-- A fence before the next bundle holds up its memory, cm, bell and lateral triggers (R80); a headworks core never waits (R84). -/
def State.behindFence (s : State) (c : Nat) : Bool := decide (c < 80) && !(s.core c).fences.isEmpty

/-- The units whose triggers a fence holds up. -/
def fencedUnits : List Nat := [0x200, 0x240, 0x3A0, 0x3E0, 0x440, 0x460]

/-- An interlocked result outstanding. -/
def State.await (s : State) (c : Nat) (l : List Await) : State := s.modCore c (fun k => { k with awaits := k.awaits ++ l })

/-- The result of a boundary operation that the checker holds for the bundle a member is about to issue, or held for a core when it
left its group (R156). -/
def State.heldFor (s : State) (c p : Nat) : Option HeldRes :=
  match s.groupOf c with
  | none => (s.core c).kept.find p
  | some g =>
    let m := s.member c
    ((s.group g).held.find p).filter (fun h => h.epoch == (s.group g).confirmed + m.closed.length && !m.taken)

/-- A member takes a held result with the bundle it issues. -/
def State.takeHeld (s : State) (c : Nat) : State := s.modMember c (fun m => { m with takes := true })

/-- The held result of a boundary operation taken by a member, a new operation of a core that is not compared, or none where
the bundle waits for the checker (R156). -/
def State.once (s : State) (c : Nat) (r : BoundaryReq) : Option (State × HeldRes) :=
  match s.heldFor c r.port with
  | some h => some (s.takeHeld c, h)
  | none => if s.guardedCore c then none else some (s.boundaryRun c r none)

/-! Loads and stores (R75) -/

/-- An access of NORMAL memory by a main core that has to wait at issue: L2 has no way for its line (R149). -/
def State.noWayFor (s : State) (c pa : Nat) : Bool :=
  decide (c < 80) && s.rangeClass pa == .normal && !(s.core c).inL1D pa && (s.core c).noWay (lineOf pa)

/-- A member's DEVICE store, released or not, is not yet performed (R79, R148). -/
def State.devicePending (s : State) (c : Nat) : Bool := (s.storeView c).any (fun e => e.typ == 3)

/-- A DEVICE store of a guarded member waits for its interval's confirmation. One of the bundle itself is not looked at: its interval
cannot close before the bundle has retired, so its load is performed first (R79 does not say; DESIGN CHOICE). -/
def State.deviceHeld (s : State) (c : Nat) : Bool :=
  s.guardedCore c && ((s.member c).unconfirmed.drop ((s.groupOf c).elim 0 (fun g => (s.group g).released))).any (fun e => e.typ == 3)

/-- A load trigger. Behind a DEVICE store of its core a load is performed only once that store is (R79); `held` says that one before
the bundle waits for confirmation. -/
def State.loadTrig (s : State) (c slot p : Nat) (b : Word) (held : Bool) : Plan :=
  let k := s.core c
  let base := p / 0x40 * 0x40
  let sh := ldShapeAt (p % 0x40)
  let va := k.port base + b
  let v := base + 4 + (k.port (base + 2)).toNat % 4
  if va.toNat % sh.1 != 0 then .raise (dataExc 1 slot p va) .none
  else
    match s.dataAddr c va .read slot p accRead with
    | .error x => x
    | .ok pa =>
      if s.rangeClass pa == .device then
        match (s.tlbHit c va .read).once c ⟨p, pa, 0, []⟩ with
        | some (s, h) => .go (s.await c [⟨v, h.lo, h.poison, pa⟩])
        | none => .stall (.boundary ⟨p, pa, 0, []⟩)
      else if held then .stall .device
      else if s.noWayFor c pa then .stall (.line (lineOf pa))
      else
        let s := if s.devicePending c then s.drain (s.outCore c) else s
        let (s, x, poison) := (s.tlbHit c va .read).load c slot pa sh.1 va
        let x := extendLd sh x
        if 80 ≤ c && inHwBank pa then
          .go (s.modCore c (fun k => k.start ⟨base, p, k.port 0x88, s.clock c, s.clock c + 3, [(v, x)], 0, none, 0,
            if poison then some pa else none⟩))
        else .go (s.await c [⟨v, x, poison, pa⟩])

/-- A store may enter its queue: 32 entries on a main core, 8 on a headworks core (R71, R86); the delay registers of a guarded
member close the interval instead (R147). -/
def State.storeRoom (s : State) (c : Nat) : Bool :=
  s.guardedCore c || decide ((s.core c).sb.length < if c < 80 then 32 else 8)

/-- A store trigger; one to the headworks bank is performed at once, behind the core's earlier stores (R78, R85). -/
def State.storeTrig (s : State) (c slot p : Nat) (b : Word) : Plan :=
  let k := s.core c
  let base := p / 0x40 * 0x40
  let n := 2 ^ (p % 8)
  let va := k.port base + b
  if va.toNat % n != 0 then .raise (dataExc 1 slot p va) .none
  else
    match s.dataAddr c va .write slot p accWrite with
    | .error x => x
    | .ok pa =>
      let s := s.tlbHit c va .write
      let data := zextW (k.port (base + 1)) (8 * n)
      let typ := if s.rangeClass pa == .device then 3 else 1
      if 80 ≤ c && inHwBank pa then .go ((s.drain c).performStore c pa n data)
      else if s.storeRoom c then .go (s.output c [⟨typ, pa, n, data, false⟩])
      else if 80 ≤ c then .raise (dataExc 6 slot p va) .none
      else .stall .storeFull

/-! Atomics and fences (R79, R80) -/

/-- A read-modify-write trigger. At an address that the core may not reach and that is not NORMAL either, ADDRESS is raised and not
ATOMIC; R21 and R79 do not say which (DESIGN CHOICE). -/
def State.atomTrig (s : State) (c slot p : Nat) (b : Word) : Plan :=
  let k := s.core c
  let va := k.port 0x3A0
  if va.toNat % (if p = 0x3AD then 16 else 8) != 0 then .raise (dataExc 1 slot p va) .none
  else
    match s.dataAddr c va .write slot p accAtomic with
    | .error x => x
    | .ok pa =>
      if s.rangeClass pa != .normal then .raise (dataExc 4 slot p va) .none
      else if !s.guardedCore c && decide (c < 80) && !(s.core c).inL1D pa && (s.core c).fillWaits (lineOf pa) then
        .stall (.line (lineOf pa))
      else
        let s := s.tlbHit c va .write
        let r : BoundaryReq := ⟨p, pa, b, [k.port 0x3A1, k.port 0x3A2, k.port 0x3A3]⟩
        match s.once c r with
        | none => .stall (.boundary r)
        | some (s, h) =>
          .go (s.await c (⟨0x3A4, h.lo, h.poison, pa⟩ ::
            (if p = 0x3AD then [⟨0x3A5, h.hi, h.poison, pa⟩] else [])))

/-- The results of a fence: 0 (R75). -/
def fenceAwaits : List Await := [⟨0x3A4, 0, false, 0⟩, ⟨0x3A5, 0, false, 0⟩]

/-- What a fence waits for has happened, of the accesses before it: SL stores, LAT lateral writes, INSN stores, DEV DEVICE accesses;
every mask but 0 covers the core's maintenance (R80, R189). -/
def State.fenceDone (s : State) (c : Nat) (f : FenceEnt) : Bool :=
  let b := f.mask
  let none (typ : Nat) : Bool := ((s.core c).sb.take f.ahead).all (fun e => e.typ != typ)
  (!(bit b 0) || (none 1 && none 3)) && (!(bit b 1) || none 2) && (!(bit b 2) || (none 1 && none 3))
    && (!(bit b 3) || (none 3 && f.loads.all (fun a => s.rangeClass a.addr != .device)))
    && (b.toNat % 16 == 0 || f.cms.isEmpty)

/-- The results of a fence delivered to a core that awaits them. -/
def Core.fenceResults (k : Core) (hw : Bool) : Core :=
  fenceAwaits.foldl (fun k a => if k.awaits.contains a then k.deliver hw a else k) k

/-- A line leaves this core's L1I (R187). -/
def Core.dropInsn (k : Core) (line : Nat) : Core :=
  { k with l1i := k.l1i.filter (fun e => e.2.line != line), stale := dropRange k.stale (line * 256) 256 }

/-- A fence with INSN completes: what cm.t.iinv has named since the last one is fetched anew (R80). -/
def Core.insnFence (k : Core) (b : Word) : Core :=
  if bit b 2 then { k.iinvd.foldl Core.dropInsn k with iinvd := [] } else k

/-- A fence begins: it covers what the core has outstanding. -/
def Core.addFence (k : Core) (b : Word) : Core :=
  { k with fences := k.fences ++ [⟨b, k.sb.length, k.awaits, k.cmq⟩], awaits := k.awaits ++ fenceAwaits }

/-- atom.t.fence: a mask of 0 completes at once; a guarded member takes it from the checker (R80, R156). -/
def State.fenceTrig (s : State) (c : Nat) (b : Word) : Plan :=
  let hw := decide (80 ≤ c)
  if s.guardedCore c then
    match s.once c ⟨0x3B0, 0, b, []⟩ with
    | some (s, _) => .go (s.modCore c (fun k => ({ k with awaits := k.awaits ++ fenceAwaits }.fenceResults hw).insnFence b))
    | none => .stall (.boundary ⟨0x3B0, 0, b, []⟩)
  else if b.toNat % 16 = 0 then .go (s.modCore c (fun k => { k with awaits := k.awaits ++ fenceAwaits }.fenceResults hw))
  else .go (s.modCore c (fun k => k.addFence b))

/-! Translation (R218, R219) -/

/-- What the walk of the stalled bundle found for an address and a kind of access (R187, R218). -/
def Core.walkedFor (k : Core) (va : Word) (kind : AccKind) : Option Word :=
  match k.walked with
  | some (a, x, v) => if a = va && x == kind then some v else none
  | none => none

/-- A probe trigger: its result from a TLB, a FLAT reach or the walk just done. -/
def State.probeTrig (s : State) (c slot p : Nat) (b : Word) : Plan :=
  let kind : AccKind := if p = 0x3C8 then .probeR else .probeW
  match (s.core c).walkedFor b kind with
  | some v => .go (s.await c [⟨0x3C2, v, false, 0⟩])
  | none =>
    match s.probeResult c b kind with
    | some v => .go ((s.tlbHit c b kind).await c [⟨0x3C2, v, false, 0⟩])
    | none =>
      match s.xlat c b kind with
      | .conflict => .raise (plainExc 0x60 2 slot) (.conflict b kind)
      | _ => .stall (.walk b kind slot p)

/-- An invalidation trigger: performed after the core's earlier stores, in a guarded group by the leading member once its
interval is confirmed (R219, R220). -/
def State.invTrig (s : State) (c p : Nat) (b : Word) : Plan :=
  let e : InvEnt := ⟨p, b, (s.core c).port 0x3C0, if s.guardedCore c then s.openInterval c else 0⟩
  let s := if s.guardedCore c then s else s.invalidate c e
  .go (s.modCore c (fun k => { k with awaits := k.awaits ++ [⟨0x3C2, 0, false, 0⟩], invq := k.invq ++ [e] }))

/-! Maintenance (R187) -/

/-- The cm operation of a trigger by its offset. -/
def cmOpAt (p : Nat) : CmOp :=
  match p with
  | 0x3E8 => .clean | 0x3E9 => .flush | 0x3EA => .inv | 0x3EB => .zero | 0x3EC => .pref | _ => .iinv

/-- The four sub-blocks of a line fetched into L1D (R187). -/
def State.prefLine (s : State) (c line : Nat) : State :=
  (List.range 4).foldl (fun s j => s.touchData c (line * 256 + 64 * j) false) s

/-- cm.t.pref: the four sub-blocks fetched, after the maintenance of the line that is outstanding, or nothing (R187, R188); a conflict in the
TLB is a machine check (R210). -/
def State.prefTrig (s : State) (c slot p : Nat) (va : Word) : Plan :=
  if 80 ≤ c || (s.core c).prefGone then .go s
  else
    match s.xlat c va .pref with
    | .ok pa =>
      if s.rangeClass pa == .normal && s.mayReach (s.masterOf c) pa then
        let s := s.tlbHit c va .pref
        if (s.core c).maintained (lineOf pa) then .go (s.modCore c (fun k => { k with cmq := k.cmq ++ [⟨.pref, lineOf pa, 0⟩] }))
        else .go (s.prefLine c (lineOf pa))
      else .go s
    | .walk => .stall (.walk va .pref slot p)
    | .conflict => .raise (plainExc 0x60 2 slot) (.conflict va .pref)
    | _ => .go s

/-- cm.t.iinv: it needs no permission, waits for the walk of a miss, and raises nothing where translation faults; two entries of the
TLB that both match are a machine check as for any access (R71, R187, R210). -/
def State.iinvTrig (s : State) (c slot p : Nat) (va : Word) : Plan :=
  let drop (s : State) (pa : Nat) : Plan :=
    .go (s.modCore c (fun k => { k.dropInsn (lineOf pa) with iinvd := insertNat k.iinvd (lineOf pa) }))
  if 80 ≤ c || (s.core c).prefGone then .go s
  else match (s.core c).walkedFor va .iinv with
    | some pa => drop s pa.toNat
    | none =>
      match s.xlat c va .iinv with
      | .ok pa => drop (s.tlbHit c va .iinv) pa
      | .walk => .stall (.walk va .iinv slot p)
      | .conflict => .raise (plainExc 0x60 2 slot) (.conflict va .iinv)
      | _ => .go s

/-- cm.t.zero of a NORMAL line. -/
def State.zeroTrig (s : State) (c pa : Nat) : Plan :=
  if 80 ≤ c then .go ((s.drain c).writeNormal (lineOf pa * 256) (List.replicate 256 0) false)
  else if s.storeRoom c then .go (s.output c [⟨1, lineOf pa * 256, 256, 0, false⟩])
  else .stall .storeFull

/-- A clean, flush or inv of a NORMAL line: performed, and complete later (R188, R189). -/
def State.lineTrig (s : State) (c pa : Nat) (op : CmOp) : Plan :=
  let line := lineOf pa
  if s.guardedCore c then
    if op == .inv then
      match s.once c ⟨0x3EA, line * 256, 0, []⟩ with
      | some (s, _) => .go s
      | none => .stall (.boundary ⟨0x3EA, line * 256, 0, []⟩)
    else if s.indexOf c != 0 then .go s
    else .go (s.modCore c (fun k => { k with cmq := k.cmq ++ [⟨op, line, s.openInterval c⟩] }))
  else .go ((s.maintain c op line).modCore c (fun k => { k with cmq := k.cmq ++ [⟨op, line, 0⟩] }))

/-- A cm trigger. -/
def State.cmTrig (s : State) (c slot p : Nat) (b : Word) : Plan :=
  let op := cmOpAt p
  let va := b &&& ~~~ (0xFF : Word)
  if decide (c < 80) && decide (8 ≤ (s.core c).cmq.length) then .stall (.queueFull 0x3E0)
  else match op with
    | .pref => s.prefTrig c slot p va
    | .iinv => s.iinvTrig c slot p va
    | _ =>
      let w := op == .inv || op == .zero
      match s.dataAddr c va (if w then .write else .read) slot p (if w then accWrite else accRead) with
      | .error x => x
      | .ok pa =>
        let s := s.tlbHit c va (if w then .write else .read)
        if s.rangeClass pa != .normal then
          if op == .zero then .raise (dataExc 2 slot p b) .none else .go s
        else if op == .zero then s.zeroTrig c pa
        else s.lineTrig c pa op

/-! Requests (R76) -/

/-- Requests outstanding on a result port. -/
def Core.requests (k : Core) (p : Nat) : Nat := (k.awaits.filter (fun a => a.port == p)).length

/-- A cip trigger (R344, R345); `x` is the failure the cross-check meets, if any (R358). -/
def State.cipTrig (s : State) (c p : Nat) (b : Word) (x : KeyRead) : Plan :=
  let k := s.core c
  if 4 ≤ max (k.requests 0x404) (k.requests 0x405) then .stall (.queueFull 0x400)
  else if p = 0x40A then
    let r := k.cipGmul b
    .go (s.await c [⟨0x404, r.1, false, 0⟩, ⟨0x405, r.2, false, 0⟩])
  else
    let r := s.cipCore c (if p = 0x408 then .enc else .dec) b x
    .go (r.1.await c [⟨0x404, r.2.1, r.2.2.2, 0⟩, ⟨0x405, r.2.2.1, r.2.2.2, 0⟩])

/-- The class and allotment that a request carries (R275, R368). -/
def Core.hostWord (k : Core) : Word := b2w k.host
def Core.allotWord (k : Core) : Word := if k.host then 0 else zextW (k.port 0xB3) 12

/-- A cmx trigger (R368). -/
def State.cmxTrig (s : State) (c p : Nat) (b : Word) : Plan :=
  let k := s.core c
  let r : BoundaryReq := ⟨p, 0, b, [k.hostWord, k.allotWord]⟩
  if 4 ≤ k.requests 0x420 then .stall (.queueFull 0x420)
  else match s.once c r with
    | some (s, h) => .go (s.await c [⟨0x420, h.lo, false, 0⟩])
    | none => .stall (.boundary r)

/-- bell.t.ring (R81, R275). -/
def State.bellTrig (s : State) (c p : Nat) (b : Word) : Plan :=
  let k := s.core c
  let r : BoundaryReq := ⟨p, 0, b, [k.port 0x440, k.allotWord]⟩
  match s.once c r with
    | some (s, h) => .go (s.await c [⟨0x441, h.lo, false, 0⟩])
    | none => .stall (.boundary r)

/-- lat.t.fence (R76, R80). -/
def State.latTrig (s : State) (c : Nat) : Plan :=
  if s.latBusy c then .stall .latFence
  else .go (s.modCore c (fun k => { k with latFence := lateralUpTo (s.storeView c) }))

/-- A trigger of these units by its port. -/
def State.unitTrig (s : State) (c slot p : Nat) (b : Word) (x : KeyRead) (held : Bool) : Plan :=
  let u := unitOf p
  if u = 0x200 || u = 0x240 then if p % 0x40 < 0x18 then s.loadTrig c slot p b held else s.storeTrig c slot p b
  else if u = 0x3A0 then if p = 0x3B0 then s.fenceTrig c b else s.atomTrig c slot p b
  else if u = 0x3E0 then s.cmTrig c slot p b
  else if u = 0x440 then s.bellTrig c p b
  else if u = 0x3C0 then if p < 0x3CA then s.probeTrig c slot p b else s.invTrig c p b
  else if u = 0x400 then s.cipTrig c p b x
  else if u = 0x420 then s.cmxTrig c p b
  else if u = 0x460 then s.latTrig c
  else .go s

/-- The order in which a bundle's triggers of these units act (R78). -/
def unitOrder : List Nat := [0x200, 0x240, 0x3A0, 0x3E0, 0x440, 0x3C0, 0x400, 0x420, 0x460]

end Sys2Proof.Machine
end

