-- ==== Sys2Proof/Machine/Traps.lean ====
section
/-!
DEFINITION. Traps of a core (05, R112-R129; 06, R153): the condition taken at a bundle boundary, trap entry and trap return, each
one shared operation.
-/

namespace Sys2Proof.Machine
open Sys2Proof Csr

/-! Asynchronous inputs of members (R153, R157) -/

/-- The recorded inputs that a member takes in place of its own: the leading member's where inputs are exchanged or an interval
is run again. -/
def State.replayInputs (s : State) (c : Nat) : Option (List (Nat × Word)) :=
  match s.groupOf c with
  | none => none
  | some g =>
    let gr := s.group g
    let i := s.indexOf c
    let m := s.member c
    let again := decide (0 < gr.attempts) && m.closed.isEmpty
    if !s.guarded g then none
    else if i != 0 then if s.exchanges g i || again then (gr.ahead i).map Interval.inputs else none
    else if again && decide (m.inputs.length < gr.pinned.length) then some gr.pinned
    else none

/-- An input of a kind recorded at a member's retired-bundle count: 0 a value, 1 an interrupt. -/
def State.nextInput (s : State) (c kind : Nat) : Option (Option Word) :=
  (s.replayInputs c).map (fun l =>
    match l[(s.member c).inputs.length]? with
    | some e => if e.1 = 2 * (s.member c).retired + kind then some e.2 else none
    | none => none)

/-- An input put into a guarded member's record. -/
def State.recordInput (s : State) (c kind : Nat) (v : Word) : State :=
  if s.guardedCore c then s.modMember c (fun m => { m with inputs := m.inputs ++ [(2 * m.retired + kind, v)] }) else s

/-- A read of cyc, tmr0, tmr1 or ipend (R153, R155). -/
def State.asyncRead (s : State) (c p : Nat) : State × Word :=
  let v := ((s.nextInput c 0).join).getD (s.readPort c p)
  (s.recordInput c 0 v, v)

/-! What is taken at a bundle boundary (R114, R125) -/

/-- ictl bits (R116). -/
def bitHIE : Nat := 0
def bitGIE : Nat := 1
def bitMCA : Nat := 2

/-- The lowest line of a word. -/
def lowestLine (v : Word) : Option Nat := firstIdx 64 (fun n => bit v n)

/-- The line a core would take by its own registers: an enabled host line, else an enabled guest line (R114, R125); a headworks
core has lines 0-15 (R129). -/
def State.ownLine (s : State) (c : Nat) : Option Nat :=
  let k := s.core c
  let ready := s.readPort c 0xB0 &&& k.port 0xB1
  let ready := if 80 ≤ c then ready &&& 0xFFFF else ready
  let host := if bit (k.port 0xAF) bitHIE then lowestLine (ready &&& ~~~ k.port 0xB2) else none
  let guest := if !k.host && bit (k.port 0xAF) bitGIE then lowestLine (ready &&& k.port 0xB2) else none
  host.orElse (fun _ => guest)

/-- The interrupt line that is to be taken (R125, R153). -/
def State.irqLine (s : State) (c : Nat) : Option Nat :=
  match s.nextInput c 1 with
  | some v => v.map BitVec.toNat
  | none => s.ownLine c

/-- A condition of R114. -/
inductive Cond where
  | async
  | comp (t : CTrap)
  | irq (line : Nat)
  | sync (e : Exc)
deriving DecidableEq, Repr

/-- The first condition in the order of R114; ASYNC and interrupts wait while a bundle stalls, completion traps do not (R69). -/
def State.nextCond (s : State) (c : Nat) : Option Cond :=
  let k := s.core c
  match k.exc.filter Exc.cstore with
  | some e => some (.sync e)
  | none =>
    if k.async && k.stall.isNone then some .async
    else match k.ctraps with
      | t :: _ => some (.comp t)
      | [] =>
        match (if k.stall.isSome then none else s.irqLine c) with
        | some n => some (.irq n)
        | none => k.exc.map Cond.sync

/-! Entry (R117-R120) -/

/-- A trap about to be entered: the frame words it fixes, what it fills, and whether the host takes it in any case. -/
structure Taking where
  cause : Nat
  sub : Nat
  slot : Nat
  port : Nat
  daddr : Word
  detail : Word
  report : Word
  fill : List (Nat × Word)
  toHost : Bool
deriving DecidableEq, Repr

/-- Completion traps, interrupts and machine checks among the causes (R112). -/
def Taking.completion (t : Taking) : Bool := t.cause == 0x40 || t.cause == 0x41
def Taking.interrupt (t : Taking) : Bool := t.cause == 0x50
def Taking.machineCheck (t : Taking) : Bool := t.cause == 0x60

/-- The CAUSE word (R119). -/
def Taking.word (t : Taking) (act : Nat) : Word :=
  let port := if t.completion || t.cause == 0x21 then t.port else 0
  Word.ofNat (t.cause + t.sub * 0x100 + t.slot * 0x10000 + port * 0x100000 + act * 2 ^ 32)

/-- The trap of a condition for a core about to resume at an address. -/
def Cond.taking (d : Cond) (resume : Word) : Taking :=
  match d with
  | .async => ⟨0x60, 5, 0, 0, 0, 0, resume, [], true⟩
  | .comp t => ⟨t.cause, 0, 0, t.port, 0, Word.ofNat t.detail, t.bundle, [], false⟩
  | .irq n => ⟨0x50, n, 0, 0, 0, 0, resume, [], false⟩
  | .sync e => ⟨e.cause, e.sub, e.slot, e.port, e.daddr, e.detail, resume, e.fill, e.toHost⟩

/-- The host handler takes a trap (R113). -/
def Core.hostTakes (k : Core) (t : Taking) : Bool :=
  k.host || t.cause == 0x10 || t.machineCheck || t.cause == 0x70 || t.toHost
    || (t.interrupt && !bit (k.port 0xB2) t.sub) || k.port 0xAC == 0

/-- The offset of the handler from its vector base (R117, R129). -/
def vectorOffset (host guest : Bool) (t : Taking) : Nat :=
  if t.machineCheck then 0x180
  else if host && guest then 0x200
  else if t.interrupt then 0x100
  else if t.completion then 0x80
  else 0

/-- The depth count of a class (R116). -/
def Core.depth (k : Core) (host : Bool) : Nat := bits (k.port 0xAF).toNat (if host then 8 else 16) 8

/-- ictl with a class's depth count set. -/
def withDepth (v : Word) (host : Bool) (d : Nat) : Word := (Fld.mk (if host then 8 else 16) 8).set v d

/-- The ports of a class's trap stack: pointer and limit (R115). -/
def spPort (host : Bool) : Nat := if host then 0xAA else 0xAD
def limPort (host : Bool) : Nat := if host then 0xAB else 0xAE

/-- The words of a frame, offsets 0x000 to 0x258 (R118). -/
def State.frameWords (s : State) (c : Nat) (t : Taking) : List Word :=
  let k := s.core c
  let preds := Word.ofNat ((List.range 8).foldl (fun x n => x + (if n = 0 then 0 else b2n (bit (k.port (0x80 + n)) 0) * 2 ^ n)) 0)
  let port (p : Nat) : Word := if k.arch.poison.contains p then 0 else k.port p
  [t.word ((k.port 0xB3).toNat % 4096), k.port 0x88, t.report, t.daddr, t.detail, k.status, k.port 0x89, k.port 0x8A,
    k.repeatWord, preds, k.port 0xAF &&& 7, k.poisonWord]
    ++ (List.range 10).map (fun n => k.port (0x90 + n)) ++ [k.port 0x383, k.port 0x384] ++ interlockedPorts.map port
    ++ operandPorts.map (fun e => k.port e.1) ++ [0]

/-- Where a frame lies: at a physical address, nowhere that the class may use, or under two TLB entries (R210). -/
inductive FrameAt where
  | at (pa : Nat)
  | bad
  | conflict
deriving DecidableEq, Repr

/-- The physical address of a frame: host frames bypass translation, guest frames take the allotment's, with its walk, of which a free
number of compare-and-swaps fails first (R213); bad where it
faults or lies outside what the core may reach, which is recorded, or outside NORMAL and SCRATCH (R21, R117, R120, R121). -/
def State.frameAddr (s : State) (c : Nat) (host : Bool) (f : Word) (kind : AccKind) : State × FrameAt :=
  let access := if kind == .write then accWrite else accRead
  let ok (m : Master) (s : State) (pa : Nat) : State × FrameAt :=
    if !s.mayReach m pa then (s.addrFault m access pa, .bad)
    else if s.rangeClass pa == .normal || s.rangeClass pa == .scratch then (s, .at pa)
    else (s, .bad)
  if host then if f.toNat < 2 ^ 48 then ok (s.masterOf c) s f.toNat else (s, .bad)
  else
    match s.xlatAs c false f kind with
    | .ok pa => ok (.core c false) (s.tlbUse c false f kind) pa
    | .walk =>
      let r := s.drawn.walk c false f kind (s.freeVal.toNat % 128)
      match r.2, r.1.xlatAs c false f kind with
      | none, .ok pa => ok (.core c false) r.1 pa
      | none, .conflict => (r.1.conflict c f kind, .conflict)
      | _, _ => (r.1, .bad)
    | .conflict => (s.conflict c f kind, .conflict)
    | _ => (s, .bad)

/-- A frame stored at a physical address: outputs of a guarded member, else performed at once (R117, R148). -/
def State.storeFrame (s : State) (c pa : Nat) (l : List Word) : State :=
  if s.guardedCore c then s.output c (l.zipIdx.map (fun e => ⟨1, pa + 8 * e.2, 8, e.1, false⟩))
  else l.zipIdx.foldl (fun s e => s.outputNow c (fun s => s.performStore c (pa + 8 * e.2) 8 e.1)) (s.drain c)

/-- A core halts (R120, R128): a SPLIT core is HALTED and to be replaced, a member fails, a headworks core stops. -/
def State.haltCore (s : State) (c code : Nat) : State :=
  let s := if c < 80 && s.role c = roleSplit then (s.setRole c roleHalted).need c 3
    else s.modCore c (fun k => { k with failed := true })
  s.fault0 code (mstCore c) accNone

/-- The cycles of an entry and of a return on a main or a headworks core (R127). -/
def entryCycles (c : Nat) : Nat := if c < 80 then 20 else 12
def returnCycles (c : Nat) : Nat := if c < 80 then 24 else 14

/-- Steps 4 to 8 of R117 on a core that waits no more: the frame at F, the class's stack, status, lr and pc. -/
def State.enterAt (s : State) (c : Nat) (host : Bool) (t : Taking) (f : Word) (pa : Nat) (hold : List CTrap) : State :=
  let guest := !(s.core c).host
  let s := s.storeFrame c pa (s.frameWords c t)
  s.modCore c (fun k =>
    let d := k.depth host + 1
    let ictl := withDepth (k.port 0xAF) host d
    let ictl := setBit ictl (if host then bitHIE else bitGIE) false
    let ictl := if t.machineCheck then setBit ictl bitMCA true else ictl
    let status := if host then setBit (k.port 0x8C) 16 true else k.port 0x8C
    let vec := k.port (if host then 0xA9 else 0xAC) + Word.ofNat (vectorOffset host guest t)
    let k := k.setPorts (t.fill ++ [(spPort host, f), (0xAF, ictl), (0x8C, status), (0x89, f), (0x88, vec)])
    let k := if c < 80 then k.setPort 0xA0 (setBit (k.port 0xA0) 31 false) else k
    { k with
      arch := { k.arch with rep := 0, repOn := false }
      ctraps := []
      held := if hold.isEmpty then k.held else (host, d, hold) :: k.held
      cc := k.cc + entryCycles c })

/-- A failed push of a headworks core: a machine check with subtype CSTORE is reported, and taken without a frame (R129). -/
def State.hwPushFailed (s : State) (c : Nat) : State :=
  let s := s.fault0 0x0E (mstCore c) accNone
  s.modCore c (fun k =>
    let ictl := setBit (setBit (k.port 0xAF) bitMCA true) bitHIE false
    let k := k.setPorts [(0xAF, ictl), (0x88, k.port 0xA9 + 0x180)]
    { k with arch := { k.arch with rep := 0, repOn := false }, cc := k.cc + entryCycles c })

/-- The push of a frame of a class fails before its address is looked at (R117 step 3). -/
def Core.pushLimit (k : Core) (host : Bool) (f : Word) : Bool :=
  decide (f.toNat < (k.port (limPort host)).toNat) || k.depth host == 255

/-- Entry of a trap that the host takes; a failed push halts the core (R117, R120). -/
def State.enterHost (s : State) (c : Nat) (t : Taking) (hold : List CTrap) : State :=
  let k := s.core c
  let f := k.port 0xAA - 0x400
  let r := if k.pushLimit true f then (s, .bad) else s.frameAddr c true f .write
  match r.2 with
  | .at pa => r.1.enterAt c true t f pa hold
  | _ => if c < 80 then r.1.haltCore c 0x0C else r.1.hwPushFailed c

/-- A machine check that a conflict of the TLB raises as a guest frame is pushed or popped (R210): the host takes it, or the core
halts while MCA is 1 (R128). -/
def State.enterConflict (s : State) (c : Nat) (hold : List CTrap) : State :=
  if bit ((s.core c).port 0xAF) bitMCA then s.haltCore c 0x0D
  else s.enterHost c ⟨0x60, 2, 0, 0, 0, 0, (s.core c).port 0x88, [], true⟩ hold

/-- Entry of a trap that the guest takes; a failed push becomes a host TRAP-STACK, the trap's own completion trap held
(R120). A conflict of the TLB is a machine check instead, after which the condition stands again or is raised again. -/
def State.enterGuest (s : State) (c : Nat) (t : Taking) (own hold : List CTrap) : State :=
  let k := s.core c
  let f := k.port 0xAD - 0x400
  let fail (s : State) (sub : Nat) : State :=
    s.enterHost c ⟨0x70, sub, 0, 0, f, t.word ((k.port 0xB3).toNat % 4096), t.report, [], true⟩ (own ++ hold)
  if k.pushLimit false f then fail s 1
  else
    let r := s.frameAddr c false f .write
    match r.2 with
    | .at pa => r.1.enterAt c false t f pa hold
    | .bad => fail r.1 2
    | .conflict => r.1.enterConflict c (own ++ hold)

/-- Taking a condition at a bundle boundary: the wait of R82, the handler of R113, the push (R117). A machine check while MCA is 1
halts the core (R128). An emulated resume not yet run is given up, so that its bundle traps again after the return; R58 does not
speak of a trap between the return and the bundle (DESIGN CHOICE). -/
def State.enterCond (s : State) (c : Nat) (d : Cond) : State :=
  let own : List CTrap := match d with | .comp t => [t] | _ => []
  let s := match d with | .irq n => s.recordInput c 1 (Word.ofNat n) | _ => s
  let s := s.modMember c (fun m => { m with entries := m.entries + 1 })
  let s := s.modCore c (fun k =>
    let k := { k with ctraps := k.ctraps.drop own.length }.quiet (decide (80 ≤ c))
    { k with
      exc := none
      stall := none
      reads := []
      emu := none
      latVal := []
      prefGone := false
      walked := none
      async := (match d with | .async => false | _ => k.async) })
  let s := s.ctxBoundary c
  let k := s.core c
  let t := d.taking (k.port 0x88)
  if t.machineCheck && bit (k.port 0xAF) bitMCA then s.haltCore c 0x0D
  else if k.hostTakes t then s.enterHost c t k.ctraps
  else s.enterGuest c t own k.ctraps

/-- A lateral read of the stalled bundle is outstanding (R60). -/
def Core.lateralOut (k : Core) : Bool :=
  match k.stall with
  | some (.lateral p) => (k.latVal.find p).isNone
  | _ => false

/-- A main core's entry waits for a fence, an invalidation or a lateral read outstanding, whose completion is an event of its own
(R60, R80, R82, R219). The value that such a read brought is given up with its bundle, which reads again (R82 does not say; DESIGN
CHOICE). -/
def Core.entryWaits (k : Core) (c : Nat) : Bool := decide (c < 80) && (!k.fences.isEmpty || !k.invq.isEmpty || k.lateralOut)

/-- The core takes the first condition that stands at its bundle boundary, when a test picks it. -/
def State.takeTrap (s : State) (c : Nat) (p : Cond → Bool) : State :=
  if s.coreActive c s.mayEnter && !(s.core c).entryWaits c then
    let s := s.modCore c (fun k => k.settle (s.clock c))
    match s.nextCond c with
    | some d => if p d then s.enterCond c d else s
    | none => s
  else s

/-! Return (R121-R123) -/

/-- A core's registers restored from the words of a frame of its class (R121). -/
def Core.restoreFrame (k : Core) (hw host : Bool) (w : Nat → Word) : Core :=
  let there (l : List (Nat × Word)) : List (Nat × Word) := l.filter (fun e => (portInfo hw e.1).isSome)
  let status := setBit (statusWrite (k.port 0x8C) (w 5)) 16 (hw || (host && bit (w 5) 16))
  let saved := w 10
  let ictl := k.port 0xAF
  let ictl := if host then setBit (setBit ictl bitHIE (bit saved bitHIE)) bitMCA (bit saved bitMCA)
    else setBit ictl bitGIE (bit saved bitGIE)
  let ictl := withDepth ictl host (k.depth host - 1)
  let sp := k.port (spPort host) + 0x400
  let poisoned := ((List.range 15).filter (fun n => bit (w 11) n)).map (fun n => interlockedPorts.getD n 0)
  let k := k.setPorts ([(0x8C, status), (0xAF, ictl), (spPort host, sp), (0x88, w 1 &&& ~~~ (0x1F : Word)), (0x89, w 6), (0x8A, w 7)]
    ++ (List.range 7).map (fun n => (0x81 + n, b2w (bit (w 9) (n + 1)))))
  let k := k.setPorts (there ((List.range 10).map (fun n => (0x90 + n, w (12 + n))) ++ [(0x383, w 22), (0x384, w 23)]
    ++ interlockedPorts.zipIdx.map (fun e => (e.1, w (24 + e.2)))
    ++ ((operandPorts.zipIdx.filter (fun e => host || e.1.1 != 0x3C0)).map (fun e => (e.1.1, narrow e.1.2 (w (39 + e.2)))))))
  { k with
    arch := { k.arch with rep := (w 8).toNat % 2 ^ 32, repOn := bit (w 8) 63, poison := poisoned.foldl insertNat [] }
    poisonAt := [] }

/-- Completion traps held for the frame that a return pops become due (R123). -/
def Core.releaseHeld (k : Core) (host : Bool) (d : Nat) : Core :=
  let mine (e : Bool × Nat × List CTrap) : Bool := e.1 == host && e.2.1 == d
  { k with
    ctraps := ((k.held.filter mine).flatMap (fun e => e.2.2)).foldl insertTrap k.ctraps
    held := k.held.filter (fun e => !mine e) }

/-- The frame at the top of a class's stack (R121): its words, or its address where reading it fails. -/
def State.readFrame (s : State) (c : Nat) (host : Bool) : State × (FrameAt ⊕ List Byte) :=
  let r := s.frameAddr c host ((s.core c).port (spPort host)) .read
  match r.2 with
  | .at pa => (r.1, if r.1.loadPoison c pa 0x260 then .inl .bad else .inr (r.1.loadBytes c pa 0x260))
  | x => (r.1, .inl x)

/-- The registers restored from a frame's bytes; EMU = 1 arms the emulated resume (R58, R121). EMU stays 1 in xinfo after the resume,
so that a return with no trap entry between arms it again; R58 does not say that the resume uses EMU up (DESIGN CHOICE). -/
def State.resumeFrom (s : State) (c : Nat) (host : Bool) (l : List Byte) : State :=
  let w (i : Nat) : Word := Word.ofNat (leNat ((l.drop (8 * i)).take 8))
  s.modCore c (fun k =>
    let d := k.depth host
    let k := (k.restoreFrame (decide (80 ≤ c)) host w).releaseHeld host d
    let x := k.port 0xA0
    { k with
      emu := if decide (c < 80) && bit x 31 then some (bits x.toNat 16 8) else none
      cc := k.cc + returnCycles c })

/-- A trap return, once the bundle's other slots have taken effect (R121): a bad host frame halts the core, a guest frame that
cannot be read becomes a host TRAP-STACK. -/
def State.trapReturn (s : State) (c : Nat) : State :=
  let s := s.modCore c (fun k => k.quiet (decide (80 ≤ c)))
  let host := (s.core c).host
  let r := s.readFrame c host
  match r.2 with
  | .inr l => r.1.resumeFrom c host l
  | .inl .conflict => r.1.enterConflict c (s.core c).ctraps
  | .inl _ =>
    if host then r.1.haltCore c 0x0C
    else r.1.enterHost c ⟨0x70, 2, 0, 0, (s.core c).port 0xAD, 0, (s.core c).port 0x88, [], true⟩ (s.core c).ctraps

/-- The returning bundle's other slots have taken effect: the return waits for what an entry waits for, or is made (R82, R121). -/
def State.beginReturn (s : State) (c : Nat) : State :=
  if (s.core c).entryWaits c && !s.guardedCore c then s.modCore c (fun k => { k with returning := true }) else s.trapReturn c

/-- A return that waited is made once nothing is outstanding. -/
def State.finishReturn (s : State) (c : Nat) : State :=
  if (s.core c).returning && !(s.core c).entryWaits c then (s.modCore c (fun k => { k with returning := false })).trapReturn c else s

end Sys2Proof.Machine
end

