-- ==== Sys2Proof/Machine/Issue.lean ====
section
/-!
DEFINITION. A bundle (02, R29-R60): fetch, decoding its slots, the checks in the order of R114, its reads, its triggers and its
writes as a whole, and the repeat prefix.
-/

namespace Sys2Proof.Machine
open Sys2Proof Csr

/-! Slots (R30-R35) -/

/-- Where a move's value comes from: a port, or a value given with the move, an immediate of the bundle or not (R77). -/
inductive Source where
  | port (p : Nat)
  | value (v : Word) (imm : Bool)
deriving DecidableEq, Repr

/-- A move: a slot that is not guarded "never" and not data. -/
structure SlotMove where
  slot : Nat
  guard : Nat
  dst : Nat
  mode : Nat
  src : Source
  /-- Its long-immediate selector is malformed (R53 LONGIMM). -/
  badLong : Bool
deriving DecidableEq, Repr

/-- The fields of a slot's word (R30). -/
def slotGuard (w : Nat) : Nat := bits w 28 4
def slotDst (w : Nat) : Nat := bits w 16 12
def slotSrc (w : Nat) : Nat := bits w 3 13
def slotMode (w : Nat) : Nat := bits w 0 3

/-- The slot selects a long-immediate pair (R35). -/
def selectsLong (w : Nat) : Bool := slotGuard w != 8 && slotMode w == 7 && (slotSrc w).testBit 12

/-- A slot of pair p selects another pair q. -/
def pairEdge (ws : List Nat) (p q : Nat) : Bool :=
  p != q && [2 * p, 2 * p + 1].any (fun i => selectsLong (ws.getD i 0) && slotSrc (ws.getD i 0) % 4 == q)

/-- The pairs that are data: those a move selects; of pairs that select each other in a ring, the lowest holds moves. -/
def dataPairs (ws : List Nat) : Nat → List Nat → List Nat → List Nat
  | 0, _, datas => datas
  | fuel + 1, moves, datas =>
    let open_ := (List.range 4).filter (fun q => !moves.contains q && !datas.contains q)
    match open_.find? (fun q => moves.any (fun p => pairEdge ws p q)) with
    | some q => dataPairs ws fuel moves (q :: datas)
    | none =>
      match open_.find? (fun q => (List.range 4).all (fun p => !pairEdge ws p q || datas.contains p)) with
      | some q => dataPairs ws fuel (q :: moves) datas
      | none =>
        match open_ with
        | q :: _ => dataPairs ws fuel (q :: moves) datas
        | [] => datas

/-- The value of a long pair (R35). -/
def longPair (ws : List Nat) (k : Nat) : Word := Word.ofNat (ws.getD (2 * k) 0 + ws.getD (2 * k + 1) 0 * 2 ^ 32)

/-- The move in a slot (R30, R33, R35). -/
def moveOf (ws : List Nat) (i : Nat) : SlotMove :=
  let w := ws.getD i 0
  let src := slotSrc w
  let imm := src.testBit 12
  let long := slotMode w == 7
  { slot := i, guard := slotGuard w, dst := slotDst w, mode := slotMode w
    src := if imm then .value (if long then longPair ws (src % 4) else sextW (Word.ofNat src) 12) true else .port src
    badLong := long && (!imm || bits src 2 10 != 0 || src % 4 == i / 2) }

/-- The moves of a bundle. -/
def movesOf (ws : List Nat) : List SlotMove :=
  let datas := dataPairs ws 4 [] []
  ((List.range 8).filter (fun i => !datas.contains (i / 2) && slotGuard (ws.getD i 0) != 8)).map (moveOf ws)

/-! Checks (R39, R53, R56, R63) -/

/-- The illegal form a slot shows by itself, in the order of R53; ports that are host only are trapped, not checked, in guest
class. -/
def Core.slotForm (k : Core) (hw : Bool) (m : SlotMove) : Option Nat :=
  let ro : Bool := match portInfo hw m.dst with | some i => i.dir == .r | none => false
  let wo : Bool := match m.src with
    | .port p => (match portInfo hw p with | some i => (i.dir == .w || i.dir == .t) && !(i.host && !k.host) | none => false)
    | .value _ _ => false
  if ro then some 1 else if wo then some 2 else if m.badLong then some 3
  else if k.arch.repOn && m.dst == 0x8B then some 4 else none

/-- The destinations that a move counts as writing: pc and lr for br triggers, one for every trigger of a unit that the core has (R39, R63,
R83). -/
def destKeys (hw : Bool) (p : Nat) : List Nat :=
  if p = 0x288 || p = 0x28A then [0x88, 0x89] else if p = 0x289 then [0x88]
  else if isTrigger p && (portInfo hw p).isSome then [0x1000 + unitOf p] else [p]

/-- The lowest slot that writes a destination another slot writes too. -/
def dualSlot (hw : Bool) (ms : List SlotMove) : Option Nat :=
  (ms.filter (fun m => ms.any (fun n => n.slot != m.slot && (destKeys hw m.dst).any (fun d => (destKeys hw n.dst).contains d)))).head?
    |>.map SlotMove.slot

/-- The illegal form of a bundle: of the lowest slot that shows one, the first in the order of R53 (R119). -/
def Core.formOf (k : Core) (hw : Bool) (ms act : List SlotMove) : Option (Nat × Nat) :=
  let one := (ms.filterMap (fun m => (k.slotForm hw m).map (fun f => (m.slot, f)))).head?
  match one, dualSlot hw act with
  | some a, some d => if d < a.1 then some (d, 5) else some a
  | some a, none => some a
  | none, some d => some (d, 5)
  | none, none => none

/-- The cause for which a port traps: 1 RESERVED-PORT, 2 PRIVILEGE, 3 LATERAL-ABSENT, 4 LATERAL-DENIED (R56, R59). -/
def State.portCause (s : State) (c p : Nat) : Option Nat :=
  let k := s.core c
  if isLateral p && decide (c < 80) then
    if !(s.lateralPart && s.dieUp) then some 3
    else if k.host || s.lgrant (k.port 0xB3).toNat then none else some 4
  else match portInfo (decide (80 ≤ c)) p with
    | none => some 1
    | some i => if i.host && !k.host then some 2 else none

/-- The cause for which a move's source traps. -/
def State.srcCause (s : State) (c : Nat) (m : SlotMove) : Option Nat :=
  match m.src with
  | .port p => s.portCause c p
  | .value _ _ => none

/-- The slot is in SLOTMASK of an emulated resume (R58). -/
def Core.emulates (k : Core) (m : SlotMove) : Bool :=
  match k.emu with
  | some x => x.testBit m.slot
  | none => false

/-! Reading (R36, R67, R70) -/

/-- A result that is read early: an operation that writes it is not complete (R67, R84). -/
def Core.early (k : Core) (hw : Bool) (p : Nat) : Bool :=
  (fixedPorts.contains p || (hw && interlockedPorts.contains p)) && (k.writing p || (hw && k.awaiting p))

/-- The port a move reads, when it is not emulated and its source does not trap. -/
def State.portRead (s : State) (c : Nat) (m : SlotMove) : Option Nat :=
  match m.src with
  | .port p => if (s.srcCause c m).isSome then none else some p
  | .value _ _ => none

/-- Why reading a port holds the bundle up (R60, R70, R76, R80). Slots of one bundle that read the same lateral port share one read,
sent to the die once (R60 does not say; DESIGN CHOICE). -/
def State.readStall (s : State) (c p : Nat) : Option Stall :=
  let k := s.core c
  if 0xF00 ≤ p then
    if s.behindFence c then some .fence
    else if s.latBusy c then some .latFence
    else if (s.heldFor c p).isSome then none
    else if s.guardedCore c then some (.boundary ⟨p, 0, 0, []⟩)
    else if (k.latVal.find p).isNone then some (.lateral p) else none
  else if decide (c < 80) && interlockedPorts.contains p && k.awaiting p then some (.port p)
  else none

/-- The value of a lateral port: what the die returned, or the checker holds; false where the read failed (R60). -/
def State.lateralValue (s : State) (c p : Nat) : State × Word × Bool :=
  match s.heldFor c p with
  | some h => (s.takeHeld c, h.lo, !h.fail)
  | none => (s, (s.core c).latVal.get 0 p, true)

/-- A move's value after MODE; false where a lateral read failed. -/
def State.readMove (s : State) (c : Nat) (m : SlotMove) : State × Word × Bool :=
  let r : State × Word × Bool :=
    match m.src with
    | .value v _ => (s, v, true)
    | .port p =>
      if (s.srcCause c m).isSome then (s, (s.core c).port (0xA1 + m.slot), true)
      else if 0xF00 ≤ p then s.lateralValue c p
      else if p = 0x461 then (s, b2w (!s.latBusy c), true)
      else if p = 0x8D || p = 0x8E || p = 0x8F || p = 0xB0 then
        let x := s.asyncRead c p
        (x.1, x.2, true)
      else (s, s.readPort c p, true)
  (r.1, applyMode m.mode r.2.1, r.2.2)

/-- A move with its value. -/
structure Val where
  m : SlotMove
  v : Word
  ok : Bool
deriving DecidableEq, Repr

/-- Every move read, in slot order. -/
def State.readAll (s : State) (c : Nat) : List SlotMove → State × List Val
  | [] => (s, [])
  | m :: t =>
    let r := s.readMove c m
    let q := r.1.readAll c t
    (q.1, ⟨m, r.2.1, r.2.2⟩ :: q.2)

/-! PORT-TRAPs (R57) -/

/-- The slots that trap: the move with the cause of its source, else of its destination, and whether it is the source. -/
def State.trapping (s : State) (c : Nat) (ms : List SlotMove) : List (SlotMove × Nat × Bool) :=
  (ms.filter (fun m => !(s.core c).emulates m)).filterMap (fun m =>
    match s.srcCause c m, s.portCause c m.dst with
    | some x, _ => some (m, x, true)
    | none, some x => some (m, x, false)
    | none, none => none)

/-- What xvn holds for a trapped slot: the value it would have delivered, 0 where its source trapped. A lateral source of a move
that traps is not read, and its value is free (R57, R60). A poisoned source is read as its port reads, with no machine check; R57 does
not say what xvn then holds (DESIGN CHOICE). -/
def State.trapValue (s : State) (c : Nat) (t : SlotMove × Nat × Bool) : State × Word :=
  if t.2.2 then (s, 0)
  else match t.1.src with
    | .port p => if 0xF00 ≤ p then (s.drawn, applyMode t.1.mode s.freeVal) else ((s.readMove c t.1).1, (s.readMove c t.1).2.1)
    | .value v _ => (s, applyMode t.1.mode v)

/-- The values of the slots that trap, in slot order. -/
def State.trapValues (s : State) (c : Nat) : List (SlotMove × Nat × Bool) → State × List (Nat × Word)
  | [] => (s, [])
  | t :: ts =>
    let r := s.trapValue c t
    let q := r.1.trapValues c ts
    (q.1, (0xA1 + t.1.slot, r.2) :: q.2)

/-- xinfo for the slots that trap (R57). -/
def trapInfo (ts : List (SlotMove × Nat × Bool)) : Word :=
  match ts with
  | [] => 0
  | (m, x, src) :: _ =>
    let port := match m.src with | .port p => if src then p else m.dst | .value _ _ => m.dst
    let mask := ts.foldl (fun n t => n + 2 ^ t.1.slot) 0
    Word.ofNat (m.slot + b2n src * 8 + port * 16 + mask * 0x10000 + x * 0x1000000)

/-- A PORT-TRAP of a main core's bundle fills xinfo and xv0-xv7 (R57). A result that is read early to fill xvn sets EARLY as any
read that precedes the exception does (R38, R68; DEDUCED: no rule names these reads). -/
def State.trapFill (s : State) (c : Nat) (ts : List (SlotMove × Nat × Bool)) : State × List (Nat × Word) :=
  if 80 ≤ c then (s, [])
  else
    let early := ts.any (fun t => !t.2.2 && (match t.1.src with | .port p => (s.core c).early false p | .value _ _ => false))
    let s := if early then s.modCore c (fun k => k.accrue 1) else s
    let r := s.trapValues c ts
    (r.1, (0xA0, trapInfo ts) :: r.2)

/-! The outcome of a bundle -/

/-- Where execution goes after a bundle: a taken redirect and whether its target is an immediate, a trap return, a repeat
prefix's count. -/
structure Next where
  target : Option (Word × Bool)
  ret : Bool
  count : Option Nat
deriving DecidableEq, Repr

/-- What a bundle comes to: a stall with the slots and ports it has read, an exception, a poisoned value in a member that has not
yet been run again, or its effect. -/
inductive Res where
  | stall (s : State) (st : Stall) (reads : List (Nat × Nat))
  | raise (s : State) (e : Exc)
  | poison (s : State) (addrs : List Nat) (slot : Nat)
  | go (s : State) (n : Next)
deriving DecidableEq, Repr

/-- pc of a trap return (R121). -/
def trapReturnAddr : Word := 0xFFFFFFFFFFFFFFE0

/-- The target a move redirects to, if it does (R45, R46, R76). -/
def redirect (pc : Word) (x : Val) : Option Word :=
  match x.m.dst with
  | 0x88 | 0x288 => some x.v
  | 0x289 | 0x28A => some (pc + 32 * x.v)
  | _ => none

/-- The exception of a redirect's target (R29, R46, R121). -/
def targetExc (x : Val) (t : Word) : Option Exc :=
  if x.m.dst = 0x88 && t == trapReturnAddr then none
  else if t == trapReturnAddr then some (plainExc 0x20 2 x.m.slot)
  else if t.toNat % 32 != 0 then some (plainExc 0x20 1 x.m.slot)
  else none

/-- The core with the operand and selector ports that a bundle's moves write (R37, R62). -/
def Core.writeOperands (k : Core) (xs : List Val) : Core :=
  xs.foldl (fun k x => if operandPorts.any (fun e => e.1 == x.m.dst) then k.writePort x.m.dst x.v else k) k

/-- The bundle's triggers of memory, maintenance and request units, in the order of R78. -/
def State.runUnits (s : State) (c : Nat) (xs : List Val) (x : KeyRead) : Plan :=
  let held := s.deviceHeld c
  unitOrder.foldl (fun p u =>
    match xs.find? (fun x => isTrigger x.m.dst && unitOf x.m.dst == u) with
    | some v => p.andThen (fun s => s.unitTrig c v.m.slot v.m.dst v.v x held)
    | none => p) (.go s)

/-- A move that fixed-latency units take: its operation starts, without the predicate that a move of the bundle writes (R65,
R73). -/
def Core.startOne (k : Core) (now : Nat) (d : Option Nat) (xs : List Val) (x : Val) : Core :=
  match k.fixed x.m.dst x.v with
  | some f =>
    let w := f.writes.filter (fun e => !(decide (0x80 < e.1) && decide (e.1 < 0x88) && xs.any (fun y => y.m.dst == e.1)))
    k.start ⟨f.path, x.m.dst, k.port 0x88, now, now + f.lat, w, f.flags, f.trap, seenAt d f.lat, none⟩
  | none => k

/-- A move to a register below 0x100 other than pc and rpt, or a br trigger that writes lr (R41-R44, R76, R115, R126, R148). -/
def State.writeMove (s : State) (c : Nat) (x : Val) : State :=
  let p := x.m.dst
  if p = 0x288 || p = 0x28A then s.modCore c (fun k => k.setPort 0x89 (k.port 0x88 + 32))
  else if 0x100 ≤ p || p = 0x88 || p = 0x8B then s
  else if p = 0x8E || p = 0x8F || p = 0xB0 then
    if s.guardedCore c then s.output c [⟨5, p, 8, x.v, false⟩] else s.outputNow c (fun s => s.timerWrite c p x.v)
  else if p = 0xB4 then if s.guardedCore c then s.output c [⟨4, p, 8, zextW x.v 14, false⟩] else s.outputNow c (fun s => s.ipi c x.v)
  else s.modCore c (fun k => k.writePort p x.v)

/-- The bundle's lateral writes as one group, in slot order (R60). -/
def lateralOut : List Val → List StoreEnt
  | [] => []
  | [x] => [⟨2, x.m.dst, 8, x.v, true⟩]
  | x :: t => ⟨2, x.m.dst, 8, x.v, false⟩ :: lateralOut t

/-- What a bundle writes besides its triggers' effects (R36, R38, R43). An `ipi` comes after the other moves: a line that the same
cycle clears and sets stays set (R125). -/
def State.writeAll (s : State) (c : Nat) (xs : List Val) (early : Bool) : State :=
  let s := s.modCore c (fun k => xs.foldl (fun k x => k.startOne (s.clock c) (s.distance c) xs x) k)
  let s := (xs.filter (fun x => x.m.dst != 0xB4)).foldl (fun s x => s.writeMove c x) s
  let s := (xs.filter (fun x => x.m.dst == 0xB4)).foldl (fun s x => s.writeMove c x) s
  let lat := xs.filter (fun x => decide (0xF00 ≤ x.m.dst))
  let s := if lat.isEmpty then s else s.output c (lateralOut lat)
  if early then s.modCore c (fun k => k.accrue 1) else s

/-- A bundle's moves from their reads on (R36-R46, R60, R67, R94, R114 items 7-11): `act` are the moves whose guards hold and
whose destinations are not suppressed. A failed lateral read ranks after the exceptions of the bundle's triggers, for R78 and R114 give
it no place among them (DESIGN CHOICE). A guarded member's trap return waits for its invalidations here, before the bundle's effects
(log entry 64). -/
def State.runReads (s : State) (c : Nat) (act : List SlotMove) (x : KeyRead) : Res :=
  let k := s.core c
  let hw := decide (80 ≤ c)
  let ports := act.filterMap (s.portRead c)
  let reads := act.filterMap (fun m => (s.portRead c m).map (fun p => (m.slot, p)))
  match ports.findSome? (s.readStall c) with
  | some st => .stall s st reads
  | none =>
    let r := s.readAll c act
    let xs := r.2
    let eslot := (act.find? (fun m => ((s.portRead c m).map (k.early hw)).getD false)).map SlotMove.slot
    let lat := xs.any (fun x => decide (0xF00 ≤ x.m.dst))
    let back := if eslot.isSome then r.1.modCore c (fun k => k.accrue 1) else r.1
    let back := back.modMember c (fun m => { m with takes := false })
    let pcv := xs.find? (fun x => x.m.dst == 0x88 && x.v == trapReturnAddr)
    let divz := xs.find? (fun x => k.divTraps x.m.dst x.v)
    let jump := xs.findSome? (fun x => (redirect (k.port 0x88) x).map (fun t => (x, t)))
    if pcv.isSome && k.depth k.host == 0 then .raise back (plainExc 0x32 0 ((pcv.map (fun x => x.m.slot)).getD 0))
    else if eslot.isSome && bit (k.port 0x8C) bitEarlyTe then .raise back (plainExc 0x30 0 (eslot.getD 0))
    else if divz.isSome then .raise back (plainExc 0x31 0 ((divz.map (fun x => x.m.slot)).getD 0))
    else match jump.bind (fun j => targetExc j.1 j.2) with
    | some e => .raise back e
    | none =>
      let fenced := xs.any (fun x => isTrigger x.m.dst && fencedUnits.contains (unitOf x.m.dst))
      if (lat || fenced) && s.behindFence c then .stall s .fence reads
      else match (r.1.modCore c (fun k => k.writeOperands xs)).runUnits c xs x with
      | .stall st => .stall s st reads
      | .raise e d => .raise (back.side c d) e
      | .go t =>
        match xs.find? (fun x => !x.ok) with
        | some y => .raise back ⟨0x21, 5, y.m.slot, (match y.m.src with | .port p => p | .value _ _ => 0), 0, 0, [], false⟩
        | none =>
          match act.find? (fun m => ((s.portRead c m).map (fun p => k.arch.poison.contains p)).getD false) with
          | some m =>
            if s.guardedCore c then
              .poison s ((ports.filter (fun p => k.arch.poison.contains p)).filterMap (fun p => k.poisonAt.find p)) m.slot
            else .raise back (plainExc 0x60 1 m.slot)
          | none =>
            if pcv.isSome && s.guardedCore c && k.entryWaits c then .stall s (.port 0x3C2) reads
            else
              .go (t.writeAll c xs eslot.isSome)
              { target := jump.bind (fun j => if pcv.isSome then none else some (j.2, match j.1.m.src with
                  | .value _ i => i | .port _ => false))
                ret := pcv.isSome
                count := if xs.any (fun x => x.m.dst == 0x8B) then some ((k.port 0x8A).toNat % 2 ^ 32) else none }

/-- A bundle of moves: illegal forms, then PORT-TRAPs, then its reads and effects (R54, R58, R114 items 5 and 6). Whether a lateral
port traps is judged when the bundle issues: where the die's link drops after the read was answered, LATERAL-ABSENT is taken (R56; R60
does not say; DESIGN CHOICE). -/
def State.runMoves (s : State) (c : Nat) (ms : List SlotMove) (x : KeyRead) : Res :=
  let k := s.core c
  let act := ms.filter (fun m => k.guard m.guard)
  match k.formOf (decide (80 ≤ c)) ms act with
  | some (slot, f) => .raise s (plainExc 0x01 f slot)
  | none =>
    match s.trapping c act with
    | t :: ts =>
      let wait := ((t :: ts).filterMap (fun e => if e.2.2 then none else s.portRead c e.1)).find?
        (fun p => decide (p < 0xF00) && (s.readStall c p).isSome)
      match wait with
      | some p => .stall s (.port p) []
      | none =>
        let r := s.trapFill c (t :: ts)
        .raise r.1 { plainExc 0x10 t.2.1 t.1.slot with fill := r.2 }
    | [] => s.runReads c (act.filter (fun m => !(k.emulates m && (s.portCause c m.dst).isSome))) x

/-! Fetch (R22, R29, R181, R199) -/

/-- The bytes of a bundle as this core's fetch sees them: stale L1I copies before memory (R181). -/
def State.fetchBytes (s : State) (c pa : Nat) : List Byte :=
  (List.range 32).map (fun i => ((s.core c).stale.find (pa + i)).getD (memGet s.mem (pa + i)))

/-- Sub-blocks that a fetch brings in anew hold what memory holds. -/
def State.freshen (s : State) (c pa : Nat) : State :=
  let line := lineOf pa
  let old : L1Line := match l1Way (s.core c).l1i 4 line with
    | some w => ((s.core c).l1i.find (setL1 line * 4 + w)).getD (emptyLine line)
    | none => emptyLine line
  let new := (List.range 4).filter (fun j => decide (subOf pa ≤ j) && old.sub j == .i)
  if old.sub (subOf pa) == .i then
    s.modCore c (fun k => { k with stale := new.foldl (fun t j => dropRange t (line * 256 + 64 * j) 64) k.stale })
  else s

/-- This core's L1I holds, or fills, the sub-block of an address. -/
def Core.inL1I (k : Core) (pa : Nat) : Bool := k.l1i.values.any (fun l => l.line == lineOf pa && l.sub (subOf pa) != .i)

/-- The bundle at pc fetched: its words with the state that the fetch leaves, or what stands in its way. -/
def State.fetch (s : State) (c : Nat) : Except Res (State × List Nat) :=
  let pc := (s.core c).port 0x88
  match s.xlat c pc .fetch with
  | .address => .error (.raise s (plainExc 0x20 2 0))
  | .fault d => .error (.raise s { plainExc 0x20 3 0 with daddr := pc, detail := d })
  | .walk => .error (.stall s (.walk pc .fetch 0 0) [])
  | .conflict => .error (.raise (s.conflict c pc .fetch) (plainExc 0x60 2 0))
  | .ok pa =>
    if (s.rangeClass pa == .normal || s.rangeClass pa == .scratch) && s.mayReach (s.masterOf c) pa then
      if s.rangeClass pa == .normal && decide (c < 80) && !(s.core c).inL1I pa && (s.core c).fillWaits (lineOf pa) then
        .error (.stall s (.line (lineOf pa)) [])
      else
      let s := s.tlbHit c pc .fetch
      let s := if s.rangeClass pa == .normal && decide (c < 80) then (s.freshen c pa).touchFetch c pa else s
      if s.poisonedRange pa 32 then
        .error (if s.guardedCore c then .poison s [pa] 0 else .raise s (plainExc 0x60 1 0))
      else
        let l := s.fetchBytes c pa
        .ok (s, (List.range 8).map (fun i => leNat ((l.drop (4 * i)).take 4)))
    else
      .error (.raise (s.addrFault (s.masterOf c) accFetch pa)
        { plainExc 0x20 2 0 with toHost := !(s.core c).host && isCsrAddr pa })

/-- The bundle at pc evaluated. -/
def State.nextBundle (s : State) (c : Nat) : Res :=
  match s.fetch c with
  | .error r => r
  | .ok (s, ws) => s.runMoves c (movesOf ws) .good

/-! Committing (R45-R52, R77) -/

/-- What only the stalled or emulated bundle uses is gone once it has taken effect. -/
def State.bundleDone (s : State) (c : Nat) : State :=
  ((s.modMember c (fun m => { m with taken := m.taken || m.takes, takes := false })).modCore c (fun k =>
    { k with latVal := [], prefGone := false, walked := none, stall := none, reads := [], kept := [], emu := none })).ctxBoundary c

/-- The bubbles of a redirect (R77). -/
def bubbles (c : Nat) (imm : Bool) : Nat := if imm || decide (80 ≤ c) then 1 else 3

/-- pc and the repeat state after a bundle (R45-R52). -/
def Core.advance (k : Core) (n : Next) : Core :=
  let pc := k.port 0x88
  let next := (n.target.map Prod.fst).getD (pc + 32)
  match n.count with
  | some 0 => k.setPort 0x88 (next + 32)
  | some m => { k.setPort 0x88 next with arch := { (k.setPort 0x88 next).arch with rep := m, repOn := true } }
  | none =>
    if k.arch.repOn then
      if n.target.isSome || decide (k.arch.rep ≤ 1) then
        { k.setPort 0x88 next with arch := { (k.setPort 0x88 next).arch with rep := 0, repOn := false } }
      else { k with arch := { k.arch with rep := k.arch.rep - 1 } }
    else k.setPort 0x88 next

/-- Time passes for a core: cycles of its clock, bundles and bubbles issued (R41, R154). -/
def Core.spend (k : Core) (n : Nat) : Core := { k with cc := k.cc + n, dist := k.dist + n }

/-- The cycles at a throttle level in which an in-service core issues no bundle, the first of every 8, pass (R394; log entry 86). -/
def Core.throttle (k : Core) (level : Nat) : Core := { k with cc := max k.cc (k.cc / 8 * 8 + level) }

/-- The cores of islands 0-7 are throttled alone (R392). -/
def State.throttled (s : State) (c : Nat) : State :=
  if c < 80 then s.modCore c (fun k => k.throttle (s.fld LEV_PSTAT LEV_PSTAT.THROTTLE)) else s

/-- A bundle that takes effect retires (R48, R77, R121, R147). -/
def State.retire (s : State) (c : Nat) (n : Next) : State :=
  let s := (s.bundleDone c).modMember c (fun m => { m with retired := m.retired + 1 })
  if n.ret then (s.beginReturn c).modCore c (fun k => { k with dist := k.dist + 1 })
  else (s.modCore c (fun k => (k.advance n).spend (1 + (match n.target with | some t => bubbles c t.2 | none => 0)))).throttled c

/-- A poisoned value in a member: its line leaves the member's L2, and every member rolls back (R161). -/
def State.poisonRollback (s : State) (c : Nat) (addrs : List Nat) : State :=
  match s.groupOf c with
  | none => s
  | some g =>
    let s := s.modCore c (fun k => addrs.foldl (fun k a => (k.dropL1 (lineOf a)).setL2St (lineOf a) .i) k)
    s.miscompare g false (s.leadInputs g)

/-- Every member that is compared waits at one place with a poisoned value. -/
def State.allPoisoned (s : State) (g : Nat) : Bool :=
  (s.voters g).all (fun i =>
    let m := (s.group g).members.get Member.reset i
    m.closed.isEmpty && s.poisonWait g == some m.retired
      && (match (s.core (s.memberCore g i)).stall with | some (.poison _) => true | _ => false))

/-- A member reads poison (R161): the group rolls back. As the interval is run again the leading member waits for the others: where
every member reads poison there, all take the DATA machine check, else the group rolls back again. -/
def State.poisonRead (s : State) (c : Nat) (addrs : List Nat) (slot : Nat) : State :=
  match s.groupOf c with
  | none => s
  | some g =>
    if s.replaying c && (s.indexOf c == 0 || s.poisonWait g == some (s.member c).retired) then
      let s := s.modCore c (fun k => { k with stall := some (.poison addrs) })
      if s.allPoisoned g then
        (s.voters g).foldl (fun s i =>
          (s.modCore (s.memberCore g i) (fun k => { k with stall := none, reads := [] })).raise (s.memberCore g i) (plainExc 0x60 1 slot)) s
      else s
    else s.poisonRollback c addrs

/-- A trailing member has come to where the leading one waits with a poisoned value, and reads none. -/
def State.poisonDiffers (s : State) (c : Nat) : Option (Nat × List Nat) :=
  match s.groupOf c with
  | none => none
  | some g =>
    let lead := s.memberCore g 0
    if s.indexOf c != 0 && (s.member c).closed.isEmpty && s.poisonWait g == some (s.member c).retired then
      match (s.core lead).stall with | some (.poison l) => some (lead, l) | _ => none
    else none

/-! Run-ahead (R186) -/

/-- What run-ahead knows of the ports that the bundles it has passed write: a value, or that it is not available. -/
abbrev Ahead := List (Nat × Option Word)

/-- A port as run-ahead reads it: what the bundles passed leave in it, else its value, if that is there and reading it does nothing
else. -/
def State.aheadPort (s : State) (c : Nat) (env : Ahead) (p : Nat) : Option Word :=
  match env.find? (fun e => e.1 == p) with
  | some e => e.2
  | none =>
    if (s.portCause c p).isSome || isLateral p || (s.core c).awaiting p || (s.core c).early false p
      || (s.core c).arch.poison.contains p || p == 0x8D || p == 0x8E || p == 0x8F || p == 0xB0 then none
    else if env.any (fun e => e.1 == 0x1000) && (fixedPorts.contains p || interlockedPorts.contains p) then none
    else some (s.readPort c p)

/-- A move's value, where it is available. -/
def State.aheadVal (s : State) (c : Nat) (env : Ahead) (m : SlotMove) : Option Word :=
  (match m.src with
   | .value v _ => some v
   | .port p => s.aheadPort c env p).map (applyMode m.mode)

/-- A move's guard, where its predicate is available. -/
def State.aheadGuard (s : State) (c : Nat) (env : Ahead) (m : SlotMove) : Option Bool :=
  if m.guard % 8 = 0 then some (m.guard / 8 = 0)
  else (s.aheadPort c env (0x80 + m.guard % 8)).map (fun v => bit v 0 == (m.guard / 8 == 0))

/-- The ports after a bundle passed; the key 0x1000 says that some unit has been triggered. -/
def State.aheadStep (s : State) (c : Nat) (env : Ahead) (ms : List SlotMove) : Ahead :=
  ms.foldl (fun e m =>
    let v := if s.aheadGuard c env m == some true then s.aheadVal c env m else none
    if s.aheadGuard c env m == some false then e
    else if isTrigger m.dst then (0x1000, none) :: e else (m.dst, v) :: e) env

/-- The fill of a load that run-ahead meets: dropped where it would need a walk or its memory is not NORMAL. -/
def State.aheadLoad (s : State) (c : Nat) (va : Word) : State :=
  match s.xlat c va .pref with
  | .ok pa =>
    if s.rangeClass pa == .normal && s.mayReach (s.masterOf c) pa then s.touchData c pa false else s.countCac c CAC_CCNT.PF_DROP
  | _ => s.countCac c CAC_CCNT.PF_DROP

/-- The loads of a bundle whose addresses are available. -/
def State.aheadLoads (s : State) (c : Nat) (env : Ahead) (ms : List SlotMove) : State :=
  let own := s.aheadStep c env (ms.filter (fun m => !isTrigger m.dst))
  ms.foldl (fun s m =>
    let base := m.dst / 0x40 * 0x40
    if (unitOf m.dst == 0x200 || unitOf m.dst == 0x240) && isTrigger m.dst && decide (m.dst % 0x40 < 0x18)
        && s.aheadGuard c env m == some true then
      match s.aheadVal c env m, s.aheadPort c own base with
      | some b, some a => s.aheadLoad c (a + b)
      | _, _ => s
    else s) s

/-- The words of a bundle that run-ahead may look at: in L1I, translated without a walk, not poisoned. -/
def State.aheadBundle (s : State) (c : Nat) (pc : Word) : Option (List SlotMove) :=
  match s.xlat c pc .fetch with
  | .ok pa =>
    if s.rangeClass pa == .normal && (s.core c).inL1I pa && !s.poisonedRange pa 32 && pa % 32 == 0 then
      some (movesOf ((List.range 8).map (fun i => leNat (((s.fetchBytes c pa).drop (4 * i)).take 4))))
    else none
  | _ => none

/-- Where run-ahead goes on after a bundle: along a branch whose guard and target it has, else to the bundle that follows. -/
def State.aheadNext (s : State) (c : Nat) (env : Ahead) (pc : Word) (ms : List SlotMove) : Word :=
  (ms.findSome? (fun m =>
    if s.aheadGuard c env m == some true then
      (s.aheadVal c env m).bind (fun v => redirect pc ⟨m, v, true⟩)
    else none)).getD (pc + 32)

/-- Up to n bundles scanned. -/
def State.scanAhead (s : State) (c : Nat) : Nat → Ahead → Word → State
  | 0, _, _ => s
  | n + 1, env, pc =>
    match s.aheadBundle c pc with
    | none => s
    | some ms =>
      (s.aheadLoads c env ms).scanAhead c n (s.aheadStep c env ms) (s.aheadNext c env pc ms)

/-- A main core runs ahead of a bundle that stalls on an interlocked port, where CAC_CCFG permits it (R186): the loads of the 16
bundles that follow whose addresses are available are issued as fills. Which branches are predicted taken the spec leaves open: those
whose guard and target are available; a bundle that L1I does not hold ends the scan (DESIGN CHOICE). -/
def State.runAhead (s : State) (c : Nat) : State :=
  if decide (c < 80) && s.fldIn (CAC_CCFG c) 0 CAC_CCFG.RUNAHEAD_EN == 1 then
    let pc := (s.core c).port 0x88
    match s.aheadBundle c pc with
    | none => s
    | some ms => s.scanAhead c 16 (s.aheadStep c [] ms) (s.aheadNext c [] pc ms)
  else s

/-- A bundle that stalls; a lateral read is sent to the die when its stall begins (R60), and one that waits for an interlocked port
lets the core run ahead (R186). -/
def State.stallOn (s : State) (c : Nat) (st : Stall) (reads : List (Nat × Nat)) : State :=
  let new := (s.core c).stall != some st
  let s := s.modCore c (fun k => { k with stall := some st, reads := reads })
  match st with
  | .lateral p => if new then (s.drain c).send (.lateralRead c p) else s
  | .port _ => if new then s.runAhead c else s
  | _ => s

/-- What a bundle comes to, carried out; `f` is what follows its effect. -/
def Res.apply (r : Res) (c : Nat) (f : State → Next → State) : State :=
  match r with
  | .stall s st l => s.stallOn c st l
  | .raise s e => match s.poisonDiffers c with
    | some (d, l) => s.poisonRollback d l
    | none => (s.modCore c (fun k => { k with stall := none })).raise c e
  | .poison s l slot => s.poisonRead c l slot
  | .go s n => match s.poisonDiffers c with
    | some (d, l) => s.poisonRollback d l
    | none => f s n

/-- A repeat with no iteration left is over (R48, R52). -/
def Core.skipEmpty (k : Core) : Core :=
  if k.arch.repOn && k.arch.rep == 0 then
    let k := k.setPort 0x88 (k.port 0x88 + 32)
    { k with arch := { k.arch with repOn := false } }
  else k

/-- The member stands where its next bundle may retire; any other core always does. -/
def State.retires (s : State) (c : Nat) : Bool :=
  match s.groupOf c with
  | some g => !s.guarded g || s.mayRetire g (s.indexOf c)
  | none => true

/-- The core may take up the bundle at pc: nothing is pending at its boundary. -/
def State.boundaryClear (s : State) (c : Nat) : Bool := s.coreRuns c && (s.nextCond c).isNone

/-- The bundle at pc issues, after operations due have completed. -/
def State.issueBundle (s : State) (c : Nat) : State :=
  let t := s.modCore c (fun k => (k.settle (s.clock c)).drainEvb)
  if t.boundaryClear c then
    let t := t.modCore c Core.skipEmpty
    (t.nextBundle c).apply c (fun u n => if t.retires c then u.retire c n else t)
  else t

/-- A fixed-latency trigger by itself, as the one move of the bundle at pc (log entry 10), once nothing is pending at its boundary
(R69): a headworks core without the unit traps RESERVED-PORT (R83), a division by zero under DZ_TE raises its exception, and else
the operation starts. -/
def State.trigFixed (s : State) (c p : Nat) (b : Word) : State :=
  let t := s.modCore c (fun k => k.settle (s.clock c))
  let k := t.core c
  if t.boundaryClear c then
    if (portInfo (decide (80 ≤ c)) p).isNone then t.raise c (plainExc 0x10 1 0)
    else if k.divTraps p b then t.raise c (plainExc 0x31 0 0)
    else t.setCore c (k.startFixed p b (t.clock c) (t.distance c) (k.port 0x88))
  else t

/-- A bundle of given moves in place of the one at pc (log entry 10): a whole bundle. -/
def State.runBundle (s : State) (c : Nat) (ms : List SlotMove) : State :=
  let t := s.modCore c (fun k => k.settle (s.clock c))
  if t.boundaryClear c && (t.core c).stall.isNone then
    (t.runMoves c ms .good).apply c (fun u n => if t.retires c then u.retire c n else t)
  else t

/-- Moves of the bundle at pc (log entry 10): their effect alone, without time and without the bundle's other moves. -/
def State.movesAlone (s : State) (c : Nat) (ms : List SlotMove) (x : KeyRead) : State :=
  let t := s.modCore c (fun k => k.settle (s.clock c))
  if t.boundaryClear c then (t.runMoves c ms x).apply c (fun u _ => u.bundleDone c) else t

/-- One move of the bundle at pc, from slot 0. -/
def State.trigAlone (s : State) (c p : Nat) (v : Word) (x : KeyRead) : State :=
  s.movesAlone c [⟨0, 0, p, 0, .value v true, false⟩] x

/-- The boundary request that a member's next bundle makes, once its operations have completed (R156). -/
def State.nextRequest (s : State) (c : Nat) : Option BoundaryReq :=
  let s := s.modCore c (fun k => (k.quiet false).skipEmpty)
  if (s.nextCond c).isNone then
    match s.nextBundle c with
    | .stall _ (.boundary r) _ => some r
    | _ => none
  else none

/-- A trailing member has still to enter a trap that the leading member entered before it closed (R146). -/
def State.entryDue (s : State) (g i : Nat) : Bool :=
  let m := (s.group g).members.get Member.reset i
  let c := s.memberCore g i
  match (s.group g).ahead i with
  | some iv => decide (m.entries < iv.entries) && ((s.nextCond c).isSome || (match s.nextBundle c with
      | .raise _ _ => true | _ => false))
  | none => false

end Sys2Proof.Machine
end

