-- ==== Sys2Proof/Machine/Bolnus.lean ====
section
/-!
DEFINITION. The commands of a core and of its group's intervals (02, 03, 05, 06, 08): one meaning for each row of the table.
-/

namespace Sys2Proof.Machine
open Sys2Proof Csr

/-! Control flow: each of these rows is a whole bundle of its one move (log entry 10) -/

/-- BUNDLE_ISSUE (R29, R36): the bundle at pc issues, unless one stalls already. -/
def execBundleIssue (c : CoreId) (s : State) : Host.Outcome State Fault Refusal :=
  .next (if (s.core c.val).stall.isSome then s else s.issueBundle c.val)

/-- A bundle of one move from slot 0. -/
def State.oneMove (s : State) (c p : Nat) (v : Word) (imm : Bool) : State :=
  s.runBundle c [⟨0, 0, p, 0, .value v imm, false⟩]

/-- BRANCH (R45). -/
def execBranch (c : CoreId) (v : Word) (imm : Bool) (s : State) : Host.Outcome State Fault Refusal :=
  .next (s.oneMove c.val 0x88 v imm)

/-- TRAP_RETURN (R121). -/
def execTrapReturn (c : CoreId) (s : State) : Host.Outcome State Fault Refusal :=
  .next (s.oneMove c.val 0x88 trapReturnAddr true)

/-- REPEAT_PREFIX (R47). -/
def execRepeatPrefix (c : CoreId) (v : Word) (s : State) : Host.Outcome State Fault Refusal := .next (s.oneMove c.val 0x8B v true)

/-- BR_CALL (R46, R76). -/
def execBrCall (c : CoreId) (b : Word) (imm : Bool) (s : State) : Host.Outcome State Fault Refusal :=
  .next (s.oneMove c.val 0x288 b imm)

/-- BR_REL (R46, R76). -/
def execBrRel (c : CoreId) (b : Word) (imm : Bool) (s : State) : Host.Outcome State Fault Refusal :=
  .next (s.oneMove c.val 0x289 b imm)

/-- BR_CALLREL (R76). -/
def execBrCallrel (c : CoreId) (b : Word) (imm : Bool) (s : State) : Host.Outcome State Fault Refusal :=
  .next (s.oneMove c.val 0x28A b imm)

/-! Triggers of the fixed-latency units (R72-R74, R91-R111, R482) -/

/-- The first port of an alu and of an fpu. -/
def aluBase (u : Fin 4) : Nat := 0x100 + 0x20 * u.val
def fpuBase (u : Fin 2) : Nat := 0x300 + 0x40 * u.val

/-- The trigger port of an fpu operation in a format (R74). -/
def fpPort (u : Fin 2) (f : Fmt) (op : Nat) : Nat := fpuBase u + (match f with | .d => 0x10 | .s => 0x20) + op

/-- ALU_ADD_SUB. -/
def execAluAddSub (c : CoreId) (u : Fin 4) (sub : Bool) (b : Word) (s : State) : Host.Outcome State Fault Refusal :=
  .next (s.trigFixed c.val (aluBase u + 8 + b2n sub) b)

/-- ALU_ADD_SUB_O. -/
def execAluAddSubO (c : CoreId) (u : Fin 4) (sub : Bool) (b : Word) (s : State) : Host.Outcome State Fault Refusal :=
  .next (s.trigFixed c.val (aluBase u + 0xA + b2n sub) b)

/-- ALU_BITWISE. -/
def execAluBitwise (c : CoreId) (u : Fin 4) (op : AluBit) (b : Word) (s : State) : Host.Outcome State Fault Refusal :=
  .next (s.trigFixed c.val (aluBase u + aluBitOff op) b)

/-- ALU_MIN_MAX. -/
def execAluMinMax (c : CoreId) (u : Fin 4) (op : AluMin) (b : Word) (s : State) : Host.Outcome State Fault Refusal :=
  .next (s.trigFixed c.val (aluBase u + aluMinOff op) b)

/-- ALU_MOV. -/
def execAluMov (c : CoreId) (u : Fin 4) (b : Word) (s : State) : Host.Outcome State Fault Refusal :=
  .next (s.trigFixed c.val (aluBase u + 0x14) b)

/-- SH_SHIFT. -/
def execShShift (c : CoreId) (op : ShOp) (b : Word) (s : State) : Host.Outcome State Fault Refusal :=
  .next (s.trigFixed c.val (shOpOff op) b)

/-- SH_EXTRACT. -/
def execShExtract (c : CoreId) (signed : Bool) (b : Word) (s : State) : Host.Outcome State Fault Refusal :=
  .next (s.trigFixed c.val (0x18D + b2n signed) b)

/-- SH_INSERT. -/
def execShInsert (c : CoreId) (b : Word) (s : State) : Host.Outcome State Fault Refusal := .next (s.trigFixed c.val 0x18F b)

/-- SH_COUNT. -/
def execShCount (c : CoreId) (op : ShCount) (b : Word) (s : State) : Host.Outcome State Fault Refusal :=
  .next (s.trigFixed c.val (shCountOff op) b)

/-- CMP_COMPARE. -/
def execCmpCompare (c : CoreId) (op : CmpOp) (b : Word) (s : State) : Host.Outcome State Fault Refusal :=
  .next (s.trigFixed c.val (cmpOpOff op) b)

/-- MUL. -/
def execMul (c : CoreId) (op : MulOp) (b : Word) (s : State) : Host.Outcome State Fault Refusal :=
  .next (s.trigFixed c.val (mulOpOff op) b)

/-- MUL_O. -/
def execMulO (c : CoreId) (b : Word) (s : State) : Host.Outcome State Fault Refusal := .next (s.trigFixed c.val 0x2AB b)

/-- DIV_S. -/
def execDivS (c : CoreId) (b : Word) (s : State) : Host.Outcome State Fault Refusal := .next (s.trigFixed c.val 0x2C8 b)

/-- DIV_U. -/
def execDivU (c : CoreId) (b : Word) (s : State) : Host.Outcome State Fault Refusal := .next (s.trigFixed c.val 0x2C9 b)

/-- FP_ADD_SUB. -/
def execFpAddSub (c : CoreId) (u : Fin 2) (f : Fmt) (sub : Bool) (b : Word) (s : State) : Host.Outcome State Fault Refusal :=
  .next (s.trigFixed c.val (fpPort u f (b2n sub)) b)

/-- FP_MUL. -/
def execFpMul (c : CoreId) (u : Fin 2) (f : Fmt) (b : Word) (s : State) : Host.Outcome State Fault Refusal :=
  .next (s.trigFixed c.val (fpPort u f 2) b)

/-- FP_FMA. -/
def execFpFma (c : CoreId) (u : Fin 2) (f : Fmt) (neg : Bool) (b : Word) (s : State) : Host.Outcome State Fault Refusal :=
  .next (s.trigFixed c.val (fpPort u f (3 + b2n neg)) b)

/-- FP_DIV. -/
def execFpDiv (c : CoreId) (u : Fin 2) (f : Fmt) (b : Word) (s : State) : Host.Outcome State Fault Refusal :=
  .next (s.trigFixed c.val (fpPort u f 5) b)

/-- FP_SQRT. -/
def execFpSqrt (c : CoreId) (u : Fin 2) (f : Fmt) (b : Word) (s : State) : Host.Outcome State Fault Refusal :=
  .next (s.trigFixed c.val (fpPort u f 6) b)

/-- FP_MIN_MAX. -/
def execFpMinMax (c : CoreId) (u : Fin 2) (f : Fmt) (mx : Bool) (b : Word) (s : State) : Host.Outcome State Fault Refusal :=
  .next (s.trigFixed c.val (fpPort u f (7 + b2n mx)) b)

/-- FP_COMPARE. -/
def execFpCompare (c : CoreId) (u : Fin 2) (f : Fmt) (op : FpCmp) (b : Word) (s : State) : Host.Outcome State Fault Refusal :=
  .next (s.trigFixed c.val (fpPort u f (fpCmpOff op)) b)

/-- FP_CVTI. -/
def execFpCvti (c : CoreId) (u : Fin 2) (f : Fmt) (b : Word) (s : State) : Host.Outcome State Fault Refusal :=
  .next (s.trigFixed c.val (fpPort u f 0xC) b)

/-- FP_CVTF. -/
def execFpCvtf (c : CoreId) (u : Fin 2) (f : Fmt) (b : Word) (s : State) : Host.Outcome State Fault Refusal :=
  .next (s.trigFixed c.val (fpPort u f 0xD) b)

/-- FP_CVTX. -/
def execFpCvtx (c : CoreId) (u : Fin 2) (f : Fmt) (b : Word) (s : State) : Host.Outcome State Fault Refusal :=
  .next (s.trigFixed c.val (fpPort u f 0xE) b)

/-- DEC_ADD_SUB. -/
def execDecAddSub (c : CoreId) (sub : Bool) (b : Word) (s : State) : Host.Outcome State Fault Refusal :=
  .next (s.trigFixed c.val (0x388 + b2n sub) b)

/-- DEC_CHK. -/
def execDecChk (c : CoreId) (b : Word) (s : State) : Host.Outcome State Fault Refusal := .next (s.trigFixed c.val 0x38A b)

/-! Completion (R64-R70, R80, R188, R219) -/

/-- The first operation in flight completes when its cycle comes (R64, R65); a member's reads see its result from its issue distance
on (R154). -/
def State.opComplete (s : State) (c : Nat) : State :=
  match (s.core c).inflight with
  | [] => s
  | o :: rest => s.modCore c (fun k =>
      { ({ k with inflight := rest }.complete o).reveal k.dist with cc := max k.cc o.due })

/-- OPERATION_COMPLETE (R65). -/
def execOperationComplete (c : CoreId) (s : State) : Host.Outcome State Fault Refusal := .next (s.opComplete c.val)

/-- COMPLETION_TRAP (R69). -/
def execCompletionTrap (c : CoreId) (s : State) : Host.Outcome State Fault Refusal :=
  .next (s.takeTrap c.val (fun d => match d with | .comp _ => true | _ => false))

/-- The oldest outstanding value of a port that may arrive now: a fence's and an invalidation's own commands deliver theirs. -/
def Core.arrival (k : Core) (p : Nat) : Option Await :=
  k.awaits.find? (fun a => a.port == p && !(!k.fences.isEmpty && fenceAwaits.contains a)
    && !(!k.invq.isEmpty && a == ⟨0x3C2, 0, false, 0⟩))

/-- LOAD_DATA_ARRIVAL (R70). -/
def execLoadDataArrival (c : CoreId) (p : BitVec 12) (s : State) : Host.Outcome State Fault Refusal :=
  .next (match (s.core c.val).arrival p.toNat with
    | some a => s.modCore c.val (fun k => k.deliver (decide (80 ≤ c.val)) a)
    | none => s)

/-- ISSUE_STALL_END (R483): the stalled bundle tries again after `n` cycles; where what holds it up still stands, nothing happens
yet. -/
def execIssueStallEnd (c : CoreId) (n : BitVec 16) (s : State) : Host.Outcome State Fault Refusal :=
  .next (
    let t := ((s.modCore c.val (fun k => { k with cc := k.cc + n.toNat })).throttled c.val).issueBundle c.val
    if (s.core c.val).stall.isNone || (t.core c.val).stall == (s.core c.val).stall then s else t)

/-- FENCE_COMPLETE (R80): the oldest fence whose accesses have been performed completes. -/
def execFenceComplete (c : CoreId) (s : State) : Host.Outcome State Fault Refusal :=
  .next (match (s.core c.val).fences.find? (s.fenceDone c.val) with
    | none => s
    | some f => (s.modCore c.val (fun k =>
        ({ k with fences := k.fences.erase f }.fenceResults (decide (80 ≤ c.val))).insnFence f.mask)).finishReturn c.val)

/-- What waits for a member's interval may go on: every interval up to the barrier is confirmed (R189). -/
def State.pastBarrier (s : State) (c n : Nat) : Bool :=
  match s.groupOf c with
  | some g => decide (n ≤ (s.group g).confirmed)
  | none => true

/-- The cores that execute as one with a core: the members of its group. -/
def State.peers (s : State) (c : Nat) : List Nat :=
  match s.groupOf c with
  | some g => (s.memberIdx g).map (s.memberCore g)
  | none => [c]

/-- The core's oldest invalidation completes: one that waited for its interval is performed first, once for the group. -/
def State.invComplete (s : State) (c : Nat) : State :=
  match (s.core c).invq with
  | [] => s
  | e :: _ =>
    if !s.pastBarrier c e.barrier then s
    else
      let s := if e.barrier = 0 then s else s.invalidate (s.outCore c) e
      (if e.barrier = 0 then [c] else s.peers c).foldl (fun s m => (s.modCore m (fun k =>
        if k.invq.head? == some e then
          let k := { k with invq := k.invq.drop 1 }
          if k.awaits.contains ⟨0x3C2, 0, false, 0⟩ then k.deliver false ⟨0x3C2, 0, false, 0⟩ else k
        else k)).finishReturn m) s

/-- INVALIDATION_COMPLETE (R219, R220). -/
def execInvalidationComplete (c : CoreId) (s : State) : Host.Outcome State Fault Refusal := .next (s.invComplete c.val)

/-- A result that the stalled bundle has read early sets EARLY with the exception that it raises (R38, R68). -/
def State.accrueReads (s : State) (c : Nat) : State :=
  s.modCore c (fun k =>
    let k := { k.settle k.cc with stall := none, reads := [] }
    if (s.core c).reads.any (fun e => k.early (decide (80 ≤ c)) e.2) then k.accrue 1 else k)

/-- A walk has to wait: a line of an entry that it reads finds no way in L2, or has maintenance outstanding (R149, R188). -/
def State.walkWaits (s : State) (c : Nat) (host : Bool) (va : Word) : Bool :=
  let wait (a : Nat) : Bool := decide (c < 80) && s.rangeClass a == .normal && (s.core c).fillWaits (lineOf a)
  match selectReach (s.reach c host) va.toNat with
  | none => false
  | some n =>
    let r := s.reach c host n
    if XLT_GREACH.TYPE.get r = 1 then false
    else wait (walkEntry1 r va.toNat) || (match s.fetchEntry (walkEntry1 r va.toNat) with
      | .inl e1 => e1.testBit 0 && !l1Reserved e1 && wait (walkEntry2 e1 va.toNat)
      | .inr _ => false)

/-- The walk that a bundle stalls on ends: the bundle issues at ISSUE_STALL_END, or the access faults (R213-R218). The array's check
of one entry that it reads is `e`, of the level-2 entry where `second` (R192, R217). A walk that has to wait does not end yet (R149,
R188). -/
def State.walkDone (s : State) (c fails : Nat) (e : Ecc) (second : Bool) : State :=
  match (s.core c).stall with
  | some (.walk va kind slot port) =>
    let host := s.hostBank c
    if s.walkWaits c host va then s else
    let s := s.walkCheck c host va e second
    match kind with
    | .probeR | .probeW =>
      let r := s.probeWalk c va kind
      r.1.modCore c (fun k => { k with walked := some (va, kind, r.2) })
    | .iinv =>
      let r := s.iinvWalk c va
      r.1.modCore c (fun k => match r.2 with
        | some pa => { k with walked := some (va, .iinv, Word.ofNat pa) }
        | none => { k with prefGone := true })
    | .pref =>
      let t := (s.walk c host va .pref fails).1
      match t.xlat c va .pref with
      | .ok _ => t
      | _ => t.modCore c (fun k => { k with prefGone := true })
    | _ =>
      let r := s.walk c host va kind fails
      match r.2 with
      | none => r.1
      | some f =>
        let e : Exc := if kind == .fetch then { plainExc 0x20 3 0 with daddr := va } else dataExc 3 slot port va
        (r.1.accrueReads c).raise c { e with detail := detailWord f kind host }
  | _ => s

/-- TABLE_WALK (R213): `fails` compare-and-swaps of its marks fail first. -/
def execTableWalk (c : CoreId) (fails : BitVec 7) (e : Ecc) (second : Bool) (s : State) : Host.Outcome State Fault Refusal :=
  .next (s.walkDone c.val fails.toNat e second)

/-- A core's oldest maintenance operation of a line completes, once every fill of the line that it met has retired; a cm.t.pref that
waited for one before it fetches its line. -/
def State.cmComplete (s : State) (c line : Nat) : State :=
  match (s.core c).cmq.find? (fun e => e.line == line) with
  | none => s
  | some e =>
    if e.op == .pref then (s.modCore c (fun k => k.dropCm e)).prefLine c line
    else if (s.core c).fills.any (fun f => f.line == line) || !s.pastBarrier c e.barrier then s
    else
      let s := if e.barrier = 0 then s else s.maintain c e.op line
      (s.modCore c (fun k => k.dropCm e)).goOn c line

/-- MAINTENANCE_COMPLETE (R188). -/
def execMaintenanceComplete (c : CoreId) (pa : BitVec 39) (s : State) : Host.Outcome State Fault Refusal :=
  .next (s.cmComplete c.val (lineOf pa.toNat))

/-- Values on their way to a core's ports from sub-blocks that have been poisoned meanwhile (R192). -/
def State.poisonAwaits (s : State) (c line : Nat) : State :=
  s.modCore c (fun k => { k with awaits := k.awaits.map (fun a =>
    if a.addr != 0 && lineOf a.addr == line && s.poisoned a.addr then { a with poison := true } else a) })

/-- The data of a fill that a core awaits returns; `e` is the check of the array that serves it, with the sub-blocks that a double
error touches (R192): a clean line met so is requested again, and the fill stays outstanding. -/
def State.fillReturn (s : State) (c : Nat) (f : Fill) (e : Ecc) (subs : BitVec 4) : State :=
  let t := s.arrayCheck c f.line e subs (if f.icache then accFetch else accRead)
  if e == .uncorrectable && s.cleanInArrays c f.line then t
  else (t.poisonAwaits c f.line).retireFill c f

/-- FILL_RETURN (R173, R174, R188, R192). -/
def execFillReturn (c : Fin 80) (pa : BitVec 39) (icache l2only : Bool) (e : Ecc) (subs : BitVec 4) (s : State) :
    Host.Outcome State Fault Refusal :=
  .next (match (s.core c.val).findFill (lineOf pa.toNat) (if l2only then 0 else subOf pa.toNat) icache l2only with
    | some f => s.fillReturn c.val f e subs
    | none => s)

/-! Memory, maintenance and request triggers (R75-R81, R187, R218, R219, R275, R344, R368) -/

/-- The first port of an lsu. -/
def lsuBase (u : Fin 2) : Nat := 0x200 + 0x40 * u.val

/-- Offsets of the lsu triggers (R75). -/
def ldOff : LdOp → Nat
  | .ld8u => 0x10 | .ld8s => 0x11 | .ld16u => 0x12 | .ld16s => 0x13 | .ld32u => 0x14 | .ld32s => 0x15 | .ld64 => 0x16
def stOff : StOp → Nat
  | .st8 => 0x18 | .st16 => 0x19 | .st32 => 0x1A | .st64 => 0x1B

/-- LSU_LOAD. -/
def execLsuLoad (c : CoreId) (u : Fin 2) (op : LdOp) (b : Word) (s : State) : Host.Outcome State Fault Refusal :=
  .next (s.trigAlone c.val (lsuBase u + ldOff op) b .good)

/-- LSU_STORE. -/
def execLsuStore (c : CoreId) (u : Fin 2) (op : StOp) (b : Word) (s : State) : Host.Outcome State Fault Refusal :=
  .next (s.trigAlone c.val (lsuBase u + stOff op) b .good)

/-- STORE_PERFORMED (R78): a store that finds no way in L2, or whose fill would meet maintenance of its line, waits (R149, R188). -/
def execStorePerformed (c : CoreId) (s : State) : Host.Outcome State Fault Refusal :=
  .next (if s.headWaits c.val then s else s.performHead c.val)

/-- ATOM_CAS64. -/
def execAtomCas64 (c : CoreId) (b : Word) (s : State) : Host.Outcome State Fault Refusal := .next (s.trigAlone c.val 0x3A8 b .good)

/-- ATOM_SWP64. -/
def execAtomSwp64 (c : CoreId) (b : Word) (s : State) : Host.Outcome State Fault Refusal := .next (s.trigAlone c.val 0x3A9 b .good)

/-- ATOM_ADD64. -/
def execAtomAdd64 (c : CoreId) (b : Word) (s : State) : Host.Outcome State Fault Refusal := .next (s.trigAlone c.val 0x3AA b .good)

/-- ATOM_AND64. -/
def execAtomAnd64 (c : CoreId) (b : Word) (s : State) : Host.Outcome State Fault Refusal := .next (s.trigAlone c.val 0x3AB b .good)

/-- ATOM_OR64. -/
def execAtomOr64 (c : CoreId) (b : Word) (s : State) : Host.Outcome State Fault Refusal := .next (s.trigAlone c.val 0x3AC b .good)

/-- ATOM_CAS128. -/
def execAtomCas128 (c : CoreId) (b : Word) (s : State) : Host.Outcome State Fault Refusal := .next (s.trigAlone c.val 0x3AD b .good)

/-- ATOM_FENCE. -/
def execAtomFence (c : CoreId) (b : Word) (s : State) : Host.Outcome State Fault Refusal := .next (s.trigAlone c.val 0x3B0 b .good)

/-- XLT_PROBE_R. -/
def execXltProbeR (c : CoreId) (b : Word) (s : State) : Host.Outcome State Fault Refusal := .next (s.trigAlone c.val 0x3C8 b .good)

/-- XLT_PROBE_W. -/
def execXltProbeW (c : CoreId) (b : Word) (s : State) : Host.Outcome State Fault Refusal := .next (s.trigAlone c.val 0x3C9 b .good)

/-- XLT_INV_VA. -/
def execXltInvVa (c : CoreId) (b : Word) (s : State) : Host.Outcome State Fault Refusal := .next (s.trigAlone c.val 0x3CA b .good)

/-- XLT_INV_CTX. -/
def execXltInvCtx (c : CoreId) (b : Word) (s : State) : Host.Outcome State Fault Refusal := .next (s.trigAlone c.val 0x3CB b .good)

/-- XLT_INV_ALL. -/
def execXltInvAll (c : CoreId) (b : Word) (s : State) : Host.Outcome State Fault Refusal := .next (s.trigAlone c.val 0x3CC b .good)

/-- CM_CLEAN. -/
def execCmClean (c : CoreId) (b : Word) (s : State) : Host.Outcome State Fault Refusal := .next (s.trigAlone c.val 0x3E8 b .good)

/-- CM_FLUSH. -/
def execCmFlush (c : CoreId) (b : Word) (s : State) : Host.Outcome State Fault Refusal := .next (s.trigAlone c.val 0x3E9 b .good)

/-- CM_INV. -/
def execCmInv (c : CoreId) (b : Word) (s : State) : Host.Outcome State Fault Refusal := .next (s.trigAlone c.val 0x3EA b .good)

/-- CM_ZERO. -/
def execCmZero (c : CoreId) (b : Word) (s : State) : Host.Outcome State Fault Refusal := .next (s.trigAlone c.val 0x3EB b .good)

/-- CM_PREF. -/
def execCmPref (c : CoreId) (b : Word) (s : State) : Host.Outcome State Fault Refusal := .next (s.trigAlone c.val 0x3EC b .good)

/-- CM_IINV. -/
def execCmIinv (c : CoreId) (b : Word) (s : State) : Host.Outcome State Fault Refusal := .next (s.trigAlone c.val 0x3ED b .good)

/-- CIP_ENC: `x` is the failure that the cross-check of the block cores meets, if any (R358). -/
def execCipEnc (c : CoreId) (b : Word) (x : KeyRead) (s : State) : Host.Outcome State Fault Refusal :=
  .next (s.trigAlone c.val 0x408 b x)

/-- CIP_DEC. -/
def execCipDec (c : CoreId) (b : Word) (x : KeyRead) (s : State) : Host.Outcome State Fault Refusal :=
  .next (s.trigAlone c.val 0x409 b x)

/-- CIP_GMUL. -/
def execCipGmul (c : CoreId) (b : Word) (s : State) : Host.Outcome State Fault Refusal := .next (s.trigAlone c.val 0x40A b .good)

/-- CMX_SUBMIT. -/
def execCmxSubmit (c : CoreId) (b : Word) (s : State) : Host.Outcome State Fault Refusal := .next (s.trigAlone c.val 0x428 b .good)

/-- CMX_RESUME. -/
def execCmxResume (c : CoreId) (b : Word) (s : State) : Host.Outcome State Fault Refusal := .next (s.trigAlone c.val 0x429 b .good)

/-- CMX_STATUS. -/
def execCmxStatus (c : CoreId) (b : Word) (s : State) : Host.Outcome State Fault Refusal := .next (s.trigAlone c.val 0x42A b .good)

/-- BELL_RING. -/
def execBellRing (c : CoreId) (b : Word) (s : State) : Host.Outcome State Fault Refusal := .next (s.trigAlone c.val 0x448 b .good)

/-- LAT_FENCE. -/
def execLatFence (c : CoreId) (s : State) : Host.Outcome State Fault Refusal := .next (s.trigAlone c.val 0x468 0 .good)

/-- REACH_WRITE (R205): the write of a translation register of a core, performed. -/
def execReachWrite (c : Fin 80) (r : ReachReg) (v : Word) (s : State) : Host.Outcome State Fault Refusal :=
  .next (match r with
    | .greach n => s.writeReach c.val (XLT_GREACH c.val n.val) v
    | .hreach n => s.writeReach c.val (XLT_HREACH c.val n.val) v
    | .ctx => s.writeAtCheckpoint c.val (XLT_CTX c.val) (v &&& 1))

/-! Lateral moves (R60) -/

/-- LATERAL_WRITE: the lateral writes of one bundle, in slot order, with the number of each port in the lateral block. -/
def execLateralWrite (c : CoreId) (l : List (BitVec 8 × Word)) (s : State) : Host.Outcome State Fault Refusal :=
  .next (
    let ms : List SlotMove := ((l.take 8).zipIdx).map (fun e => ⟨e.2, 0, 0xF00 + e.1.1.toNat, 0, .value e.1.2 true, false⟩)
    s.movesAlone c.val ms .good)

/-- LATERAL_READ: the die returns the value that the stalled bundle reads. -/
def execLateralRead (c : CoreId) (v : Word) (s : State) : Host.Outcome State Fault Refusal :=
  .next (match (s.core c.val).stall with
    | some (.lateral p) => s.modCore c.val (fun k => { k with latVal := k.latVal.put p v })
    | _ => s)

/-- The lowest slot of the stalled bundle that reads a port. -/
def Core.slotReading (k : Core) (p : Nat) : Nat := ((k.reads.find? (fun e => e.2 == p)).map Prod.fst).getD 0

/-- An outstanding lateral read fails: the fault is recorded and the bundle raises its exception; one whose value has arrived does
not (R60). -/
def State.lateralFails (s : State) (c : Nat) : State :=
  match (s.core c).stall with
  | some (.lateral p) =>
    if ((s.core c).latVal.find p).isSome then s
    else ((s.accrueReads c).fault0 0x98 (mstCore c) accRead).raise c ⟨0x21, 5, (s.core c).slotReading p, p, 0, 0, [], false⟩
  | _ => s

/-- LATERAL_READ_TIMEOUT. -/
def execLateralReadTimeout (c : CoreId) (s : State) : Host.Outcome State Fault Refusal := .next (s.lateralFails c.val)

/-- DIE_TO_DIE_LINK_DOWN (R56, R60): lateral reads outstanding fail. -/
def execDieToDieLinkDown (s : State) : Host.Outcome State Fault Refusal :=
  .next ((List.range 80).foldl State.lateralFails { s with dieUp := false })

/-- DIE_TO_DIE_LINK_UP (R56): on a part with a die. -/
def execDieToDieLinkUp (s : State) : Host.Outcome State Fault Refusal :=
  .next (if s.lateralPart then { s with dieUp := true } else s)

/-! Interrupts and traps (R112-R126, R449) -/

/-- IPI (R126). -/
def execIpi (c : CoreId) (v : Word) (s : State) : Host.Outcome State Fault Refusal := .next (s.trigAlone c.val 0xB4 v .good)

/-- INTERRUPT_LINE_SET (R124, R125): through a culvert of the core's island. -/
def execInterruptLineSet (c : CoreId) (line : Fin 64) (s : State) : Host.Outcome State Fault Refusal :=
  .next (if s.islandRuns (coreIsland c.val) then s.setLine c.val line.val else s)

/-- TIMER_EXPIRY (R126, R155): a timer of a core that counts, or of a member's group, reaches 0. -/
def execTimerExpiry (c : CoreId) (n : Fin 2) (s : State) : Host.Outcome State Fault Refusal :=
  .next (
    let p := 0x8E + n.val
    if s.readPort c.val p == 0 then s else (s.timerWrite c.val p 0).setLine c.val n.val)

/-- TRAP_ENTRY (R117): the first condition of R114 that stands is taken. -/
def execTrapEntry (c : CoreId) (s : State) : Host.Outcome State Fault Refusal := .next (s.takeTrap c.val (fun _ => true))

/-- ASYNC_MACHINE_CHECK (R449). -/
def execAsyncMachineCheck (c : CoreId) (s : State) : Host.Outcome State Fault Refusal :=
  .next (s.takeTrap c.val (fun d => d == .async))

/-! Intervals of a group (R146-R150, R156) -/

/-- INTERVAL_CLOSE (R147): a member closes its interval at the bundle boundary where it stands, once every trap that the leading
member entered in the interval is entered. -/
def execIntervalClose (g : Fin 36) (i : Fin 3) (s : State) : Host.Outcome State Fault Refusal :=
  .next (
    let gr := s.group g.val
    let lead := s.memberCore g.val 0
    if s.guarded g.val && (s.memberIdx g.val).contains i.val && gr.refresh != some i.val && gr.mayClose i.val
        && !s.entryDue g.val i.val
        && !(i.val == 0 && gr.cmd.isSome && gr.heldWaits 0 && (s.nextCond lead).isNone) then
      s.closeInterval g.val i.val (s.nextRequest (s.memberCore g.val i.val))
    else s)

/-- CONFIRMATION (R148, R150 step 6). -/
def execConfirmation (g : Fin 36) (s : State) : Host.Outcome State Fault Refusal :=
  .next (if (s.group g.val).agreed then s.confirm g.val else s)

/-- The operation has to wait: a fence for the leading member's maintenance (R189), an atomic for its line (R149, R188). -/
def State.opWaits (s : State) (c : Nat) (r : BoundaryReq) : Bool :=
  (r.port == 0x3B0 && r.b.toNat % 16 != 0 && !(s.core c).cmq.isEmpty)
    || (decide (0x3A8 ≤ r.port) && decide (r.port ≤ 0x3AD) && !(s.core c).inL1D r.addr && (s.core c).fillWaits (lineOf r.addr))

/-- The checker performs the operation that the confirmed interval ended with, and holds its result; writes to translation
registers that wait take effect with it (R156, R205). -/
def State.boundaryOp (s : State) (g : Nat) (die : Option Word) : State :=
  let gr := s.group g
  let m := gr.members.get Member.reset 0
  match gr.request with
  | some r =>
    if s.guarded g && m.closed.isEmpty && m.retired == 0 && !s.opWaits (s.memberCore g 0) r then
      let x := s.boundaryRun (s.memberCore g 0) r die
      let h : HeldRes := { x.2 with epoch := gr.confirmed }
      let s := x.1.setGroup g { x.1.group g with request := none, held := (x.1.group g).held.put r.port h }
      s.applyWaiting g (fun e => !isCpatch e.2.1)
    else s
  | none => s

/-- BOUNDARY_OPERATION (R156): `die` is what a lateral read returns, none where it times out. -/
def execBoundaryOperation (g : Fin 36) (die : Option Word) (s : State) : Host.Outcome State Fault Refusal :=
  .next (s.boundaryOp g.val die)

end Sys2Proof.Machine
end

