-- ==== Sys2Proof/Machine/Headrace.lean ====
section
/-!
DEFINITION. The headrace chain (18, R419-R441): enumeration, rack time, management commands, notices, spare transceivers
and rotation marks.
-/

namespace Sys2Proof.Machine
open Sys2Proof Csr

/-! Frames (R425-R427) -/

/-- TYPE is one of R426 in a direction, and LEN is allowed for it. -/
def hrGood (up : Bool) (typ len : Nat) : Bool :=
  if up then (typ == 0x81 && decide (8 ≤ len) && decide (len ≤ 40)) || (typ == 0x82 && len == 16) || (typ == 0x84 && len == 8)
  else (typ == 0x01 && len == 0) || (typ == 0x02 && len == 16) || (typ == 0x03 && decide (8 ≤ len) && decide (len ≤ 1032))
    || (typ == 0x04 && len == 8)

/-- FLAGS of a frame passed on: LAST as it came; HOLDOVER as it came, and set by a module in holdover (R420). -/
def State.passFlags (s : State) (f : HrFrame) : Nat :=
  b2n f.last + 2 * b2n (f.holdover || s.flag HRC_STAT HRC_STAT.HOLDOVER)

/-- A down frame passed on to the next position (R420, R426). -/
def State.passDown (s : State) (f : HrFrame) (hop : Nat) (payload : List Byte) : State :=
  s.send (.chain false f.typ.toNat f.addr.toNat hop (s.passFlags f) f.tag.toNat payload)

/-- A frame that arrives, with its bad CRC or its discard counted (R426); a good frame of a TYPE goes on. -/
def State.rxHr (s : State) (up : Bool) (f : HrFrame) (typ : Nat) (k : State → State) : State :=
  if s.chainOff then s
  else if !f.crcGood then s.bump HRC_CNT HRC_CNT.CRC_ERR 1
  else if !hrGood up f.typ.toNat f.payload.length then
    let s := s.bump HRC_CNT HRC_CNT.DISCARDS 1
    if up then s else s.passDown f f.hop.toNat f.payload
  else if f.typ.toNat = typ then k s
  else s

/-- The module's chain address. -/
def State.hrAddr (s : State) : Nat := s.fld HRC_ENUM HRC_ENUM.ADDR

/-! Rotations (R436-R439) -/

/-- The latched registers of R438 by name: the index j, and the bits that are gauges or flags and do not restart. -/
def latchOf : String → Option (Nat × Word)
  | "CLK_ICNT" => some (0, 0)
  | "HRC_CNT" => some (0, 0)
  | "LEV_PCNT" => some (0, 0)
  | "LEV_PSTAT" => some (1, 0xFFFFFFFFFF000FFF)
  | "TWN_GCNT" => some (0, 0)
  | "CAC_CCNT" => some (0, 0)
  | "XLT_CNT" => some (0, 0)
  | "DRM_SCNT" => some (0, 0)
  | "CIS_MCNT" => some (0, 0)
  | "LNK_CNT0" => some (0, 0)
  | "LNK_CNT1" => some (1, 0)
  | "LNK_PCNT" => some (2, 0)
  | "SLU_CNT" => some (0, 0)
  | "SLU_SUPP" => some (1, 0)
  | "LGR_CNT0" => some (0, 0)
  | "LGR_CNT1" => some (1, 0)
  | "SES_CNT" => some (0, 0)
  | "SES_LCNT" => some (1, 0xFFFF0000FFFFFFFF)
  | "ALT_ACNT" => some (0, 0)
  | "ALT_SPROD" => some (1, 0xFFFF0000FFFFFFFF)
  | "CIP_CNT0" => some (0, 0)
  | "CIP_CNT1" => some (1, 0)
  | "CMP_CNT0" => some (0, 0)
  | "CMP_CNT1" => some (1, 0)
  | _ => none

/-- Where a CSR is latched, and what it restarts at, where it is latched at all. -/
def latchEntry (e : Nat × Word) : Option (Nat × Word × Word) :=
  match findReg e.1 with
  | none => none
  | some (r, idx) => (latchOf r.name).map (fun l => (STA_LATCH (e.1 / 0x1000000) (idx.headD 0) l.1, e.2, e.2 &&& l.2))

/-- The latch bank taken: the last rotation's copies replaced, every counter field restarted (R437, R438). -/
def State.latchAll (s : State) : State :=
  let s := { s with csr := s.csr.filter (fun e => !(decide (STA_LATCH 0 0 0 ≤ e.1) && decide (e.1 < 0x8000000))) }
  s.csr.foldl (fun s e => match latchEntry e with
    | some (a, v, w) =>
      let s := (s.wr a v).wr e.1 w
      if e.1 / 0x1000000 = 0x14 then s.altSync ((e.1 - 0x14400000) / 0x200) else s
    | none => s) s

/-- A rotation mark (R437, R439): counters latched and restarted, S fields committed, line 15 on every in-service core; the
per-rotation row counts of DRAM and cisterns start anew (R231, R241). -/
def State.mark (s : State) : State :=
  let s := s.latchAll
  let s := s.setFs STA_STAT [(STA_STAT.SEQ, s.fld STA_STAT STA_STAT.SEQ + 1), (STA_STAT.PARTIAL, b2n s.startBegan)]
  let s := { s with startBegan := false, rowErrs := [], cisErrs := [] }.wr STA_MARK (s.rd HRC_TIME)
  let s := ((s.commitDrm).commitSlu).commitCip
  ((List.range 80).filter s.inService).foldl (fun s c => s.setLine c 15) s

/-- Marks of the schedule that fall at or before a rack time in hc (R436). -/
def State.marksBy (s : State) (hc : Nat) : Nat :=
  let ms := hc / 156250
  if ms < s.rotAt then 0 else (ms - s.rotAt) / s.fld STA_ROT STA_ROT.PERIOD_MS + 1

/-- Rack time set to a count: a forward step past mark points gives one mark, while TIMEVALID (R431, R436). -/
def State.stepTime (s : State) (hc : Nat) : State :=
  let old := (s.rd HRC_TIME).toNat
  let s := (s.wr HRC_TIME (Word.ofNat hc)).bump HRC_CNT HRC_CNT.TIMESTEPS 1
  if s.flag HRC_STAT HRC_STAT.TIMEVALID && decide (s.marksBy old < s.marksBy hc) then s.mark else s

/-- ROTATION_MARK (R437): marks fall only while TIMEVALID = 1. -/
def execRotationMark (s : State) : Host.Outcome State Fault Refusal :=
  .next (if s.flag HRC_STAT HRC_STAT.TIMEVALID && !s.inReset then s.mark else s)

/-- STA_ROT_WRITE (R436): a performed write to STA_ROT. -/
def execStaRotWrite (v : Word) (s : State) : Host.Outcome State Fault Refusal := .next (s.writeStaRot v)

/-! Addresses (R428-R430) -/

/-- The tail's ENUM-DONE notice. -/
def State.enumDone (s : State) : State :=
  if s.flag HRC_STAT HRC_STAT.TAIL then s.notice 2 (noticePayload 2 [(2, s.hrAddr)]) else s

/-- What an ENUM does: the address taken, the frame passed on, 16 PINGs sent with an address above 1 (R428, R430). The module
that takes address 1 is the origin of rack time, and its own count is valid (R431, R436). -/
def State.enumerate (s : State) (f : HrFrame) : State :=
  let a := f.hop.toNat + 1
  let s := s.passDown f (min a 255) []
  let s := s.setFs HRC_ENUM [(HRC_ENUM.ADDR, if a ≤ 250 then a else 0), (HRC_ENUM.OVER, b2n (decide (250 < a))),
    (HRC_ENUM.MOVED, 0), (HRC_ENUM.ENUMOK, 0)]
  let s := { s with pings := 0, pingSum := 0 }
  if 1 < s.hrAddr then
    let p := beBytes 8 s.freeVal.toNat
    (List.range 16).foldl (fun s _ => s.sendUp 0x84 0 p) { s.drawn with pings := 16 }
  else (if s.hrAddr = 1 then s.setF HRC_STAT HRC_STAT.TIMEVALID 1 else s).enumDone

/-- ENUM_RX (R426, R428). -/
def execEnumRx (f : HrFrame) (s : State) : Host.Outcome State Fault Refusal :=
  .next (s.rxHr false f 0x01 (fun s => s.enumerate f))

/-- PING_RX (R430): answered with an ECHO that carries the turnaround spent, in 0.4 ns units. -/
def execPingRx (f : HrFrame) (spent : BitVec 32) (s : State) : Host.Outcome State Fault Refusal :=
  .next (s.rxHr true f 0x84 (fun s => s.send (.chain false 0x04 0 0 (s.chainFlags 0) 0 (beBytes 8 spent.toNat))))

/-- An ECHO with the round trip measured, in 0.4 ns units: the 16th sets UPDELAY to the mean of (round trip − turnaround) / 2
(R430). -/
def State.echo (s : State) (f : HrFrame) (trip : Nat) : State :=
  if s.pings = 0 then s
  else
    let s := { s with pings := s.pings - 1, pingSum := s.pingSum + (trip - beNat f.payload) }
    if s.pings = 0 then
      (s.setFs HRC_ENUM [(HRC_ENUM.UPDELAY, s.pingSum / 32), (HRC_ENUM.ENUMOK, 1)]).enumDone
    else s

/-- ECHO_RX. -/
def execEchoRx (f : HrFrame) (trip : BitVec 32) (s : State) : Host.Outcome State Fault Refusal :=
  .next (s.rxHr false f 0x04 (fun s => s.echo f trip.toNat))

/-! Rack time (R431, R432) -/

/-- The module's rack time follows a TIME frame: stepped unless it agrees within 1 hc (R431). -/
def State.followTime (s : State) (target : Nat) : State :=
  let now := (s.rd HRC_TIME).toNat
  let s := if target ≤ now + 1 ∧ now ≤ target + 1 then s else s.stepTime target
  s.setF HRC_STAT HRC_STAT.TIMEVALID 1

/-- What a TIME frame does: CAND and MOVED (R429), rack time, the frame passed on with HOP and DELAY rewritten. The origin and
a module without an address do not follow it (R431, R432). -/
def State.rxTime (s : State) (f : HrFrame) : State :=
  let a := f.hop.toNat + 1
  let delay := beNat ((f.payload.drop 8).take 4)
  let up := s.fld HRC_ENUM HRC_ENUM.UPDELAY
  let s := s.passDown f (min a 255)
    (f.payload.take 8 ++ beBytes 4 (delay + up + 128) ++ f.payload.drop 12)
  let s := s.setF HRC_ENUM HRC_ENUM.CAND (min a 255)
  let s := if s.hrAddr != 0 && a != s.hrAddr && !s.flag HRC_ENUM HRC_ENUM.MOVED then
      (s.setF HRC_ENUM HRC_ENUM.MOVED 1).notice 1 (noticePayload 1 [(2, min a 255)]) else s
  if s.hrAddr ≤ 1 then s else s.followTime (beNat (f.payload.take 8) + (delay + up) / 16)

/-- TIME_RX. -/
def execTimeRx (f : HrFrame) (s : State) : Host.Outcome State Fault Refusal :=
  .next (s.rxHr false f 0x02 (fun s => s.rxTime f))

/-- TIME_ORIGINATE (R431): at a rack-time ms boundary the module at address 1 starts a TIME frame. -/
def execTimeOriginate (s : State) : Host.Outcome State Fault Refusal :=
  let t := (s.rd HRC_TIME).toNat
  .next (if !s.chainOff && s.hrAddr == 1 && t % 156250 == 0 then
    s.send (.chain false 0x02 0xFF 1 (s.chainFlags 0) 0 (beBytes 8 t ++ List.replicate 8 0))
  else s)

/-- UP_FRAME_RX (R427): a good REPLY or NOTICE of a module below goes on towards the host; a PING goes one hop only. -/
def execUpFrameRx (f : HrFrame) (s : State) : Host.Outcome State Fault Refusal :=
  .next (s.rxHr true f f.typ.toNat (fun s => if f.typ = 0x84 then s else
    s.send (.chain true f.typ.toNat f.addr.toNat f.hop.toNat (s.passFlags f) f.tag.toNat f.payload)))

/-! Management commands (R427, R433, R435) -/

/-- A REPLY: STATUS, reason, zeros, data (R433). -/
def State.reply (s : State) (tag status reason : Nat) (data : List Byte) : State :=
  s.sendUp 0x81 tag ([BitVec.ofNat 8 status, BitVec.ofNat 8 reason] ++ List.replicate 6 0 ++ data)

/-- The payload bytes from 8 on that an OPCODE takes: their least and greatest number. -/
def cmdArgs : Nat → Nat × Nat
  | 2 => (8, 8)
  | 3 => (16, 16)
  | 5 => (7, 7)
  | 6 => (1, 1024)
  | 7 => (8, 8)
  | _ => (0, 0)

/-- The OPCODE is one of R433, its unused bytes are zero, and its arguments have its length (log entry 16). -/
def cmdWellFormed (op : Nat) (rest : List Byte) : Bool :=
  let used := if op = 4 || op = 5 then 1 else if op = 6 then 7 else 0
  decide (1 ≤ op) && decide (op ≤ 7) && ((rest.take 7).drop used).all (· == 0)
    && decide ((cmdArgs op).1 ≤ rest.length - 7) && decide (rest.length - 7 ≤ (cmdArgs op).2)

/-- A register that CSR-READ may read in fallow (R433). -/
def fallowRead (a : Nat) : Bool := csrIsland a == some 17 && a != HWK_SCMD

/-- IDENT's data. -/
def State.identData (s : State) : List Byte :=
  beBytes 8 (s.rd HWK_ID).toNat ++ beBytes 8 Config.moduleSerial.toNat
    ++ beBytes 8 (s.fld LCS_STAT LCS_STAT.STATE) ++ beBytes 8 (s.rd HWK_SSTAT).toNat

/-- CSR-READ of a physical address; outside the CSR range nothing answers (R18). -/
def State.cmdRead (s : State) (tag pa : Nat) : State :=
  if s.fallow && !(isCsrAddr pa && fallowRead (pa - 0xF00000000000)) then s.reply tag 2 0 []
  else if isCsrAddr pa then
    let r := s.csrRead mstHrc (pa - 0xF00000000000) 8
    if r.2.2 then r.1.reply tag 0 0 (beBytes 8 r.2.1.toNat) else r.1.reply tag 3 0 []
  else (s.fault 0x00 mstHrc accCsr (Word.ofNat pa)).reply tag 3 0 []

/-- CSR-WRITE of a physical address. -/
def State.cmdWrite (s : State) (tag pa : Nat) (v : Word) : State :=
  if isCsrAddr pa then
    let r := s.csrWrite mstHrc (pa - 0xF00000000000) 8 v
    r.1.reply tag (if r.2 then 0 else 3) 0 []
  else (s.fault 0x00 mstHrc accCsr (Word.ofNat pa)).reply tag 3 0 []

/-- START with its kind (R399, R400, R433). -/
def State.cmdStart (s : State) (tag kind : Nat) : State :=
  if kind = 1 then
    if s.warmRefused then (s.startRequest 1).reply tag 5 1 [] else (s.startRequest 1).reply tag 0 0 []
  else if kind = 2 then (s.startRequest 2).reply tag 0 0 []
  else if kind = 3 then (s.startRequest 3).reply tag 5 2 []
  else s.reply tag 4 0 []

/-- CORE-MSG: the mailbox and line 12, or BUSY (R124, R433). -/
def State.coreMsg (s : State) (tag c : Nat) (m : List Byte) : State :=
  if 80 ≤ c then s.reply tag 4 0 []
  else if s.flag (HRC_MBOX c) HRC_MBOX.FULL then s.reply tag 1 0 []
  else ((s.setFs (HRC_MBOX c) [(HRC_MBOX.MSG, beNat m), (HRC_MBOX.FULL, 1)]).setLine c 12).reply tag 0 0 []

/-- IMAGE-REQ repeated with the OFFSET expected, at most once in 100 µs, while an image is awaited (R435). -/
def State.repeatRequest (s : State) : State :=
  let typ := match s.startStage with
    | .image t => some t
    | .patch t => some t
    | _ => none
  match typ with
  | none => s
  | some t =>
    if s.imageIn.full || s.noticed.contains 3 then s
    else
      let n := s.imageIn.data.length
      { s with noticed := insertNat s.noticed 3 }.notice 3 (noticePayload 3
        ((2, t) :: (4, s.imageIn.req / 256) :: (5, s.imageIn.req % 256)
          :: (List.range 4).map (fun i => (8 + i, bits n (8 * (3 - i)) 8))))

/-- IMAGE-DATA (R435): staged at the expected OFFSET of the REQ awaited; LAST ends the image. -/
def State.imageData (s : State) (req off : Nat) (last : Bool) (d : List Byte) : State :=
  let waits := match s.startStage with
    | .image _ => true
    | .patch _ => true
    | _ => false
  if waits && !s.imageIn.full && req == s.imageIn.req && off == s.imageIn.data.length then
    { s with imageIn := { s.imageIn with data := s.imageIn.data ++ d, full := last } }
  else s.repeatRequest

/-- A command carried out with its arguments, and its REPLY. -/
def State.carryOut (s : State) (op : Nat) (f : HrCmd) : State :=
  let tag := f.tag.toNat
  let arg := f.rest.drop 7
  let b1 := (f.rest.headD 0).toNat
  if !cmdWellFormed op f.rest then s.reply tag 4 0 []
  else match op with
    | 1 => s.reply tag 0 0 s.identData
    | 2 => s.cmdRead tag (beNat arg)
    | _ =>
      if s.fallow then s.reply tag 2 0 []
      else match op with
        | 3 => s.cmdWrite tag (beNat (arg.take 8)) (Word.ofNat (beNat (arg.drop 8)))
        | 4 => s.cmdStart tag b1
        | 5 => s.coreMsg tag b1 arg
        | 6 => (s.imageData (beNat ((f.rest.drop 1).take 2)) (beNat ((f.rest.drop 3).take 4)) f.last arg).reply tag 0 0 []
        | _ => (if s.hrAddr = 1 then s.stepTime (beNat arg) else s).reply tag 0 0 []

/-- The frame that carries a command. -/
def cmdFrame (f : HrCmd) (op : Nat) : HrFrame :=
  { typ := 3, addr := f.addr, hop := 0, last := f.last, tag := f.tag, payload := BitVec.ofNat 8 op :: f.rest,
    crcGood := f.crcGood, holdover := f.holdover }

/-- A CMD acts on a module: its address, 0xFF, or 0x00 while it is unaddressed (R429). -/
def State.cmdForMe (s : State) (a : Nat) : Bool :=
  a == 0xFF || (s.hrAddr == 0 && a == 0) || (s.hrAddr != 0 && a == s.hrAddr)

/-- A CMD frame: passed on unchanged, then carried out where it is for this module, or answered BUSY as the 17th (R427). -/
def State.rxCmd (s : State) (op : Nat) (f : HrCmd) : State :=
  s.rxHr false (cmdFrame f op) 0x03 (fun s =>
    let s := s.passDown (cmdFrame f op) 0 (cmdFrame f op).payload
    if !s.cmdForMe f.addr.toNat then s
    else if f.full then s.reply f.tag.toNat 1 0 []
    else s.carryOut op f)

/-- IDENT (R433). -/
def execIdent (f : HrCmd) (s : State) : Host.Outcome State Fault Refusal := .next (s.rxCmd 1 f)
/-- CSR_READ (R433). -/
def execCsrRead (f : HrCmd) (s : State) : Host.Outcome State Fault Refusal := .next (s.rxCmd 2 f)
/-- CSR_WRITE (R433). -/
def execCsrWrite (f : HrCmd) (s : State) : Host.Outcome State Fault Refusal := .next (s.rxCmd 3 f)
/-- START (R399, R433). -/
def execStart (f : HrCmd) (s : State) : Host.Outcome State Fault Refusal := .next (s.rxCmd 4 f)
/-- CORE_MSG (R433). -/
def execCoreMsg (f : HrCmd) (s : State) : Host.Outcome State Fault Refusal := .next (s.rxCmd 5 f)
/-- IMAGE_DATA (R435): a frame that is discarded also has the request repeated. -/
def execImageData (f : HrCmd) (s : State) : Host.Outcome State Fault Refusal :=
  .next (let t := s.rxCmd 6 f
    if !s.chainOff && (!f.crcGood || !hrGood false 3 (f.rest.length + 1)) then t.repeatRequest else t)
/-- SET_TIME (R432, R433). -/
def execSetTime (f : HrCmd) (s : State) : Host.Outcome State Fault Refusal := .next (s.rxCmd 7 f)
/-- HEADRACE_BAD_OP (R433): a command with its OPCODE given; a known one is that command. -/
def execHeadraceBadOp (op : Byte) (f : HrCmd) (s : State) : Host.Outcome State Fault Refusal := .next (s.rxCmd op.toNat f)

/-- NOTICE_INTERVAL_END (R434): the state held back for a CODE is sent, and its next interval begins. -/
def execNoticeIntervalEnd (code : Byte) (s : State) : Host.Outcome State Fault Refusal :=
  let c := code.toNat
  let t := { s with noticed := removeNat s.noticed c, noticeHeld := s.noticeHeld.erase c }
  .next (match s.noticeHeld.find c with
    | some p => if s.noticed.contains c then t.notice c p else s
    | none => t)

/-! Spare transceivers and the up receiver (R419, R423, R424) -/

/-- The receivers change to the spare set: counted and recorded. -/
def State.useSpareRx (s : State) : State :=
  if s.flag HRC_STAT HRC_STAT.SPARE_RX then s
  else (((s.setF HRC_STAT HRC_STAT.SPARE_RX 1).setF SPR_LEFT SPR_LEFT.HR_RX 0).bump HRC_CNT HRC_CNT.SPARESW 1).fault0 0x94
    mstNone accNone

/-- SPARE_RECEIVER_SWITCH: after 100 µs of reference holdover. -/
def execSpareReceiverSwitch (s : State) : Host.Outcome State Fault Refusal :=
  .next (if s.flag HRC_STAT HRC_STAT.HOLDOVER && !s.inReset then s.useSpareRx else s)

/-- PRIMARY_RECEIVER_RETURN: no lock within 1 ms on the spare receivers. -/
def execPrimaryReceiverReturn (s : State) : Host.Outcome State Fault Refusal :=
  .next (if s.flag HRC_STAT HRC_STAT.SPARE_RX && !s.repair.contains (repHrRx, 0)
      && (s.flag HRC_STAT HRC_STAT.HOLDOVER || !s.flag HRC_STAT HRC_STAT.UPLOCK) then
    (s.setF HRC_STAT HRC_STAT.SPARE_RX 0).setF SPR_LEFT SPR_LEFT.HR_RX 1
  else s)

/-- UP_RECEIVER_ALIGNMENT_LOSS: with a signal present. -/
def execUpReceiverAlignmentLoss (s : State) : Host.Outcome State Fault Refusal :=
  .next (if s.chainOff then s else (s.setF HRC_STAT HRC_STAT.UPLOCK 0).useSpareRx)

/-- UP_RECEIVER_ALIGNED (R419): UPLOCK; the module is no longer the tail (R424). -/
def execUpReceiverAligned (s : State) : Host.Outcome State Fault Refusal :=
  .next (if s.chainOff then s
    else (s.setFs HRC_STAT [(HRC_STAT.UPLOCK, 1), (HRC_STAT.TAIL, 0)]).keepSpareRx)

/-- TAIL_DETECTION (R424): no valid signal on HR_UP_IN for 10 µs. -/
def execTailDetection (s : State) : Host.Outcome State Fault Refusal :=
  .next (if s.chainOff then s else s.setFs HRC_STAT [(HRC_STAT.UPLOCK, 0), (HRC_STAT.TAIL, 1)])

/-- DRIVER_MONITOR_FAULT: an output differs from what is intended for 16 hc; the spare driver set takes over. -/
def execDriverMonitorFault (s : State) : Host.Outcome State Fault Refusal :=
  .next (if s.chainOff || s.flag HRC_STAT HRC_STAT.SPARE_TX then s
    else ((((s.setF HRC_STAT HRC_STAT.SPARE_TX 1).setF SPR_LEFT SPR_LEFT.HR_TX 0).bump HRC_CNT HRC_CNT.SPARESW 1).fault0
      0x94 mstNone accNone).repaired repHrTx 0)

end Sys2Proof.Machine
end

