-- ==== Sys2Proof/Machine/Dispatch.lean ====
section
/-!
DEFINITION. What each command does: one arm for each row of the table, a direct call of its meaning.
-/

namespace Sys2Proof.Machine
open Sys2Proof

/-- A command carried out on everything but the queue. -/
def exec (i : Instr) (s : State) : Host.Outcome State Fault Refusal :=
  match i with
  | .bundleIssue c => Sys2Proof.Machine.execBundleIssue c s
  | .branch c v imm => Sys2Proof.Machine.execBranch c v imm s
  | .trapReturn c => Sys2Proof.Machine.execTrapReturn c s
  | .repeatPrefix c v => Sys2Proof.Machine.execRepeatPrefix c v s
  | .aluAddSub c u sub b => Sys2Proof.Machine.execAluAddSub c u sub b s
  | .aluAddSubO c u sub b => Sys2Proof.Machine.execAluAddSubO c u sub b s
  | .aluBitwise c u op b => Sys2Proof.Machine.execAluBitwise c u op b s
  | .aluMinMax c u op b => Sys2Proof.Machine.execAluMinMax c u op b s
  | .aluMov c u b => Sys2Proof.Machine.execAluMov c u b s
  | .shShift c op b => Sys2Proof.Machine.execShShift c op b s
  | .shExtract c signed b => Sys2Proof.Machine.execShExtract c signed b s
  | .shInsert c b => Sys2Proof.Machine.execShInsert c b s
  | .shCount c op b => Sys2Proof.Machine.execShCount c op b s
  | .cmpCompare c op b => Sys2Proof.Machine.execCmpCompare c op b s
  | .mul c op b => Sys2Proof.Machine.execMul c op b s
  | .mulO c b => Sys2Proof.Machine.execMulO c b s
  | .divS c b => Sys2Proof.Machine.execDivS c b s
  | .divU c b => Sys2Proof.Machine.execDivU c b s
  | .fpAddSub c u f sub b => Sys2Proof.Machine.execFpAddSub c u f sub b s
  | .fpMul c u f b => Sys2Proof.Machine.execFpMul c u f b s
  | .fpFma c u f neg b => Sys2Proof.Machine.execFpFma c u f neg b s
  | .fpDiv c u f b => Sys2Proof.Machine.execFpDiv c u f b s
  | .fpSqrt c u f b => Sys2Proof.Machine.execFpSqrt c u f b s
  | .fpMinMax c u f mx b => Sys2Proof.Machine.execFpMinMax c u f mx b s
  | .fpCompare c u f op b => Sys2Proof.Machine.execFpCompare c u f op b s
  | .fpCvti c u f b => Sys2Proof.Machine.execFpCvti c u f b s
  | .fpCvtf c u f b => Sys2Proof.Machine.execFpCvtf c u f b s
  | .fpCvtx c u f b => Sys2Proof.Machine.execFpCvtx c u f b s
  | .decAddSub c sub b => Sys2Proof.Machine.execDecAddSub c sub b s
  | .decChk c b => Sys2Proof.Machine.execDecChk c b s
  | .operationComplete c => Sys2Proof.Machine.execOperationComplete c s
  | .completionTrap c => Sys2Proof.Machine.execCompletionTrap c s
  | .lsuLoad c u op b => Sys2Proof.Machine.execLsuLoad c u op b s
  | .lsuStore c u op b => Sys2Proof.Machine.execLsuStore c u op b s
  | .storePerformed c => Sys2Proof.Machine.execStorePerformed c s
  | .loadDataArrival c p => Sys2Proof.Machine.execLoadDataArrival c p s
  | .issueStallEnd c n => Sys2Proof.Machine.execIssueStallEnd c n s
  | .atomCas64 c b => Sys2Proof.Machine.execAtomCas64 c b s
  | .atomSwp64 c b => Sys2Proof.Machine.execAtomSwp64 c b s
  | .atomAdd64 c b => Sys2Proof.Machine.execAtomAdd64 c b s
  | .atomAnd64 c b => Sys2Proof.Machine.execAtomAnd64 c b s
  | .atomOr64 c b => Sys2Proof.Machine.execAtomOr64 c b s
  | .atomCas128 c b => Sys2Proof.Machine.execAtomCas128 c b s
  | .atomFence c b => Sys2Proof.Machine.execAtomFence c b s
  | .fenceComplete c => Sys2Proof.Machine.execFenceComplete c s
  | .xltProbeR c b => Sys2Proof.Machine.execXltProbeR c b s
  | .xltProbeW c b => Sys2Proof.Machine.execXltProbeW c b s
  | .xltInvVa c b => Sys2Proof.Machine.execXltInvVa c b s
  | .xltInvCtx c b => Sys2Proof.Machine.execXltInvCtx c b s
  | .xltInvAll c b => Sys2Proof.Machine.execXltInvAll c b s
  | .invalidationComplete c => Sys2Proof.Machine.execInvalidationComplete c s
  | .tableWalk c fails e second => Sys2Proof.Machine.execTableWalk c fails e second s
  | .reachWrite c r v => Sys2Proof.Machine.execReachWrite c r v s
  | .cmClean c b => Sys2Proof.Machine.execCmClean c b s
  | .cmFlush c b => Sys2Proof.Machine.execCmFlush c b s
  | .cmInv c b => Sys2Proof.Machine.execCmInv c b s
  | .cmZero c b => Sys2Proof.Machine.execCmZero c b s
  | .cmPref c b => Sys2Proof.Machine.execCmPref c b s
  | .cmIinv c b => Sys2Proof.Machine.execCmIinv c b s
  | .maintenanceComplete c pa => Sys2Proof.Machine.execMaintenanceComplete c pa s
  | .fillReturn c pa icache l2only e subs => Sys2Proof.Machine.execFillReturn c pa icache l2only e subs s
  | .l2PatrolScrub c e subs => Sys2Proof.Machine.execL2PatrolScrub c e subs s
  | .reservoirPatrolScrub slice e subs => Sys2Proof.Machine.execReservoirPatrolScrub slice e subs s
  | .brCall c b imm => Sys2Proof.Machine.execBrCall c b imm s
  | .brRel c b imm => Sys2Proof.Machine.execBrRel c b imm s
  | .brCallrel c b imm => Sys2Proof.Machine.execBrCallrel c b imm s
  | .cipEnc c b x => Sys2Proof.Machine.execCipEnc c b x s
  | .cipDec c b x => Sys2Proof.Machine.execCipDec c b x s
  | .cipGmul c b => Sys2Proof.Machine.execCipGmul c b s
  | .cmxSubmit c b => Sys2Proof.Machine.execCmxSubmit c b s
  | .cmxResume c b => Sys2Proof.Machine.execCmxResume c b s
  | .cmxStatus c b => Sys2Proof.Machine.execCmxStatus c b s
  | .bellRing c b => Sys2Proof.Machine.execBellRing c b s
  | .latFence c => Sys2Proof.Machine.execLatFence c s
  | .lateralWrite c l => Sys2Proof.Machine.execLateralWrite c l s
  | .lateralRead c v => Sys2Proof.Machine.execLateralRead c v s
  | .lateralReadTimeout c => Sys2Proof.Machine.execLateralReadTimeout c s
  | .ipi c v => Sys2Proof.Machine.execIpi c v s
  | .interruptLineSet c line => Sys2Proof.Machine.execInterruptLineSet c line s
  | .timerExpiry c n => Sys2Proof.Machine.execTimerExpiry c n s
  | .trapEntry c => Sys2Proof.Machine.execTrapEntry c s
  | .asyncMachineCheck c => Sys2Proof.Machine.execAsyncMachineCheck c s
  | .microTrap u mpc cserr nest => Sys2Proof.Machine.execMicroTrap u mpc cserr nest s
  | .cstoreWordRestore u ok => Sys2Proof.Machine.execCstoreWordRestore u ok s
  | .cpatchWrite c e v => Sys2Proof.Machine.execCpatchWrite c e v s
  | .spatchWrite e v => Sys2Proof.Machine.execSpatchWrite e v s
  | .cstLoad => Sys2Proof.Machine.execCstLoad s
  | .intervalClose g j => Sys2Proof.Machine.execIntervalClose g j s
  | .signatureCompare g => Sys2Proof.Machine.execSignatureCompare g s
  | .confirmation g => Sys2Proof.Machine.execConfirmation g s
  | .outvotedMemberRefresh g => Sys2Proof.Machine.execOutvotedMemberRefresh g s
  | .delayRegisterParityError g n => Sys2Proof.Machine.execDelayRegisterParityError g n s
  | .boundaryOperation g die => Sys2Proof.Machine.execBoundaryOperation g die s
  | .checkerFault k => Sys2Proof.Machine.execCheckerFault k s
  | .memberHalt c => Sys2Proof.Machine.execMemberHalt c s
  | .signatureTimeout g j => Sys2Proof.Machine.execSignatureTimeout g j s
  | .spareJoin g bad => Sys2Proof.Machine.execSpareJoin g bad s
  | .mergeTwin bad => Sys2Proof.Machine.execMergeTwin bad s
  | .mergeTriad bad => Sys2Proof.Machine.execMergeTriad bad s
  | .twnSplit => Sys2Proof.Machine.execTwnSplit s
  | .twnPark => Sys2Proof.Machine.execTwnPark s
  | .twnStop => Sys2Proof.Machine.execTwnStop s
  | .twnStart => Sys2Proof.Machine.execTwnStart s
  | .twnBadOp => Sys2Proof.Machine.execTwnBadOp s
  | .cacCleanAll c => Sys2Proof.Machine.execCacCleanAll c s
  | .cacFlushAll c => Sys2Proof.Machine.execCacFlushAll c s
  | .cacBadOp c => Sys2Proof.Machine.execCacBadOp c s
  | .reservoirCleanAll => Sys2Proof.Machine.execReservoirCleanAll s
  | .reservoirFlushAll => Sys2Proof.Machine.execReservoirFlushAll s
  | .dramRead master pa pins wide dma => Sys2Proof.Machine.execDramRead master pa pins wide dma s
  | .dramRefresh stack ch => Sys2Proof.Machine.execDramRefresh stack ch s
  | .dramScrub stack e other => Sys2Proof.Machine.execDramScrub stack e other s
  | .rowSparing stack ch bank row met => Sys2Proof.Machine.execRowSparing stack ch bank row met s
  | .drmSubstitute stack => Sys2Proof.Machine.execDrmSubstitute stack s
  | .channelCopyComplete stack met => Sys2Proof.Machine.execChannelCopyComplete stack met s
  | .spareChannelFailure stack => Sys2Proof.Machine.execSpareChannelFailure stack s
  | .drmCommit => Sys2Proof.Machine.execDrmCommit s
  | .ledgerWrite b mirror j data => Sys2Proof.Machine.execLedgerWrite b mirror j data s
  | .ledgerRead b j e1 e2 => Sys2Proof.Machine.execLedgerRead b j e1 e2 s
  | .cisBankAccess bank req off e => Sys2Proof.Machine.execCisBankAccess bank req off e s
  | .cisStop b v => Sys2Proof.Machine.execCisStop b v s
  | .cisBankStopped b => Sys2Proof.Machine.execCisBankStopped b s
  | .cisPower b mask p => Sys2Proof.Machine.execCisPower b mask p s
  | .cisWipe b => Sys2Proof.Machine.execCisWipe b s
  | .cisClearComplete b => Sys2Proof.Machine.execCisClearComplete b s
  | .cisPatrol b off e => Sys2Proof.Machine.execCisPatrol b off e s
  | .strongroomWipe cause => Sys2Proof.Machine.execStrongroomWipe cause s
  | .strongroomWipeEnd zero => Sys2Proof.Machine.execStrongroomWipeEnd zero s
  | .linkEnable l => Sys2Proof.Machine.execLinkEnable l s
  | .linkDisable l => Sys2Proof.Machine.execLinkDisable l s
  | .linkRetrain l => Sys2Proof.Machine.execLinkRetrain l s
  | .linkMove l => Sys2Proof.Machine.execLinkMove l s
  | .autonegComplete l => Sys2Proof.Machine.execAutonegComplete l s
  | .trainingComplete l => Sys2Proof.Machine.execTrainingComplete l s
  | .trainingFailure l => Sys2Proof.Machine.execTrainingFailure l s
  | .lockHeld l => Sys2Proof.Machine.execLockHeld l s
  | .lockTimeout l => Sys2Proof.Machine.execLockTimeout l s
  | .initTimeout l => Sys2Proof.Machine.execInitTimeout l s
  | .retrainIdleEnd l => Sys2Proof.Machine.execRetrainIdleEnd l s
  | .lossOfLock l => Sys2Proof.Machine.execLossOfLock l s
  | .liveTimeout l => Sys2Proof.Machine.execLiveTimeout l s
  | .replayTimeout l => Sys2Proof.Machine.execReplayTimeout l s
  | .dataFrameRx l p err recent corr uncorr => Sys2Proof.Machine.execDataFrameRx l p err recent corr uncorr s
  | .ackFrameRx l p recent => Sys2Proof.Machine.execAckFrameRx l p recent s
  | .nakFrameRx l p recent during => Sys2Proof.Machine.execNakFrameRx l p recent during s
  | .holdFrameRx l p recent => Sys2Proof.Machine.execHoldFrameRx l p recent s
  | .initFrameRx l p recent => Sys2Proof.Machine.execInitFrameRx l p recent s
  | .moveFrameRx l p recent => Sys2Proof.Machine.execMoveFrameRx l p recent s
  | .spareLaneLocked l => Sys2Proof.Machine.execSpareLaneLocked l s
  | .moveTimeout l => Sys2Proof.Machine.execMoveTimeout l s
  | .creditReturn l cls cred => Sys2Proof.Machine.execCreditReturn l cls cred s
  | .keepaliveTx l => Sys2Proof.Machine.execKeepaliveTx l s
  | .initTx l => Sys2Proof.Machine.execInitTx l s
  | .frameWork l m => Sys2Proof.Machine.execFrameWork l m s
  | .sesOpen => Sys2Proof.Machine.execSesOpen s
  | .sesClose => Sys2Proof.Machine.execSesClose s
  | .sesCloseForce => Sys2Proof.Machine.execSesCloseForce s
  | .sesPaths => Sys2Proof.Machine.execSesPaths s
  | .sesRead => Sys2Proof.Machine.execSesRead s
  | .sesBadOp => Sys2Proof.Machine.execSesBadOp s
  | .sesCtxbaseInit => Sys2Proof.Machine.execSesCtxbaseInit s
  | .sesStop => Sys2Proof.Machine.execSesStop s
  | .openRetry n => Sys2Proof.Machine.execOpenRetry n s
  | .openTimeout n => Sys2Proof.Machine.execOpenTimeout n s
  | .openAckRx => Sys2Proof.Machine.execOpenAckRx s
  | .resetRx => Sys2Proof.Machine.execResetRx s
  | .resetAckRx => Sys2Proof.Machine.execResetAckRx s
  | .closeRetry n last => Sys2Proof.Machine.execCloseRetry n last s
  | .tackRx => Sys2Proof.Machine.execTackRx s
  | .rdataRx => Sys2Proof.Machine.execRdataRx s
  | .tendRx => Sys2Proof.Machine.execTendRx s
  | .attnRx => Sys2Proof.Machine.execAttnRx s
  | .doorbellRecord n => Sys2Proof.Machine.execDoorbellRecord n s
  | .drrRound => Sys2Proof.Machine.execDrrRound s
  | .transactionIssue j => Sys2Proof.Machine.execTransactionIssue j s
  | .tailraceWrite => Sys2Proof.Machine.execTailraceWrite s
  | .consumerIndexPoll n => Sys2Proof.Machine.execConsumerIndexPoll n s
  | .floorTimeout n => Sys2Proof.Machine.execFloorTimeout n s
  | .pathEvaluation stalls clears => Sys2Proof.Machine.execPathEvaluation stalls clears s
  | .pathRevert n j => Sys2Proof.Machine.execPathRevert n j s
  | .nopathTimeout n => Sys2Proof.Machine.execNopathTimeout n s
  | .sluiceInput n => Sys2Proof.Machine.execSluiceInput n s
  | .checkGateOutput b oseq => Sys2Proof.Machine.execCheckGateOutput b oseq s
  | .leaseRenewal b => Sys2Proof.Machine.execLeaseRenewal b s
  | .heartbeatCheck ar as br bs => Sys2Proof.Machine.execHeartbeatCheck ar as br bs s
  | .leaseExpiry => Sys2Proof.Machine.execLeaseExpiry s
  | .quietPeriodEnd => Sys2Proof.Machine.execQuietPeriodEnd s
  | .sluSwap => Sys2Proof.Machine.execSluSwap s
  | .scheduledSwap => Sys2Proof.Machine.execScheduledSwap s
  | .sluRejoin bistOk => Sys2Proof.Machine.execSluRejoin bistOk s
  | .sluBadOp => Sys2Proof.Machine.execSluBadOp s
  | .sluCommit => Sys2Proof.Machine.execSluCommit s
  | .lgrRd e1 e2 => Sys2Proof.Machine.execLgrRd e1 e2 s
  | .altCreate => Sys2Proof.Machine.execAltCreate s
  | .altQuiesce => Sys2Proof.Machine.execAltQuiesce s
  | .allotmentQuiesced a => Sys2Proof.Machine.execAllotmentQuiesced a s
  | .altResume => Sys2Proof.Machine.execAltResume s
  | .altDestroy => Sys2Proof.Machine.execAltDestroy s
  | .altIoinvVa => Sys2Proof.Machine.execAltIoinvVa s
  | .altIoinvAllot => Sys2Proof.Machine.execAltIoinvAllot s
  | .altIoinvAll => Sys2Proof.Machine.execAltIoinvAll s
  | .altBadOp => Sys2Proof.Machine.execAltBadOp s
  | .altCtxbaseInit => Sys2Proof.Machine.execAltCtxbaseInit s
  | .ioTranslation a va master k fails => Sys2Proof.Machine.execIoTranslation a va master k fails s
  | .cipLoad e => Sys2Proof.Machine.execCipLoad e s
  | .cipClear => Sys2Proof.Machine.execCipClear s
  | .cipInfo e => Sys2Proof.Machine.execCipInfo e s
  | .cipCommit => Sys2Proof.Machine.execCipCommit s
  | .flumeCipEnc l w0 w1 w2 w3 fill x => Sys2Proof.Machine.execFlumeCipEnc l w0 w1 w2 w3 fill x s
  | .flumeCipDec l w0 w1 w2 w3 fill x => Sys2Proof.Machine.execFlumeCipDec l w0 w1 w2 w3 fill x s
  | .flumeCipGmul l w0 w1 w2 w3 fill => Sys2Proof.Machine.execFlumeCipGmul l w0 w1 w2 w3 fill s
  | .flumeCipBadOp op l w0 w1 w2 w3 => Sys2Proof.Machine.execFlumeCipBadOp op l w0 w1 w2 w3 s
  | .bwrite l w0 w1 w2 w3 fill => Sys2Proof.Machine.execBwrite l w0 w1 w2 w3 fill s
  | .bclose l w0 w1 w2 w3 fill => Sys2Proof.Machine.execBclose l w0 w1 w2 w3 fill s
  | .basinReservation => Sys2Proof.Machine.execBasinReservation s
  | .basinReleaseComplete j => Sys2Proof.Machine.execBasinReleaseComplete j s
  | .basinWipeComplete j => Sys2Proof.Machine.execBasinWipeComplete j s
  | .compressionJobStart => Sys2Proof.Machine.execCompressionJobStart s
  | .compressionJobEnd n => Sys2Proof.Machine.execCompressionJobEnd n s
  | .squeezeStaging => Sys2Proof.Machine.execSqueezeStaging s
  | .engineFault n => Sys2Proof.Machine.execEngineFault n s
  | .clkGo j => Sys2Proof.Machine.execClkGo j s
  | .staggerWaitEnd => Sys2Proof.Machine.execStaggerWaitEnd s
  | .dividerStep j => Sys2Proof.Machine.execDividerStep j s
  | .pllLock j ok => Sys2Proof.Machine.execPllLock j ok s
  | .wakeComplete j => Sys2Proof.Machine.execWakeComplete j s
  | .drainComplete j => Sys2Proof.Machine.execDrainComplete j s
  | .drainTimeout j far => Sys2Proof.Machine.execDrainTimeout j far s
  | .referenceLoss => Sys2Proof.Machine.execReferenceLoss s
  | .referenceReturn => Sys2Proof.Machine.execReferenceReturn s
  | .holdoverExpiry => Sys2Proof.Machine.execHoldoverExpiry s
  | .pllLockLoss j => Sys2Proof.Machine.execPllLockLoss j s
  | .culvertTransfer a b errs => Sys2Proof.Machine.execCulvertTransfer a b errs s
  | .fastLoopWindow p => Sys2Proof.Machine.execFastLoopWindow p s
  | .slowLoopEvaluation p => Sys2Proof.Machine.execSlowLoopEvaluation p s
  | .clampEngage => Sys2Proof.Machine.execClampEngage s
  | .clampSustained => Sys2Proof.Machine.execClampSustained s
  | .powerOn => Sys2Proof.Machine.execPowerOn s
  | .prstAssert => Sys2Proof.Machine.execPrstAssert s
  | .prstRelease => Sys2Proof.Machine.execPrstRelease s
  | .pwrGoodLow => Sys2Proof.Machine.execPwrGoodLow s
  | .vinLow => Sys2Proof.Machine.execVinLow s
  | .startWarm => Sys2Proof.Machine.execStartWarm s
  | .startCold => Sys2Proof.Machine.execStartCold s
  | .startBadOp => Sys2Proof.Machine.execStartBadOp s
  | .coldStart o => Sys2Proof.Machine.execColdStart o s
  | .warmStart o => Sys2Proof.Machine.execWarmStart o s
  | .imageReqTimeout => Sys2Proof.Machine.execImageReqTimeout s
  | .laneLoopbackEnd lane pass => Sys2Proof.Machine.execLaneLoopbackEnd lane pass s
  | .fullRateTraining n ch ok => Sys2Proof.Machine.execFullRateTraining n ch ok s
  | .transition bistOk us => Sys2Proof.Machine.execTransition bistOk us s
  | .startDeadline => Sys2Proof.Machine.execStartDeadline s
  | .startFail code step => Sys2Proof.Machine.execStartFail code step s
  | .enumRx f => Sys2Proof.Machine.execEnumRx f s
  | .timeRx f => Sys2Proof.Machine.execTimeRx f s
  | .timeOriginate => Sys2Proof.Machine.execTimeOriginate s
  | .pingRx f spent => Sys2Proof.Machine.execPingRx f spent s
  | .echoRx f trip => Sys2Proof.Machine.execEchoRx f trip s
  | .upFrameRx f => Sys2Proof.Machine.execUpFrameRx f s
  | .ident f => Sys2Proof.Machine.execIdent f s
  | .csrRead f => Sys2Proof.Machine.execCsrRead f s
  | .csrWrite f => Sys2Proof.Machine.execCsrWrite f s
  | .start f => Sys2Proof.Machine.execStart f s
  | .coreMsg f => Sys2Proof.Machine.execCoreMsg f s
  | .imageData f => Sys2Proof.Machine.execImageData f s
  | .setTime f => Sys2Proof.Machine.execSetTime f s
  | .headraceBadOp op f => Sys2Proof.Machine.execHeadraceBadOp op f s
  | .tailDetection => Sys2Proof.Machine.execTailDetection s
  | .spareReceiverSwitch => Sys2Proof.Machine.execSpareReceiverSwitch s
  | .driverMonitorFault => Sys2Proof.Machine.execDriverMonitorFault s
  | .rotationMark => Sys2Proof.Machine.execRotationMark s
  | .staRotWrite v => Sys2Proof.Machine.execStaRotWrite v s
  | .faultEvent code master access addr => Sys2Proof.Machine.execFaultEvent code master access addr s
  | .faultWindowExpiry n master => Sys2Proof.Machine.execFaultWindowExpiry n master s
  | .fltStatusClear v => Sys2Proof.Machine.execFltStatusClear v s
  | .fltCapClear v => Sys2Proof.Machine.execFltCapClear v s
  | .wearEvaluation w => Sys2Proof.Machine.execWearEvaluation w s
  | .sprConsent => Sys2Proof.Machine.execSprConsent s
  | .sprDefer => Sys2Proof.Machine.execSprDefer s
  | .sprBadOp => Sys2Proof.Machine.execSprBadOp s
  | .deferExpiry c persists => Sys2Proof.Machine.execDeferExpiry c persists s
  | .tamperAssert => Sys2Proof.Machine.execTamperAssert s
  | .thermalSense tj tin tout => Sys2Proof.Machine.execThermalSense tj tin tout s
  | .thermTrip => Sys2Proof.Machine.execThermTrip s
  | .lcsStateChange => Sys2Proof.Machine.execLcsStateChange s
  | .oemHash => Sys2Proof.Machine.execOemHash s
  | .kik => Sys2Proof.Machine.execKik s
  | .svn => Sys2Proof.Machine.execSvn s
  | .revoke => Sys2Proof.Machine.execRevoke s
  | .lcsFcmdBadOp => Sys2Proof.Machine.execLcsFcmdBadOp s
  | .extest => Sys2Proof.Machine.execExtest s
  | .extestPulse => Sys2Proof.Machine.execExtestPulse s
  | .extestTrain => Sys2Proof.Machine.execExtestTrain s
  | .clamp => Sys2Proof.Machine.execClamp s
  | .highz => Sys2Proof.Machine.execHighz s
  | .idcode => Sys2Proof.Machine.execIdcode s
  | .samplePreload pins preload => Sys2Proof.Machine.execSamplePreload pins preload s
  | .bypass => Sys2Proof.Machine.execBypass s
  | .tapReset => Sys2Proof.Machine.execTapReset s
  | .csrRegisterWrite m a width v => Sys2Proof.Machine.execCsrRegisterWrite m a width v s
  | .pwrGoodHigh => Sys2Proof.Machine.execPwrGoodHigh s
  | .vinOutsideRange high => Sys2Proof.Machine.execVinOutsideRange high s
  | .tamperRelease => Sys2Proof.Machine.execTamperRelease s
  | .clampRelease => Sys2Proof.Machine.execClampRelease s
  | .noticeIntervalEnd code => Sys2Proof.Machine.execNoticeIntervalEnd code s
  | .dieToDieLinkDown => Sys2Proof.Machine.execDieToDieLinkDown s
  | .dieToDieLinkUp => Sys2Proof.Machine.execDieToDieLinkUp s
  | .upReceiverAligned => Sys2Proof.Machine.execUpReceiverAligned s
  | .upReceiverAlignmentLoss => Sys2Proof.Machine.execUpReceiverAlignmentLoss s
  | .primaryReceiverReturn => Sys2Proof.Machine.execPrimaryReceiverReturn s

end Sys2Proof.Machine
end

