-- ==== Sys2Proof/Machine/Tick.lean ====
section
/-!
DEFINITION. One hc with no command waiting (log entry 1): what the module counts in hc.
-/

namespace Sys2Proof.Machine
open Sys2Proof Csr

/-- A timer counts down; true where it has just reached 0 (R126). -/
def countDown (v : Word) : Word × Bool := if v = 0 then (0, false) else (v - 1, v == 1)

/-- The timers of a core that is no member, with lines 0 and 1 set where they reach 0 (R126). -/
def Core.tickTimers (k : Core) : Core :=
  let a := countDown (k.port 0x8E)
  let b := countDown (k.port 0x8F)
  if k.port 0x8E = 0 ∧ k.port 0x8F = 0 then k
  else
    let ip := if a.2 then setBit (k.port 0xB0) 0 true else k.port 0xB0
    k.setPorts [(0x8E, a.1), (0x8F, b.1), (0xB0, if b.2 then setBit ip 1 true else ip)]

/-- The timers of a group (R155). -/
def Group.tickTimers (g : Group) : Group :=
  let a := countDown g.tmr0
  let b := countDown g.tmr1
  let ip := if a.2 then setBit g.ipend 0 true else g.ipend
  { g with tmr0 := a.1, tmr1 := b.1, ipend := if b.2 then setBit ip 1 true else ip }

/-- Every timer counts: of the cores whose island runs, and of the groups. -/
def State.tickTimers (s : State) : State :=
  { s with
    cores := s.cores.map (fun e =>
      if s.islandRuns (coreIsland e.1) && (s.groupOf e.1).isNone then (e.1, e.2.tickTimers) else e)
    groups := s.groups.mapv Group.tickTimers }

/-- The lease runs down (R310). -/
def State.tickLease (s : State) : State :=
  if s.fld SLU_LEASE SLU_LEASE.REMAIN = 0 then s
  else s.setF SLU_LEASE SLU_LEASE.REMAIN (s.fld SLU_LEASE SLU_LEASE.REMAIN - 1)

/-- The time since the last change of the turn, switch-over or start, which ends in full service (R315). -/
def State.tickSwap (s : State) : State :=
  if s.fld HWK_SSTAT HWK_SSTAT.PHASE = 3 then { s with swapHc := s.swapHc + 1 }.syncSwap else s

/-- One hc: rack time always, the rest outside reset and fallow; nothing without VIN (R17, R431). -/
def State.tick (s : State) : State :=
  if s.vinLow then s
  else
    let s := s.wr HRC_TIME (s.rd HRC_TIME + 1)
    if s.inReset || s.fallow then s else s.tickTimers.tickLease.tickSwap

end Sys2Proof.Machine
end

