-- ==== Sys2Proof/WellFormed.lean ====
section
/-!
DEFINITION. The commands that can occur: operands in the ranges that their types do not already give. A command outside them is
refused where the spec gives its operands no sense (a fault code of no event, a failure code of no start, a message too short for
its header), and is else carried out as its meaning says.
-/

namespace Sys2Proof

/-- The operands of a command are ones it can have. -/
def Instr.wf : Instr → Bool
  | .faultEvent code _ _ _ => faultCodeOk code.toNat
  | .startFail code _ => decide (1 ≤ code.toNat) && decide (code.toNat ≤ 7)
  | .frameWork _ m => decide (24 ≤ m.length) && decide (m.length ≤ 4096)
  | .lateralWrite _ l => decide (1 ≤ l.length) && decide (l.length ≤ 8)
  | .headraceBadOp op _ => !(decide (1 ≤ op.toNat) && decide (op.toNat ≤ 7))
  | .csrRegisterWrite _ _ width _ => width == 1 || width == 2 || width == 4 || width == 8 || width == 16
  | _ => true

end Sys2Proof
end

