-- ==== Sys2Proof/Safety.lean ====
section
/-!
DEFINITION. The terms in which claims are stated: what holds in every run, and the state that each kind of command leaves.
-/

namespace Sys2Proof.Machine
open Sys2Proof Csr

/-- What every step keeps: memory has its one canonical form (log entry 2). -/
def State.Inv (s : State) : Prop := Memory.wf s.mem = true

/-- A main core has every unit; a headworks core has those of R83. -/
def unitThere (c p : Nat) : Prop := (portInfo (decide (80 ≤ c)) p).isSome = true

/-- A core once the operations due at its clock have completed (R64, R65). -/
def State.settled (s : State) (c : Nat) : Core := (s.core c).settle (s.clock c)

/-- What a fixed-latency trigger leaves: operations due have completed, and its own is in flight (R64, R65). -/
def State.withOp (s : State) (c path port lat : Nat) (writes : List (Nat × Word)) (flags : Word) (trap : Option (Nat × Nat)) :
    State :=
  s.setCore c ((s.settled c).start
    ⟨path, port, (s.settled c).port 0x88, s.clock c, s.clock c + lat, writes, flags, trap,
      seenAt (s.distance c) lat, none⟩)

/-- A register of the module set to fields, all else as it was. -/
def Answers (o : Host.Outcome State Fault Refusal) (p : State → Prop) : Prop := ∃ t, o = .next t ∧ p t

/-- Nothing but one core differs. -/
def OnlyCore (s t : State) (c : Nat) : Prop := t = s.setCore c (t.core c)

/-- Nothing but CSRs differs. -/
def OnlyCsr (s t : State) : Prop := t = { s with csr := t.csr }

/-- The state as a trigger of a memory or request unit finds it: operations due have completed (R64, R65). -/
def State.atBundle (s : State) (c : Nat) : State := s.modCore c (fun k => k.settle (s.clock c))

/-- A trigger of a core may start its operation: the core runs, and once operations due have completed nothing is pending at its
boundary (R69, R114). -/
def State.ready (s : State) (c : Nat) : Prop := (s.atBundle c).boundaryClear c = true

/-- A bundle of a core may take effect, and a move of it may name a port: nothing is pending at the core's boundary (R114), and
the port does not trap (R54). -/
def State.takes (s : State) (c p : Nat) : Prop :=
  (s.atBundle c).boundaryClear c = true ∧ (s.atBundle c).portCause c p = none

/-- Nothing but cores differs, and no core's architected state but that of one. -/
def OnlyCachesBut (s t : State) (c : Nat) : Prop :=
  t.mem = s.mem ∧ t.pending = s.pending ∧ t.out = s.out ∧ ∀ d, d ≠ c → (t.core d).arch = (s.core d).arch

/-- The architected state of a core is as it was, but for ipend, in which a recorded event may set a line (R124, R449). -/
def Core.sameArch (k k' : Core) : Prop :=
  { k'.arch with ports := k.arch.ports } = k.arch ∧ ∀ p, p ≠ 0xB0 → k'.port p = k.port p

/-- The same of every core. -/
def SameArchs (s t : State) : Prop := ∀ d, (s.core d).sameArch (t.core d)

/-- Memory after bytes are stored from an address upwards: those bytes, and every other byte as it was. -/
def StoredBytes (m m' : List Host.Cell) (pa n : Nat) (v : Nat → Byte) : Prop :=
  ∀ a, memGet m' a = if pa ≤ a ∧ a < pa + n then v (a - pa) else memGet m a

/-- Byte i of a little-endian word. -/
def byteAt (w : Word) (i : Nat) : Byte := BitVec.ofNat 8 (w.toNat / 2 ^ (8 * i))

/-- A link is UP with nothing of its own waiting, and window and credit for one more DATA frame (R257, R260). -/
def State.canSend (s : State) (l cls len : Nat) : Prop :=
  s.lstate l = 5 ∧ s.laneMayRun l = true ∧ (s.link l).work = [] ∧ (s.link l).replaying = [] ∧ (s.link l).unacked.length < 4096
    ∧ (s.link l).held + 12 + len ≤ 131072 ∧ (s.link l).credit cls len = true

/-- One DATA frame has gone out on a link's lane, in the class of its message's type, with a message of a session. -/
def Sends (s t : State) (l typ ssess : Nat) : Prop :=
  ∃ f, t.out = s.onWire l f :: s.out ∧ f.typ = 0 ∧ f.cls = mtClass typ ∧ msgType f.payload = typ
    ∧ msgSsess f.payload = ssess

/-- An SES command has ended with a RESULT (R272). -/
def SesEnded (t : State) (res : Nat) : Prop :=
  t.fld SES_CMDSTAT SES_CMDSTAT.BUSY = 0 ∧ t.fld SES_CMDSTAT SES_CMDSTAT.DONE = 1
    ∧ t.fld SES_CMDSTAT SES_CMDSTAT.RESULT = res ∧ t.sesBusy = none

end Sys2Proof.Machine
end

