-- ==== Sys2Proof/Certificates/Slice0/Obligations.lean ====
section
/-!
DEFINITION. The statements about the module.
-/

open Sys2Proof Sys2Proof.Machine Sys2Proof.Csr

/-! The queue -/

/-- Every command, whatever the state: with it in front of the queue, a step carries it out on the state with the queue's rest.
With none waiting, one hc passes (the model's choice, log entry 1). -/
def Obligations.StepRunsTheCommandInFront : Prop :=
  ∀ (s : State),
    (∀ (c : Instr) (rest : List Instr), s.pending = c :: rest → step s = exec c { s with pending := rest })
    ∧ (s.pending = [] → step s = .next s.tick)

/-! Fixed-latency units (R72-R74, R91-R111) -/

/-- From R72 and R91 for the alus: each trigger puts one operation in flight that writes the alu's result 1 cc later; add and sub wrap
and set no flag, the .o forms set OV exactly where the signed result is not exact. -/
def Obligations.AluTriggersComputeAsR72Gives : Prop :=
  ∀ (s : State) (c : CoreId) (u : Fin 4) (b : Word), s.ready c.val → (c.val < 80 ∨ u.val < 2) →
    let base := 0x100 + 0x20 * u.val
    let a := (s.settled c.val).port base
    let done (off : Nat) (r flags : Word) : Host.Outcome State Fault Refusal :=
      .next (s.withOp c.val base (base + off) 1 [(base + 1, r)] flags none)
    let ov (exact : Int) (r : Word) : Word := if r.toInt = exact then 0 else 4
    exec (.aluAddSub c u false b) s = done 0x08 (a + b) 0
    ∧ exec (.aluAddSub c u true b) s = done 0x09 (a - b) 0
    ∧ exec (.aluAddSubO c u false b) s = done 0x0A (a + b) (ov (a.toInt + b.toInt) (a + b))
    ∧ exec (.aluAddSubO c u true b) s = done 0x0B (a - b) (ov (a.toInt - b.toInt) (a - b))
    ∧ exec (.aluBitwise c u .and b) s = done 0x0C (a &&& b) 0
    ∧ exec (.aluBitwise c u .or b) s = done 0x0D (a ||| b) 0
    ∧ exec (.aluBitwise c u .xor b) s = done 0x0E (a ^^^ b) 0
    ∧ exec (.aluBitwise c u .andn b) s = done 0x0F (a &&& ~~~b) 0
    ∧ exec (.aluMinMax c u .min b) s = done 0x10 (if a.toInt ≤ b.toInt then a else b) 0
    ∧ exec (.aluMinMax c u .max b) s = done 0x11 (if a.toInt ≤ b.toInt then b else a) 0
    ∧ exec (.aluMinMax c u .minu b) s = done 0x12 (if a.toNat ≤ b.toNat then a else b) 0
    ∧ exec (.aluMinMax c u .maxu b) s = done 0x13 (if a.toNat ≤ b.toNat then b else a) 0
    ∧ exec (.aluMov c u b) s = done 0x14 b 0

/-- From R72 and R482 for sh: shifts and rotates by b[5:0], fields of sh.f, counts; a field that reaches past bit 63 reads zeros there
and is inserted only up to bit 63. The field is bits p to p + n - 1, with p and n from sh.f. -/
def Obligations.ShTriggersComputeAsR72AndR482Give : Prop :=
  ∀ (s : State) (c : CoreId) (b : Word), s.ready c.val →
    let a := (s.settled c.val).port 0x180
    let f := ((s.settled c.val).port 0x181).toNat
    let p := f % 64
    let n := f / 256 % 64 + 1
    let m := b.toNat % 64
    let started (off : Nat) (r : Word) : State := s.withOp c.val 0x180 (0x180 + off) 1 [(0x182, r)] 0 none
    exec (.shShift c .shl b) s = .next (started 0x08 (a <<< m))
    ∧ exec (.shShift c .shr b) s = .next (started 0x09 (a >>> m))
    ∧ exec (.shShift c .sar b) s = .next (started 0x0A (a.sshiftRight m))
    ∧ exec (.shShift c .rol b) s = .next (started 0x0B (a.rotateLeft m))
    ∧ exec (.shShift c .ror b) s = .next (started 0x0C (a.rotateRight m))
    ∧ (∃ r, exec (.shExtract c false b) s = .next (started 0x0D r)
        ∧ ∀ i, r.getLsbD i = (decide (i < n) && b.getLsbD (p + i)))
    ∧ (∃ r, exec (.shExtract c true b) s = .next (started 0x0E r)
        ∧ ∀ i, i < 64 → r.getLsbD i = if i < n then b.getLsbD (p + i) else b.getLsbD (p + n - 1))
    ∧ (∃ r, exec (.shInsert c b) s = .next (started 0x0F r)
        ∧ ∀ i, i < 64 → r.getLsbD i = if p ≤ i ∧ i < p + n then b.getLsbD (i - p) else a.getLsbD i)
    ∧ (∃ r, exec (.shCount c .clz b) s = .next (started 0x10 r)
        ∧ r.toNat ≤ 64 ∧ b.toNat < 2 ^ (64 - r.toNat) ∧ (r.toNat < 64 → 2 ^ (63 - r.toNat) ≤ b.toNat))
    ∧ (∃ r, exec (.shCount c .ctz b) s = .next (started 0x11 r)
        ∧ r.toNat ≤ 64 ∧ (∀ i, i < r.toNat → b.getLsbD i = false) ∧ (r.toNat < 64 → b.getLsbD r.toNat = true))
    ∧ exec (.shCount c .pop b) s = .next (started 0x12 (Word.ofNat ((List.range 64).countP (fun i => b.getLsbD i))))
    ∧ (∃ r, exec (.shCount c .bswap b) s = .next (started 0x13 r)
        ∧ ∀ i, i < 64 → r.getLsbD i = b.getLsbD (8 * (7 - i / 8) + i % 8))

/-- From R72 and R73 for cmp: cmp.res, and the predicate that cmp.pd names, receive 1 where the condition holds, else 0. -/
def Obligations.CmpTriggersWriteResultAndPredicate : Prop :=
  ∀ (s : State) (c : CoreId) (b : Word), s.ready c.val →
    let a := (s.settled c.val).port 0x1A0
    let pd := ((s.settled c.val).port 0x1A1).toNat % 8
    let done (off : Nat) (h : Bool) : Host.Outcome State Fault Refusal :=
      .next (s.withOp c.val 0x1A0 (0x1A0 + off) 1
        ((0x1A2, if h then 1 else 0) :: if pd = 0 then [] else [(0x80 + pd, if h then 1 else 0)]) 0 none)
    exec (.cmpCompare c .eq b) s = done 0x08 (decide (a = b))
    ∧ exec (.cmpCompare c .ne b) s = done 0x09 (decide (a ≠ b))
    ∧ exec (.cmpCompare c .lt b) s = done 0x0A (decide (a.toInt < b.toInt))
    ∧ exec (.cmpCompare c .le b) s = done 0x0B (decide (a.toInt ≤ b.toInt))
    ∧ exec (.cmpCompare c .ltu b) s = done 0x0C (decide (a.toNat < b.toNat))
    ∧ exec (.cmpCompare c .leu b) s = done 0x0D (decide (a.toNat ≤ b.toNat))
    ∧ exec (.cmpCompare c .tst b) s = done 0x0E (decide (a &&& b ≠ 0))
    ∧ exec (.cmpCompare c .ntst b) s = done 0x0F (decide (a &&& b = 0))

/-- From R72 and R91 for mul: the low or the high half of the product goes to the mx register that mul.d selects, 4 cc later; mul.t.o
sets OV where the signed product lies outside -2^63 to 2^63 - 1, and its result wraps all the same. -/
def Obligations.MulTriggersComputeAsR91Gives : Prop :=
  ∀ (s : State) (c : CoreId) (b : Word), s.ready c.val →
    let a := (s.settled c.val).port 0x2A0
    let d := 0x90 + ((s.settled c.val).port 0x2A1).toNat % 4
    let done (off : Nat) (r flags : Word) : Host.Outcome State Fault Refusal :=
      .next (s.withOp c.val 0x2A0 (0x2A0 + off) 4 [(d, r)] flags none)
    let p := a.toInt * b.toInt
    exec (.mul c .lo b) s = done 0x08 (BitVec.ofInt 64 p) 0
    ∧ exec (.mul c .hs b) s = done 0x09 (BitVec.ofInt 64 (p / 2 ^ 64)) 0
    ∧ exec (.mul c .hu b) s = done 0x0A (BitVec.ofNat 64 (a.toNat * b.toNat / 2 ^ 64)) 0
    ∧ exec (.mulO c b) s = done 0x0B (BitVec.ofInt 64 p) (if -(2 ^ 63) ≤ p ∧ p ≤ 2 ^ 63 - 1 then 0 else 4)

/-- From R92 to R94 for div. With DZ_TE 1 a divisor of 0 raises INT-DIVIDE-BY-ZERO and nothing else happens but that operations due
complete; else the division starts and abandons one in progress, with the results of R92 and the edge rows of R93. -/
def Obligations.DivTriggersComputeAsR92ToR94Give : Prop :=
  ∀ (s : State) (c : CoreId) (b : Word), s.ready c.val →
    let k := s.settled c.val
    let a := k.port 0x2C0
    let dzTe := (k.port 0x8C).getLsbD 4
    let done (off : Nat) (q r flags : Word) : Host.Outcome State Fault Refusal :=
      .next (s.withOp c.val 0x2C0 (0x2C0 + off) 26 [(0x94, q), (0x95, r)] flags none)
    let traps : Host.Outcome State Fault Refusal :=
      .next (s.setCore c.val { k with exc := some (plainExc 0x31 0 0) })
    (b ≠ 0 → a ≠ 0x8000000000000000 ∨ b ≠ 0xFFFFFFFFFFFFFFFF → exec (.divS c b) s
      = done 8 (BitVec.ofInt 64 (a.toInt.tdiv b.toInt)) (BitVec.ofInt 64 (a.toInt.tmod b.toInt)) 0)
    ∧ (a = 0x8000000000000000 → b = 0xFFFFFFFFFFFFFFFF → exec (.divS c b) s = done 8 a 0 4)
    ∧ (b = 0 → dzTe = false → exec (.divS c b) s = done 8 0 a 8)
    ∧ (b = 0 → dzTe = true → exec (.divS c b) s = traps)
    ∧ (b ≠ 0 → exec (.divU c b) s = done 9 (BitVec.ofNat 64 (a.toNat / b.toNat)) (BitVec.ofNat 64 (a.toNat % b.toNat)) 0)
    ∧ (b = 0 → dzTe = false → exec (.divU c b) s = done 9 0 a 8)
    ∧ (b = 0 → dzTe = true → exec (.divU c b) s = traps)

/-- From R74, R95 and R104 for the fpus: each trigger puts one operation in flight on its pipe or, for div and sqrt, on the divide
path, with the latency of R74; it writes the fx register that fpu.d selects with the result of the format's operation, sets its
IEEE flags, and completes with a trap of cause 0x40 where a flag raised is enabled in FP_TE. -/
def Obligations.FpTriggersStartOneOperation : Prop :=
  ∀ (s : State) (c : CoreId) (u : Fin 2) (f : Fmt) (x : Bool) (b : Word), s.ready c.val → c.val < 80 →
    let base := 0x300 + 0x40 * u.val
    let k := s.settled c.val
    let st := k.port 0x8C
    let a := k.port base
    let third := k.port (base + 1)
    let d := 0x96 + (k.port (base + 2)).toNat % 4
    let ctl := fpCtl st
    let trap (fl : Nat) : Option (Nat × Nat) := if fl &&& (st.toNat / 2 ^ 17 % 32) ≠ 0 then some (0x40, fl % 32) else none
    let done (path off lat : Nat) (r : FRes) : Host.Outcome State Fault Refusal :=
      .next (s.withOp c.val path (base + (match f with | .d => 0x10 | .s => 0x20) + off) lat [(d, r.1)]
        (Word.ofNat (r.2 % 32 * 64)) (trap r.2))
    exec (.fpAddSub c u f x b) s = done base (if x then 1 else 0) 4 (fpAdd f ctl x a b)
    ∧ exec (.fpMul c u f b) s = done base 2 4 (fpMul f ctl a b)
    ∧ exec (.fpFma c u f x b) s = done base (if x then 4 else 3) 5 (fpFma f ctl x a b third)
    ∧ exec (.fpDiv c u f b) s = done (base + 1) 5 (match f with | .d => 22 | .s => 14) (fpDiv f ctl a b)
    ∧ exec (.fpSqrt c u f b) s = done (base + 1) 6 (match f with | .d => 26 | .s => 16) (fpSqrt f ctl b)
    ∧ exec (.fpMinMax c u f x b) s = done base (if x then 8 else 7) 4 (fpMinMax f ctl x a b)
    ∧ exec (.fpCompare c u f .eq b) s = done base 9 4 (fpCmp f ctl .eq a b)
    ∧ exec (.fpCompare c u f .lt b) s = done base 10 4 (fpCmp f ctl .lt a b)
    ∧ exec (.fpCompare c u f .le b) s = done base 11 4 (fpCmp f ctl .le a b)
    ∧ exec (.fpCvti c u f b) s = done base 12 4 (fpToInt f ctl b)
    ∧ exec (.fpCvtf c u f b) s = done base 13 4 (fpFromInt f ctl b)
    ∧ exec (.fpCvtx c u f b) s = done base 14 4 (fpConvert f ctl b)

/-- From R107 to R111 for dec: operands of 31 digits with a sign nibble; a sum or difference is exact, cut to 31 digits with DOV, its
sign that of the exact result; an invalid nibble makes the operation complete with a data exception (cause 0x41) that names the
first one in the order of R109; the latency follows the operands' significant digits. -/
def Obligations.DecTriggersComputeAsR107ToR111Give : Prop :=
  ∀ (s : State) (c : CoreId) (sub : Bool) (b : Word), s.ready c.val → c.val < 80 →
    let k := s.settled c.val
    let x := (k.port 0x380).toNat * 2 ^ 64 + (k.port 0x381).toNat
    let y := (k.port 0x382).toNat * 2 ^ 64 + b.toNat
    let nibble (z i : Nat) : Nat := z / 16 ^ i % 16
    let valid (z i : Nat) : Bool := if i = 0 then decide (10 ≤ nibble z 0) else decide (nibble z i ≤ 9)
    let magnitude (z : Nat) : Nat := ((List.range 31).map (fun i => nibble z (i + 1) * 10 ^ i)).sum
    let value (z : Nat) : Int := if nibble z 0 = 11 ∨ nibble z 0 = 13 then -(magnitude z : Int) else magnitude z
    let exact : Int := if sub then value x - value y else value x + value y
    let sig (z n : Nat) : Prop := z / 16 ^ (n + 1) = 0 ∧ (n = 0 ∨ nibble z n ≠ 0)
    let lat (n : Nat) : Nat := if n ≤ 15 then 6 else if n ≤ 23 then 12 else 18
    let done (off l : Nat) (h lo flags : Word) : State :=
      s.withOp c.val 0x380 (0x380 + off) l [(0x383, h), (0x384, lo)] flags none
    let traps (off l detail : Nat) : State :=
      s.withOp c.val 0x380 (0x380 + off) l [(0x383, 0), (0x384, 0)] 0 (some (0x41, detail))
    let addOff := if sub then 9 else 8
    ∀ n m : Nat, n ≤ 31 → m ≤ 31 → sig x n → sig y m →
      ((∀ i, i < 32 → valid x i = true) → (∀ i, i < 32 → valid y i = true) →
        ∃ h lo : Word, exec (.decAddSub c sub b) s
            = .next (done addOff (lat (max n m)) h lo (if 10 ^ 31 ≤ exact.natAbs then 0x20 else 0))
          ∧ let z := h.toNat * 2 ^ 64 + lo.toNat
            (∀ i, i < 32 → valid z i = true) ∧ magnitude z = exact.natAbs % 10 ^ 31
            ∧ nibble z 0 = if exact < 0 then 13 else 12)
      ∧ (∀ i, i < 32 → valid x i = false → (∀ j, j < i → valid x j = true) →
        exec (.decAddSub c sub b) s = .next (traps addOff (lat (max n m)) (0x20 + 128 * i)))
      ∧ (∀ i, i < 32 → (∀ j, j < 32 → valid x j = true) → valid y i = false → (∀ j, j < i → valid y j = true) →
        exec (.decAddSub c sub b) s = .next (traps addOff (lat (max n m)) (0x60 + 128 * i)))
      ∧ ((∀ i, i < 32 → valid y i = true) → exec (.decChk c b) s = .next (done 10 (lat m) (k.port 0x382) b 0))
      ∧ (∀ i, i < 32 → valid y i = false → (∀ j, j < i → valid y j = true) →
        exec (.decChk c b) s = .next (traps 10 (lat m) (0x60 + 128 * i)))

/-- From R83: a headworks core has no alu2, alu3, fpu or dec; a move to one of their triggers raises a PORT-TRAP of cause 1,
RESERVED-PORT, once operations due have completed, and nothing else happens. -/
def Obligations.HeadworksCoresTrapOnAbsentUnits : Prop :=
  ∀ (s : State) (c : CoreId) (u : Fin 4) (v : Fin 2) (f : Fmt) (x : Bool) (b : Word),
    s.ready c.val → 80 ≤ c.val → 2 ≤ u.val →
    let k := s.settled c.val
    let trapped : Host.Outcome State Fault Refusal :=
      .next (s.setCore c.val { k with exc := some (plainExc 0x10 1 0) })
    (∀ op, exec (.aluMinMax c u op b) s = trapped) ∧ (∀ op, exec (.aluBitwise c u op b) s = trapped)
    ∧ exec (.aluAddSub c u x b) s = trapped ∧ exec (.aluAddSubO c u x b) s = trapped ∧ exec (.aluMov c u b) s = trapped
    ∧ exec (.fpAddSub c v f x b) s = trapped ∧ exec (.fpMul c v f b) s = trapped ∧ exec (.fpFma c v f x b) s = trapped
    ∧ exec (.fpDiv c v f b) s = trapped ∧ exec (.fpSqrt c v f b) s = trapped ∧ exec (.fpMinMax c v f x b) s = trapped
    ∧ (∀ op, exec (.fpCompare c v f op b) s = trapped) ∧ exec (.fpCvti c v f b) s = trapped
    ∧ exec (.fpCvtf c v f b) s = trapped ∧ exec (.fpCvtx c v f b) s = trapped
    ∧ exec (.decAddSub c x b) s = trapped ∧ exec (.decChk c b) s = trapped

/-- From R65, R69, R70, R80 and R154 for completions. OPERATION_COMPLETE of the operation that completes first: the core's clock
reaches its completion, its flags accrue in status, and its ports hold its results (0 where they are poisoned); a group member's reads
see them only from its issue distance on; where it traps they are not written and the trap has arisen. LOAD_DATA_ARRIVAL: the oldest
value outstanding for a port is stored, on a main core unless a newer one is outstanding, and marks the port where it is poisoned.
FENCE_COMPLETE: the oldest fence whose accesses are performed is over and its results read 0, and a trap return that waited for the last
is made (R82). Otherwise each changes one core alone. -/
def Obligations.CompletionsDeliverResults : Prop :=
  ∀ (s : State) (c : CoreId),
    let k := s.core c.val
    (∀ (o : Op) (rest : List Op), k.inflight = o :: rest → k.hidden = [] →
      ∃ t, exec (.operationComplete c) s = .next t ∧ OnlyCore s t c.val ∧ (t.core c.val).inflight = rest
        ∧ (t.core c.val).cc = max k.cc o.due
        ∧ let flagged (p : Nat) : Word := if p = 0x8C then k.port p ||| o.flags else k.port p
          let value (v : Word) : Word := if o.seen = 0 ∧ o.poison.isSome = true then 0 else v
          (o.trap = none → (t.core c.val).ctraps = k.ctraps
            ∧ (o.seen ≤ k.dist → (t.core c.val).hidden = [] ∧ ∀ p, (t.core c.val).port p
                = ((o.writes.reverse.find? (fun w => w.1 == p)).map (fun w => value w.2)).getD (flagged p))
            ∧ (k.dist < o.seen → (t.core c.val).hidden = [(o.seen, o.writes)] ∧ ∀ p, (t.core c.val).port p = flagged p))
        ∧ (∀ cause detail, o.trap = some (cause, detail) → (∀ p, (t.core c.val).port p = flagged p)
            ∧ (t.core c.val).ctraps = insertTrap k.ctraps ⟨cause, detail, o.port, o.bundle, o.issued⟩))
    ∧ (∀ (p : BitVec 12) (a : Await) (l m : List Await), k.awaits = l ++ a :: m → a.port = p.toNat →
        interlockedPorts.contains p.toNat = true → (∀ x ∈ l, x.port ≠ p.toNat) →
        (p.toNat = 0x3A4 ∨ p.toNat = 0x3A5 → k.fences = []) → (p.toNat = 0x3C2 → k.invq = []) →
        ∃ t, exec (.loadDataArrival c p) s = .next t ∧ OnlyCore s t c.val ∧ (t.core c.val).awaits = l ++ m
          ∧ (∀ q, q ≠ p.toNat → (t.core c.val).port q = k.port q)
          ∧ (80 ≤ c.val ∨ (∀ x ∈ m, x.port ≠ p.toNat) → (t.core c.val).port p.toNat = (if a.poison then 0 else a.value)
              ∧ (p.toNat ∈ (t.core c.val).arch.poison ↔ a.poison = true))
          ∧ (c.val < 80 → (∃ x ∈ m, x.port = p.toNat) → (t.core c.val).arch = k.arch))
    ∧ (∀ (f : FenceEnt) (pre post : List FenceEnt) (l : List Await), k.fences = pre ++ f :: post → k.awaits = l ++ fenceAwaits →
        (∀ x ∈ pre, s.fenceDone c.val x = false) → s.fenceDone c.val f = true → (∀ x ∈ l, x.port ≠ 0x3A4 ∧ x.port ≠ 0x3A5) →
        (k.returning = true → pre ++ post = [] → k.invq = [] → ∃ t, exec (.fenceComplete c) s = .next t ∧ (t.core c.val).returning = false)
        ∧ (k.returning = false → ∃ t, exec (.fenceComplete c) s = .next t ∧ OnlyCore s t c.val ∧ (t.core c.val).awaits = l
          ∧ (t.core c.val).fences.map FenceEnt.mask = (pre ++ post).map FenceEnt.mask
          ∧ (t.core c.val).port 0x3A4 = 0 ∧ (t.core c.val).port 0x3A5 = 0
          ∧ ∀ q, q ≠ 0x3A4 → q ≠ 0x3A5 → (t.core c.val).port q = k.port q))

/-! Bundles (R29-R52, R76, R77) -/

/-- From R45 to R49, R76 and R77 for control flow, in a bundle that may retire: a branch, br.t.call, br.t.rel and br.t.callrel set pc,
the calls lr too, end a repeat, and cost their bubbles; a repeat prefix with rc = n starts n iterations of the next bundle, or
skips it; nothing else of the core's ports changes. The cycles of 8 in which a throttled core issues nothing pass too (R394; the first of
them are the model's choice, log entry 86). -/
def Obligations.ControlMovesRedirectTheCore : Prop :=
  ∀ (s : State) (c : CoreId) (v : Word) (imm : Bool),
    let r := s.atBundle c.val
    let k := r.core c.val
    r.boundaryClear c.val = true → k.stall = none → r.retires c.val = true →
    let cost := 1 + (if imm || decide (80 ≤ c.val) then 1 else 3)
    let level := s.fld LEV_PSTAT LEV_PSTAT.THROTTLE
    let at_ (n : Nat) : Nat := if c.val < 80 then max n (n / 8 * 8 + level) else n
    let goes (i : Instr) (pc lr : Word) : Prop :=
      ∃ t, exec i s = .next t ∧ OnlyCachesBut s t c.val ∧ (t.core c.val).port 0x88 = pc ∧ (t.core c.val).port 0x89 = lr
        ∧ (∀ p, p ≠ 0x88 → p ≠ 0x89 → (t.core c.val).port p = k.port p) ∧ (t.core c.val).arch.repOn = false
        ∧ (t.core c.val).cc = at_ (k.cc + cost)
    (v.toNat % 32 = 0 → v ≠ 0xFFFFFFFFFFFFFFE0 → goes (.branch c v imm) v (k.port 0x89))
    ∧ (v.toNat % 32 = 0 → v ≠ 0xFFFFFFFFFFFFFFE0 → goes (.brCall c v imm) v (k.port 0x88 + 32))
    ∧ ((k.port 0x88).toNat % 32 = 0 → k.port 0x88 + 32 * v ≠ 0xFFFFFFFFFFFFFFE0 →
        goes (.brRel c v imm) (k.port 0x88 + 32 * v) (k.port 0x89)
        ∧ goes (.brCallrel c v imm) (k.port 0x88 + 32 * v) (k.port 0x88 + 32))
    ∧ (k.arch.repOn = false → let n := (k.port 0x8A).toNat % 2 ^ 32
        ∃ t, exec (.repeatPrefix c v) s = .next t ∧ OnlyCachesBut s t c.val
        ∧ (∀ p, p ≠ 0x88 → (t.core c.val).port p = k.port p)
        ∧ (t.core c.val).port 0x88 = (if n = 0 then k.port 0x88 + 64 else k.port 0x88 + 32)
        ∧ (t.core c.val).arch.repOn = decide (n ≠ 0) ∧ (n ≠ 0 → (t.core c.val).arch.rep = n) ∧ (t.core c.val).cc = at_ (k.cc + 1))

/-- From R29, R31, R34, R36 and R54 for a bundle at pc that holds one move of an immediate to a general register, outside a repeat: the
register takes the value under MODE where the guard holds and keeps its own where it does not, and pc moves to the next bundle. A
bundle that stalls is tried again at ISSUE_STALL_END, and stays as it is while what holds it up stands. -/
def Obligations.BundleOfOneMoveWritesItsRegister : Prop :=
  ∀ (s : State) (c : CoreId) (n : BitVec 16),
    let r := s.modCore c.val (fun k => (k.settle (s.clock c.val)).drainEvb)
    let k := r.core c.val
    let level := s.fld LEV_PSTAT LEV_PSTAT.THROTTLE
    let at_ (n : Nat) : Nat := if c.val < 80 then max n (n / 8 * 8 + level) else n
    (r.boundaryClear c.val = true → (s.core c.val).stall = none → r.retires c.val = true → k.arch.repOn = false →
      ∀ (u : State) (ws : List Nat) (slot guard dst mode : Nat) (v : Word), r.fetch c.val = .ok (u, ws) →
      movesOf ws = [⟨slot, guard, dst, mode, .value v true, false⟩] → dst < 0x80 →
      ∃ t, exec (.bundleIssue c) s = .next t ∧ OnlyCachesBut s t c.val
        ∧ (t.core c.val).port dst = (if k.guard guard then applyMode mode v else k.port dst)
        ∧ (t.core c.val).port 0x88 = k.port 0x88 + 32
        ∧ (∀ p, p ≠ dst → p ≠ 0x88 → (t.core c.val).port p = k.port p) ∧ (t.core c.val).cc = at_ (k.cc + 1))
    ∧ ((s.core c.val).stall ≠ none →
        let later := ((s.modCore c.val (fun k => { k with cc := k.cc + n.toNat })).throttled c.val).issueBundle c.val
        exec (.bundleIssue c) s = .next s
        ∧ ((later.core c.val).stall ≠ (s.core c.val).stall → exec (.issueStallEnd c n) s = .next later)
        ∧ ((later.core c.val).stall = (s.core c.val).stall → exec (.issueStallEnd c n) s = .next s))

/-! Traps (R112-R129) -/

/-- From R69, R117, R127, R128, R449 for a trap that the host handler takes and whose push succeeds, on a core whose stores are not held
back for comparison, of whose outputs to come no former group has performed any (R164), and (a main core) that awaits no fence or
invalidation, once the wait of R82 is over: the frame at F = hsp - 0x400 holds CAUSE, RESUME and status; hsp and lr become F, the host
depth count rises, HIE clears, MCA sets for a machine check, CLASS becomes 1, REP and the trap-return arming end, and pc becomes hvec plus
the offset of the table. COMPLETION_TRAP and ASYNC_MACHINE_CHECK take a condition of their own kind, TRAP_ENTRY the first of any. -/
def Obligations.HostTrapEntryFollowsR117 : Prop :=
  ∀ (s : State) (c : CoreId) (d : Cond), s.coreActive c.val s.mayEnter = true →
    let r := s.atBundle c.val
    r.nextCond c.val = some d → (r.core c.val).skip = 0 → (c.val < 80 → (s.core c.val).fences = [] ∧ (s.core c.val).invq = []) → s.guardedCore c.val = false → (∀ e ∈ (s.core c.val).sb, e.typ = 1) →
    let own := match d with | .comp _ => 1 | _ => 0
    let q := { r.core c.val with ctraps := (r.core c.val).ctraps.drop own }.quiet (decide (80 ≤ c.val))
    let tk := d.taking (q.port 0x88)
    let f := q.port 0xAA - 0x400
    q.hostTakes tk = true → (tk.machineCheck = true → bit (q.port 0xAF) 2 = false) →
    (q.port 0xAB).toNat ≤ f.toNat → bits (q.port 0xAF).toNat 8 8 < 255 → f.toNat < 2 ^ 48 →
    (s.rangeClass f.toNat = .normal ∨ s.rangeClass f.toNat = .scratch) → s.mayReach (s.masterOf c.val) f.toNat = true →
    ∃ t, exec (.trapEntry c) s = .next t
      ∧ ((∃ x, d = .comp x) → exec (.completionTrap c) s = .next t)
      ∧ (d = .async → exec (.asyncMachineCheck c) s = .next t)
      ∧ (t.core c.val).port 0x88 = q.port 0xA9 + Word.ofNat (vectorOffset true (!q.host) tk)
      ∧ (t.core c.val).port 0x89 = f ∧ (t.core c.val).port 0xAA = f
      ∧ bit ((t.core c.val).port 0x8C) 16 = true
      ∧ bits ((t.core c.val).port 0xAF).toNat 8 8 = bits (q.port 0xAF).toNat 8 8 + 1
      ∧ bit ((t.core c.val).port 0xAF) 0 = false
      ∧ bit ((t.core c.val).port 0xAF) 2 = (bit (q.port 0xAF) 2 || tk.machineCheck)
      ∧ (t.core c.val).arch.repOn = false ∧ (t.core c.val).exc = none
      ∧ (t.core c.val).cc = q.cc + (if c.val < 80 then 20 else 12)
      ∧ t.word f.toNat = tk.word ((q.port 0xB3).toNat % 4096) ∧ t.word (f.toNat + 8) = q.port 0x88
      ∧ t.word (f.toNat + 0x28) = q.status

/-- From R121 and R127 for a trap return of host class whose frame can be read: pc, lr, rc and the general state named come from the
frame, hsp rises by 0x400, the host depth count falls by 1, CLASS is the saved one (always 1 on a headworks core). With a fence or a TLB
invalidation outstanding the return waits, its bundle retired (R82). -/
def Obligations.HostTrapReturnFollowsR121 : Prop :=
  ∀ (s : State) (c : CoreId),
    let r := s.atBundle c.val
    let q := (r.core c.val).quiet (decide (80 ≤ c.val))
    r.boundaryClear c.val = true → (r.core c.val).stall = none → r.retires c.val = true → s.guardedCore c.val = false →
    (r.core c.val).host = true → q.host = true → bits ((r.core c.val).port 0xAF).toNat 8 8 ≠ 0 →
    let waits := (r.core c.val).entryWaits c.val
    (waits = true → ∃ t, exec (.trapReturn c) s = .next t ∧ (t.core c.val).returning = true ∧ t.mem = s.mem
      ∧ (t.core c.val).arch = (r.core c.val).arch)
    ∧ (waits = false →
    let f := (q.port 0xAA).toNat
    f < 2 ^ 48 → s.rangeClass f = .normal → s.mayReach (s.masterOf c.val) f = true → s.poisonedRange f 0x260 = false →
    let w (i : Nat) : Word := Word.ofNat (leNat (s.loadBytes c.val (f + 8 * i) 8))
    ∃ t, exec (.trapReturn c) s = .next t ∧ OnlyCachesBut s t c.val
      ∧ (t.core c.val).port 0x88 = (w 1 &&& ~~~ (0x1F : Word)) ∧ (t.core c.val).port 0x89 = w 6
      ∧ (t.core c.val).port 0x8A = w 7 ∧ (t.core c.val).port 0xAA = q.port 0xAA + 0x400
      ∧ bits ((t.core c.val).port 0xAF).toNat 8 8 = bits (q.port 0xAF).toNat 8 8 - 1
      ∧ bit ((t.core c.val).port 0xAF) 0 = bit (w 10) 0 ∧ bit ((t.core c.val).port 0xAF) 2 = bit (w 10) 2
      ∧ bit ((t.core c.val).port 0x8C) 16 = (decide (80 ≤ c.val) || bit (w 5) 16)
      ∧ (t.core c.val).arch.rep = (w 8).toNat % 2 ^ 32 ∧ (t.core c.val).arch.repOn = bit (w 8) 63
      ∧ (∀ n, n < 10 → (t.core c.val).port (0x90 + n) = w (12 + n))
      ∧ (t.core c.val).cc = q.cc + (if c.val < 80 then 24 else 14))

/-- From R81, R124, R126 and R155 for interrupts: an ipi to a line 2 to 9 of a core in service sets that line there (unless a
former group has performed it, R164), to any other line
has no effect; a block's line sets the line of a core whose island runs; a timer that counts reaches 0 and sets its line, in the
core, or for a member in its group's checker. -/
def Obligations.InterruptsSetTheirLines : Prop :=
  ∀ (s : State) (c : CoreId) (v : Word) (line : Fin 64) (n : Fin 2),
    let lineSet (u t : State) (d l : Nat) : Prop :=
      match u.groupOf d with
      | some g => ∃ x, x = u.group g ∧ t = u.setGroup g { x with ipend := setBit x.ipend l true }
      | none => OnlyCore u t d ∧ (t.core d).port 0xB0 = setBit ((u.core d).port 0xB0) l true
    (s.islandRuns (coreIsland c.val) = true →
      ∃ t, exec (.interruptLineSet c line) s = .next t ∧ lineSet s t c.val line.val)
    ∧ (s.groupOf c.val = none → (s.core c.val).port (0x8E + n.val) ≠ 0 →
      ∃ t, exec (.timerExpiry c n) s = .next t ∧ OnlyCore s t c.val ∧ (t.core c.val).port (0x8E + n.val) = 0
        ∧ bit ((t.core c.val).port 0xB0) n.val = true
        ∧ ∀ p, p ≠ 0x8E + n.val → p ≠ 0xB0 → (t.core c.val).port p = (s.core c.val).port p)
    ∧ (∀ g, s.groupOf c.val = some g → (if n.val = 0 then (s.group g).tmr0 else (s.group g).tmr1) ≠ 0 →
      ∃ t, exec (.timerExpiry c n) s = .next t ∧ t.cores = s.cores ∧ bit (t.group g).ipend n.val = true
        ∧ (if n.val = 0 then (t.group g).tmr0 else (t.group g).tmr1) = 0)
    ∧ (s.takes c.val 0xB4 → s.groupOf c.val = none →
        let d := v.toNat % 128
        let l := v.toNat / 256 % 64
        ((s.core c.val).skip = 0 → 2 ≤ l → l ≤ 9 → s.inService d = true → s.groupOf d = none → d ≠ c.val →
          ∃ t, exec (.ipi c v) s = .next t ∧ OnlyCachesBut (s.atBundle c.val) t d
            ∧ (t.core d).port 0xB0 = setBit ((s.core d).port 0xB0) l true)
        ∧ (l < 2 ∨ 9 < l → ∃ t, exec (.ipi c v) s = .next t ∧ t.csr = s.csr
            ∧ ∀ e, (t.core e).arch = ((s.atBundle c.val).core e).arch))

/-! Memory, maintenance and request units (R70-R81, R187, R218, R219, R275, R344, R368) -/

/-- From R70, R75, R78 and R79 for loads and stores of a core that is not in a group, with no DEVICE store of its own waiting. A load of
NORMAL or SCRATCH memory, where L2 has a way for its line, leaves its result outstanding for the v register that lsu.vsel selects: the
bytes as the core sees them, zero-extended or sign-extended, poisoned where they are. A store joins the core's queue, unless it is one
that the core's former group has performed (R164); of NORMAL memory, it is performed from there in order, and changes the bytes of its
width alone, and of the registers only the core's cache counters. A misaligned access raises DATA-ACCESS, subtype ALIGN, instead. -/
def Obligations.LoadsAndStoresFollowR75 : Prop :=
  ∀ (s : State) (c : CoreId) (u : Fin 2) (ld : LdOp) (st : StOp) (b : Word) (pa : Nat),
    let base := 0x200 + 0x40 * u.val
    let r := s.atBundle c.val
    let k := r.core c.val
    let va := k.port base + b
    let n := (ldShape ld).1
    let m := match st with | .st8 => 1 | .st16 => 2 | .st32 => 4 | .st64 => 8
    let v := base + 4 + (k.port (base + 2)).toNat % 4
    let stop (p sub : Nat) : State :=
      (r.modCore c.val (fun k => { k with stall := none })).raise c.val ⟨0x21, sub, 0, p, va, 0, [], false⟩
    c.val < 80 → s.groupOf c.val = none → k.fences = [] →
    (s.takes c.val (base + ldOff ld) → va.toNat % n = 0 → k.sb.all (fun e => e.typ != 3) = true →
      r.dataAddr c.val va .read 0 (base + ldOff ld) accRead = .ok pa → s.rangeClass pa ≠ .device → r.noWayFor c.val pa = false →
      ∃ t, exec (.lsuLoad c u ld b) s = .next t ∧ OnlyCachesBut s t c.val ∧ (t.core c.val).arch = k.arch
        ∧ (t.core c.val).sb = k.sb
        ∧ (t.core c.val).awaits = k.awaits
            ++ [⟨v, extendLd (ldShape ld) (Word.ofNat (leNat (r.loadBytes c.val pa n))), r.loadPoison c.val pa n, pa⟩])
    ∧ (s.takes c.val (base + ldOff ld) → va.toNat % n ≠ 0 → exec (.lsuLoad c u ld b) s = .next (stop (base + ldOff ld) 1))
    ∧ (s.takes c.val (base + stOff st) → va.toNat % m = 0 → k.sb.length < 32 →
      r.dataAddr c.val va .write 0 (base + stOff st) accWrite = .ok pa →
      ∃ t, exec (.lsuStore c u st b) s = .next t ∧ OnlyCachesBut s t c.val ∧ (t.core c.val).arch = k.arch
        ∧ (t.core c.val).awaits = k.awaits
        ∧ (t.core c.val).sb = k.sb ++ [⟨if s.rangeClass pa = .device then 3 else 1, pa, m,
            Word.ofNat ((k.port (base + 1)).toNat % 2 ^ (8 * m)), false⟩].drop k.skip ∧ (t.core c.val).skip = k.skip - 1)
    ∧ (s.takes c.val (base + stOff st) → va.toNat % m ≠ 0 → exec (.lsuStore c u st b) s = .next (stop (base + stOff st) 1))
    ∧ (∀ (e : StoreEnt) (rest : List StoreEnt), (s.core c.val).sb = e :: rest → e.typ = 1 → e.width ≠ 256 →
        s.storeWaits c.val e = false →
      ∃ t, exec (.storePerformed c) s = .next t ∧ StoredBytes s.mem t.mem e.addr e.width (byteAt e.data)
        ∧ t.out = s.out ∧ (∀ q, q ≠ CAC_CCNT c.val → t.rd q = s.rd q) ∧ (t.core c.val).sb = rest
        ∧ ∀ d, (t.core d).arch = (s.core d).arch)

/-- From R78, R79 and R85 for a headworks core: a store to its own cistern bank is performed at once, after every earlier store, a load
from it takes 3 cc as a fixed-latency operation. -/
def Obligations.HeadworksCoresReachTheirBankAtOnce : Prop :=
  ∀ (s : State) (c : CoreId) (ld : LdOp) (st : StOp) (b : Word),
    let r := s.atBundle c.val
    let k := r.core c.val
    let va := k.port 0x200 + b
    let n := (ldShape ld).1
    let m := match st with | .st8 => 1 | .st16 => 2 | .st32 => 4 | .st64 => 8
    80 ≤ c.val → 0x10007800000 ≤ va.toNat → va.toNat < 0x10008000000 → s.mayReach (.headworks c.val) va.toNat = true →
    (s.takes c.val (0x200 + stOff st) → va.toNat % m = 0 →
      ∃ t, exec (.lsuStore c 0 st b) s = .next t ∧ StoredBytes (r.drain c.val).mem t.mem va.toNat m (byteAt (k.port 0x201))
        ∧ (t.core c.val).sb = [] ∧ (t.core c.val).arch = k.arch ∧ (k.sb = [] → t.csr = s.csr ∧ t.out = s.out))
    ∧ (s.takes c.val (0x200 + ldOff ld) → va.toNat % n = 0 → k.sb.all (fun e => e.typ != 3) = true →
      ∃ t, exec (.lsuLoad c 0 ld b) s = .next t ∧ t.mem = s.mem ∧ (t.core c.val).arch = k.arch
        ∧ (t.core c.val).inflight = insertOp k.inflight ⟨0x200, 0x200 + ldOff ld, k.port 0x88, s.clock c.val, s.clock c.val + 3,
            [(0x204 + (k.port 0x202).toNat % 4, extendLd (ldShape ld) (Word.ofNat (leNat (r.loadBytes c.val va.toNat n))))], 0, none, 0,
            if r.loadPoison c.val va.toNat n then some va.toNat else none⟩)

/-- From R75 and R79 for the atomics of a core that is not in a group, of a line that need not wait for maintenance or for a way of L2, and
whose result no former group's checker has kept (R156): every earlier store is performed, the old value is outstanding for
atom.res (and atom.resh), and memory holds the new value of the operation, or is unchanged where a comparison fails. -/
def Obligations.AtomicsReadAndModify : Prop :=
  ∀ (s : State) (c : CoreId) (b : Word) (pa : Nat),
    let r := s.atBundle c.val
    let k := r.core c.val
    let va := k.port 0x3A0
    let q := r.drain c.val
    let old := q.word pa
    let cmp := k.port 0x3A1
    s.groupOf c.val = none → (c.val < 80 → k.fences = [] ∧ (k.inL1D pa = false → k.fillWaits (pa / 256) = false)) →
    (∀ e ∈ k.sb, e.typ = 1) → q.poisonedRange pa 16 = false →
    let swaps (i : Instr) (p : Nat) (new : Word) (when_ : Prop) : Prop :=
      s.takes c.val p → k.kept.find p = none → r.dataAddr c.val va .write 0 p accAtomic = .ok pa → s.rangeClass pa = .normal → va.toNat % 8 = 0 →
      ∃ t, exec i s = .next t ∧ (t.core c.val).arch = k.arch ∧ (t.core c.val).awaits = k.awaits ++ [⟨0x3A4, old, false, pa⟩]
        ∧ (when_ → StoredBytes q.mem t.mem pa 8 (byteAt new)) ∧ (¬ when_ → t.mem = q.mem)
    swaps (.atomCas64 c b) 0x3A8 b (old = cmp) ∧ swaps (.atomSwp64 c b) 0x3A9 b True ∧ swaps (.atomAdd64 c b) 0x3AA (old + b) True
    ∧ swaps (.atomAnd64 c b) 0x3AB (old &&& b) True ∧ swaps (.atomOr64 c b) 0x3AC (old ||| b) True
    ∧ (s.takes c.val 0x3AD → k.kept.find 0x3AD = none → r.dataAddr c.val va .write 0 0x3AD accAtomic = .ok pa → s.rangeClass pa = .normal →
        va.toNat % 16 = 0 →
        ∃ t, exec (.atomCas128 c b) s = .next t ∧ (t.core c.val).arch = k.arch
          ∧ (t.core c.val).awaits = k.awaits ++ [⟨0x3A4, old, false, pa⟩, ⟨0x3A5, q.word (pa + 8), false, pa⟩]
          ∧ (old = cmp → q.word (pa + 8) = k.port 0x3A2 →
              StoredBytes q.mem t.mem pa 16 (fun i => if i < 8 then byteAt b i else byteAt (k.port 0x3A3) (i - 8)))
          ∧ (old ≠ cmp ∨ q.word (pa + 8) ≠ k.port 0x3A2 → t.mem = q.mem))

/-- From R80: a fence of a core that is not in a group is outstanding for atom.res and atom.resh until what its mask names is done; a mask
of 0 leaves both 0 at once. It changes nothing else. -/
def Obligations.FencesWaitForWhatTheirMaskNames : Prop :=
  ∀ (s : State) (c : CoreId) (b : Word),
    let r := s.atBundle c.val
    let k := r.core c.val
    s.takes c.val 0x3B0 → s.groupOf c.val = none → (c.val < 80 → k.fences = []) →
    (b.toNat % 16 ≠ 0 → ∃ t, exec (.atomFence c b) s = .next t ∧ OnlyCore s t c.val ∧ (t.core c.val).fences = k.fences ++ [⟨b, k.sb.length, k.awaits, k.cmq⟩]
      ∧ (t.core c.val).awaits = k.awaits ++ [⟨0x3A4, 0, false, 0⟩, ⟨0x3A5, 0, false, 0⟩] ∧ (t.core c.val).arch = k.arch)
    ∧ (b.toNat % 16 = 0 → (∀ a ∈ k.awaits, a.port ≠ 0x3A4 ∧ a.port ≠ 0x3A5) →
      ∃ t, exec (.atomFence c b) s = .next t ∧ OnlyCore s t c.val ∧ (t.core c.val).awaits = k.awaits
        ∧ (t.core c.val).port 0x3A4 = 0 ∧ (t.core c.val).port 0x3A5 = 0
        ∧ ∀ p, p ≠ 0x3A4 → p ≠ 0x3A5 → (t.core c.val).port p = k.port p)

/-- From R200 to R203, R218 and R219 for probes and invalidations of a core that is not in a group. A probe that needs no walk leaves its
result outstanding for xlt.res: for an untranslated address R, W, X and the address itself. An invalidation removes from the
TLBs of every core the entries it names (of one address, of one tag, or all) and leaves 0 outstanding until it completes. -/
def Obligations.ProbesAndInvalidationsFollowR218AndR219 : Prop :=
  ∀ (s : State) (c : CoreId) (b v : Word),
    let r := s.atBundle c.val
    let k := r.core c.val
    s.groupOf c.val = none → k.walked = none → (∀ e ∈ k.sb, e.typ = 1) →
    let probes (i : Instr) (p : Nat) (kind : AccKind) : Prop :=
      s.takes c.val p → r.probeResult c.val b kind = some v →
      (r.untranslated c.val = true → b.toNat < 2 ^ 48 → v = Word.ofNat (b.toNat * 65536 + 14)) ∧
      ∃ t, exec i s = .next t ∧ OnlyCore s t c.val ∧ (t.core c.val).arch = k.arch
        ∧ (t.core c.val).awaits = k.awaits ++ [⟨0x3C2, v, false, 0⟩]
    let drops (i : Instr) (p : Nat) (gone : TlbEnt → Bool) : Prop :=
      s.takes c.val p →
      ∃ t, exec i s = .next t ∧ (t.core c.val).arch = k.arch
        ∧ (t.core c.val).awaits = k.awaits ++ [⟨0x3C2, 0, false, 0⟩]
        ∧ (t.core c.val).invq = k.invq ++ [⟨p, b, k.port 0x3C0, 0⟩]
        ∧ ∀ d, (t.core d).itlb = ((s.core d).itlb).filter (fun e => !gone e)
            ∧ (t.core d).dtlb = ((s.core d).dtlb).map (fun e => (e.1, e.2.filter (fun e => !gone e)))
    let tagOf (host : Bool) (a : Nat) : Option Nat := if host then none else some a
    probes (.xltProbeR c b) 0x3C8 .probeR ∧ probes (.xltProbeW c b) 0x3C9 .probeW
    ∧ drops (.xltInvVa c b) 0x3CA (fun e => decide (e.tag = tagOf (b.getLsbD 48) (b.toNat / 2 ^ 52)) &&
        (if e.group then decide (b.toNat % 2 ^ 48 / 2 ^ 20 = e.vpage / 16) else decide (b.toNat % 2 ^ 48 / 65536 = e.vpage)))
    ∧ drops (.xltInvCtx c b) 0x3CB (fun e => decide (e.tag = tagOf (b.getLsbD 0) ((k.port 0x3C0).toNat % 4096)))
    ∧ drops (.xltInvAll c b) 0x3CC (fun _ => true)

/-- From R192, R206 to R216, R219 and R220. The walk that a bundle stalls on, of a TABLED reach, after the array's check of an entry
that it reads: with a valid entry that permits the access, its marks are set in memory and the TLB holds an entry of the page that
maps it; where the tables refuse it, or 64 compare-and-swaps have failed, the bundle's exception is raised with the DETAIL word of
R216; a probe has its result, and a cm.t.pref that is refused is dropped. An invalidation that is not held back for comparison
completes in order and delivers 0 to xlt.res. -/
def Obligations.WalksAndInvalidationsEnd : Prop :=
  ∀ (s : State) (c : CoreId),
    (∀ (va : Word) (kind : AccKind) (slot port n : Nat) (fails : BitVec 7) (e : Ecc) (second : Bool),
      let host := (s.core c.val).host
      let reach := s.reach c.val host n
      let u := s.walkCheck c.val host va e second
      let w := (u.core c.val).settle (u.clock c.val)
      let done := exec (.tableWalk c fails e second) s
      let raises (f : XFault) : Prop := ∃ t, done = .next t ∧ t.mem = s.mem ∧ (t.core c.val).stall = none
        ∧ (t.core c.val).exc = some (if kind = .fetch then ⟨0x20, 3, 0, 0, va, detailWord f kind host, [], false⟩
            else ⟨0x21, 3, slot, port, va, detailWord f kind host, [], false⟩)
        ∧ (if (s.core c.val).reads.any (fun e => w.early false e.2) then w.accrue 1 else w).sameArch (t.core c.val)
        ∧ ∀ d, d ≠ c.val → (s.core d).sameArch (t.core d)
      let quiet (t : State) : Prop := done = .next t ∧ t.mem = s.mem ∧ SameArchs s t
        ∧ (t.core c.val).stall = (s.core c.val).stall ∧ (t.core c.val).exc = (s.core c.val).exc
      (s.core c.val).stall = some (.walk va kind slot port) → c.val < 80 → selectReach (s.reach c.val host) va.toNat = some n →
      XLT_GREACH.TYPE.get reach ≠ 1 →
      (kind = .read ∨ kind = .write ∨ kind = .fetch →
        (∀ x a2, u.walkTables reach n va.toNat kind = .inl (x, a2) → s.setsMarks c.val = true → fails.toNat < 64 →
          ∃ t, done = .next t
            ∧ StoredBytes s.mem t.mem a2 8 (fun i => BitVec.ofNat 8 (marked x kind / 2 ^ (8 * i)))
            ∧ SameArchs s t ∧ (t.core c.val).stall = (s.core c.val).stall
            ∧ ∃ y ∈ (t.core c.val).tlbSet va.toNat kind, y.covers (s.tag c.val host) va.toNat = true
                ∧ y.addr va.toNat = (entryOf none va.toNat x).addr va.toNat)
        ∧ (∀ x a2, u.walkTables reach n va.toNat kind = .inl (x, a2) → marked x kind ≠ x → s.setsMarks c.val = true →
            64 ≤ fails.toNat → (s.core c.val).exc = none → raises ⟨7, 1, n, a2⟩)
        ∧ (∀ f : XFault, u.walkTables reach n va.toNat kind = .inr f → (s.core c.val).exc = none → raises f))
      ∧ (kind = .probeR ∨ kind = .probeW →
        (∀ x a2, u.walkTables reach n va.toNat kind = .inl (x, a2) → ∃ t, quiet t ∧ (t.core c.val).walked
          = some (va, kind, Word.ofNat (x / 2 % 8 * 2 + x / 16 % 4 * 16 + x / 64 % 2 * 64 + n * 256
              + (entryOf none va.toNat x).addr va.toNat * 65536)))
        ∧ (∀ f : XFault, u.walkTables reach n va.toNat kind = .inr f →
          ∃ t, quiet t ∧ (t.core c.val).walked = some (va, kind, detailWord f kind host)))
      ∧ (kind = .pref → ∃ t, quiet t
          ∧ ((∃ f, u.walkTables reach n va.toNat kind = .inr f) → s.untranslated c.val = false →
              (∀ y ∈ (s.core c.val).tlbSet va.toNat .pref, y.covers (s.tag c.val host) va.toNat = false) →
              (t.core c.val).prefGone = true)))
    ∧ (∀ e rest, (s.core c.val).invq = e :: rest → e.barrier = 0 → (s.core c.val).awaits = [⟨0x3C2, 0, false, 0⟩] →
      (s.core c.val).returning = false → ∃ t, exec (.invalidationComplete c) s = .next t ∧ OnlyCore s t c.val ∧ (t.core c.val).invq = rest
        ∧ (t.core c.val).awaits = [] ∧ (t.core c.val).port 0x3C2 = 0
        ∧ ∀ p, p ≠ 0x3C2 → (t.core c.val).port p = (s.core c.val).port p)

/-- From R80, R187 and R188 for maintenance by a core that is not in a group, of a line of NORMAL memory. clean and flush leave DRAM with
what every master reads of the line; inv leaves what DRAM held; each is outstanding until it completes. zero, on a main core, joins the
queue as a store of the whole line; but is performed at once by a headworks core; iinv removes the line from this core's L1I; pref raises
nothing, and waits where maintenance of its line is outstanding. -/
def Obligations.MaintenanceFollowsR187 : Prop :=
  ∀ (s : State) (c : CoreId) (b : Word) (pa : Nat),
    let r := s.atBundle c.val
    let k := r.core c.val
    let q := r.drain c.val
    let va := b &&& ~~~ (0xFF : Word)
    let line := pa / 256
    let inLine (a : Nat) : Prop := line * 256 ≤ a ∧ a < line * 256 + 256
    s.groupOf c.val = none → (c.val < 80 → k.fences = []) → (∀ e ∈ k.sb, e.typ = 1) → s.rangeClass pa = .normal →
    let may (p : Nat) (kind : AccKind) (acc : Nat) : Prop :=
      s.takes c.val p ∧ r.dataAddr c.val va kind 0 p acc = .ok pa ∧ (c.val < 80 → k.cmq.length < 8 ∧ k.sb.length < 32)
    let kept (t : State) (l : List CmEnt) : Prop := (t.core c.val).arch = k.arch ∧ (t.core c.val).awaits = k.awaits
      ∧ (t.core c.val).cmq = k.cmq ++ l ∧ (∀ q, q ≠ CAC_CCNT c.val → t.rd q = s.rd q) ∧ t.out = s.out
    (may 0x3E8 .read accRead → ∃ t, exec (.cmClean c b) s = .next t ∧ kept t [⟨.clean, line, 0⟩] ∧ t.mem = q.mem
      ∧ ∀ a, inLine a → t.dram.find a = none)
    ∧ (may 0x3E9 .read accRead → ∃ t, exec (.cmFlush c b) s = .next t ∧ kept t [⟨.flush, line, 0⟩] ∧ t.mem = q.mem
      ∧ ∀ a, inLine a → t.dram.find a = none)
    ∧ (may 0x3EA .write accWrite → q.dram.sorted = true → ∃ t, exec (.cmInv c b) s = .next t ∧ kept t [⟨.inv, line, 0⟩]
      ∧ ∀ a, memGet t.mem a = (if line * 256 ≤ a ∧ a < line * 256 + 256 then (q.dram.find a).getD (memGet q.mem a)
          else memGet q.mem a))
    ∧ (may 0x3EB .write accWrite →
        (c.val < 80 → ∃ t, exec (.cmZero c b) s = .next t ∧ kept t [] ∧ t.mem = s.mem
          ∧ (t.core c.val).sb = k.sb ++ [⟨1, line * 256, 256, 0, false⟩].drop k.skip)
        ∧ (80 ≤ c.val → ∃ t, exec (.cmZero c b) s = .next t ∧ kept t [] ∧ StoredBytes q.mem t.mem (line * 256) 256 (fun _ => 0)))
    ∧ (s.takes c.val 0x3ED → k.walkedFor va .iinv = none → k.prefGone = false → r.xlat c.val va .iinv = .ok pa → c.val < 80 → k.cmq.length < 8 →
        ∃ t, exec (.cmIinv c b) s = .next t ∧ kept t [] ∧ t.mem = s.mem ∧ ∀ e ∈ (t.core c.val).l1i, e.2.line ≠ line)
    ∧ (s.takes c.val 0x3EC → (c.val < 80 → k.cmq.length < 8) → ∀ x, r.xlat c.val va .pref = x → x ≠ .walk → x ≠ .conflict →
        (∀ a, x = .ok a → a = pa) →
        ∃ t, exec (.cmPref c b) s = .next t ∧ t.mem = s.mem ∧ (t.core c.val).arch = k.arch ∧ (t.core c.val).awaits = k.awaits
          ∧ (t.core c.val).exc = k.exc ∧ t.out = s.out
          ∧ (t.core c.val).cmq = k.cmq ++ (if c.val < 80 ∧ k.prefGone = false ∧ x = .ok pa ∧ k.maintained line = true
              then [⟨.pref, line, 0⟩] else []))

/-- From R173, R174, R188 and R192. A fill that is outstanding retires, whatever the check of the array finds, but that a double error in
a clean line leaves it outstanding, to be served as a miss. A core's oldest maintenance operation of a line that waits for no interval
completes once no fill of the line is outstanding; a cm.t.pref that waited then fetches its line. Memory and the architected state of
every core are as before. -/
def Obligations.FillsAndMaintenanceComplete : Prop :=
  ∀ (s : State) (c : CoreId) (pa : BitVec 39),
    let line := pa.toNat / 256
    let fills (t : State) : Nat := (t.core c.val).fills.length
    (∀ (h : c.val < 80) (icache l2only : Bool) (e : Ecc) (subs : BitVec 4) (f : Fill),
      (s.core c.val).findFill line (if l2only then 0 else pa.toNat / 64 % 4) icache l2only = some f →
      ∃ t, exec (.fillReturn ⟨c.val, h⟩ pa icache l2only e subs) s = .next t ∧ t.mem = s.mem ∧ SameArchs s t
        ∧ (e ≠ .uncorrectable → fills t + 1 = fills s)
        ∧ (e = .uncorrectable → fills t + (if s.cleanInArrays c.val line then 0 else 1) = fills s))
    ∧ (∀ e, (s.core c.val).cmq.find? (fun e => e.line == line) = some e →
      (e.op = .pref → ∃ t, exec (.maintenanceComplete c pa) s = .next t ∧ OnlyCachesBut s t c.val
        ∧ (t.core c.val).cmq = (s.core c.val).cmq.erase e ∧ (t.core c.val).arch = (s.core c.val).arch)
      ∧ (e.op ≠ .pref → e.barrier = 0 → (s.core c.val).fills.any (fun f => f.line == line) = false →
        ∃ t, exec (.maintenanceComplete c pa) s = .next t ∧ OnlyCachesBut s t c.val
          ∧ (t.core c.val).cmq = (s.core c.val).cmq.erase e ∧ (t.core c.val).arch = (s.core c.val).arch
          ∧ (t.core c.val).awaits = (s.core c.val).awaits))

/-! The lateral block (R56, R60, R76) -/

/-- From R56, R60 and R76 for lateral moves of a main core that is not in a group. The lateral writes of one bundle wait as one group in
slot order, the last marked last, but for those that the core's former group has performed (R164), and leave the module together when
performed; a lateral read takes the value the die returns; a read that times out, or that is unanswered when the die-to-die link goes
down, records LATERAL and raises DATA-ACCESS subtype 5; a lat.t.fence holds lateral reads up while lateral writes wait. -/
def Obligations.LateralMovesFollowR60 : Prop :=
  ∀ (s : State) (c : CoreId) (l : List (BitVec 8 × Word)) (v : Word),
    let r := s.atBundle c.val
    let k := r.core c.val
    c.val < 80 → s.groupOf c.val = none →
    (l ≠ [] → l.length ≤ 8 → (l.map Prod.fst).Nodup → k.fences = [] → (∀ w ∈ l, s.takes c.val (0xF00 + w.1.toNat)) →
      ∃ t, exec (.lateralWrite c l) s = .next t ∧ OnlyCore s t c.val ∧ (t.core c.val).arch = k.arch
        ∧ (t.core c.val).sb = k.sb ++ (l.zipIdx.map (fun e => ⟨2, 0xF00 + e.1.1.toNat, 8, e.1.2, decide (e.2 + 1 = l.length)⟩)).drop k.skip)
    ∧ (∀ (ws : List (Nat × Word)) (w : Nat × Word) (rest : List StoreEnt), (s.core c.val).sb
          = ws.map (fun e => ⟨2, e.1, 8, e.2, false⟩) ++ ⟨2, w.1, 8, w.2, true⟩ :: rest →
        ∃ t, exec (.storePerformed c) s = .next t ∧ t.out = .lateral c.val (ws ++ [w]) :: s.out ∧ t.mem = s.mem
          ∧ (t.core c.val).sb = rest ∧ (t.core c.val).arch = (s.core c.val).arch)
    ∧ (∀ p, (s.core c.val).stall = some (.lateral p) →
        (∃ t, exec (.lateralRead c v) s = .next t ∧ OnlyCore s t c.val ∧ (t.core c.val).latVal.find p = some v
          ∧ (t.core c.val).arch = (s.core c.val).arch)
        ∧ ((s.core c.val).exc = none → (s.core c.val).latVal.find p = none →
          ∃ t, exec (.lateralReadTimeout c) s = .next t ∧ t.mem = s.mem ∧ (t.core c.val).stall = none
            ∧ (∃ e, (t.core c.val).exc = some e ∧ e.cause = 0x21 ∧ e.sub = 5 ∧ e.port = p)
            ∧ bit (t.rd FLT_STATUS) 38 = true))
    ∧ (∃ t, exec .dieToDieLinkDown s = .next t ∧ t.dieUp = false ∧ t.mem = s.mem
        ∧ ∀ d p, d < 80 → (s.core d).stall = some (.lateral p) → (s.core d).exc = none → (s.core d).latVal.find p = none →
          (t.core d).stall = none
            ∧ ∃ e, (t.core d).exc = some e ∧ e.cause = 0x21 ∧ e.sub = 5 ∧ e.port = p)
    ∧ exec .dieToDieLinkUp s = .next { s with dieUp := s.dieUp || s.fld HWK_ID HWK_ID.LATERAL == 1 }
    ∧ (s.takes c.val 0x468 → k.fences = [] → r.latBusy c.val = false →
        ∃ t, exec (.latFence c) s = .next t ∧ OnlyCore s t c.val ∧ (t.core c.val).arch = k.arch
          ∧ ((t.core c.val).latFence = 0 ↔ k.sb.all (fun e => e.typ != 2) = true)
          ∧ ∀ x e y, k.sb = x ++ e :: y → e.typ = 2 → y.all (fun e => e.typ != 2) = true → (t.core c.val).latFence = x.length + 1)

/-! Requests (R76, R81, R275, R344, R345, R368) -/

/-- From R344 and R345 for cip requests of a main core: where the slot permits the operation, the block under its key is outstanding for
cip.rh and cip.rl; a refused request is counted and leaves poisoned zeros; a GF(2^128) product uses no slot. The result of the block
cipher itself is FIPS 197, as the model computes it. -/
def Obligations.CipRequestsAnswerR344AndR345 : Prop :=
  ∀ (s : State) (c : CoreId) (b : Word) (dec : Bool) (read : KeyRead),
    let r := s.atBundle c.val
    let k := r.core c.val
    let slot := (k.port 0x400).toNat
    let st := r.slotStatus slot (if dec then 6 else 5) (if k.host then none else some (k.port 0xB3).toNat)
    let x := (k.port 0x401).toNat * 2 ^ 64 + b.toNat
    let y := (s.slot slot).run (if dec then .dec else .enc) x
    let g := ghashMul x ((k.port 0x402).toNat * 2 ^ 64 + (k.port 0x403).toNat)
    let i : Instr := if dec then .cipDec c b read else .cipEnc c b read
    let room := (k.awaits.filter (fun a => a.port == 0x404)).length < 4 ∧ (k.awaits.filter (fun a => a.port == 0x405)).length < 4
    let two (hi lo : Word) (poison : Bool) : List Await := [⟨0x404, hi, poison, 0⟩, ⟨0x405, lo, poison, 0⟩]
    (s.takes c.val (if dec then 0x409 else 0x408) → room → read.ecc = .ok →
      (st = 0 → ∃ t, exec i s = .next t ∧ t.mem = s.mem ∧ (∀ d, d ≠ c.val → (s.core d).sameArch (t.core d))
        ∧ k.sameArch (t.core c.val)
        ∧ (t.core c.val).awaits = k.awaits ++ two (Word.ofNat (y / 2 ^ 64)) (Word.ofNat y) false
        ∧ (read.xchk = none → t.csr = (s.bump CIP_CNT0 CIP_CNT0.BLOCKS 1).csr))
      ∧ (st ≠ 0 → ∃ t, exec i s = .next t ∧ (t.core c.val).awaits = k.awaits ++ two 0 0 true
        ∧ t.fld CIP_CNT0 CIP_CNT0.REFUSED = min (s.fld CIP_CNT0 CIP_CNT0.REFUSED + 1) CIP_CNT0.REFUSED.top
        ∧ bit (t.rd FLT_STATUS) 28 = true ∧ t.mem = s.mem))
    ∧ (s.takes c.val 0x40A → room →
      ∃ t, exec (.cipGmul c b) s = .next t ∧ OnlyCore s t c.val ∧ (t.core c.val).arch = k.arch
        ∧ (t.core c.val).awaits = k.awaits ++ two (Word.ofNat (g / 2 ^ 64)) (Word.ofNat g) false)

/-- From R368 and R373 for cmx requests, and R275 for bell.t.ring, of a main core that is not in a group and has no store waiting
and no result kept from a former group: the
answer is outstanding for cmx.res or bell.res. A submitted job is queued and its handle answered; a resumed one is queued again;
status changes nothing; a doorbell record goes to the next place of the session's ring with the next DSEQ. -/
def Obligations.CmxAndBellRequestsAreAnswered : Prop :=
  ∀ (s : State) (c : CoreId) (b : Word),
    let r := s.atBundle c.val
    let k := r.core c.val
    let allot := if k.host then 0 else (k.port 0xB3).toNat % 4096
    let guest : Option Nat := if k.host then none else some allot
    let asks (i : Instr) (p : Nat) (u : State) (v : Word) : Prop :=
      s.takes c.val p → (k.awaits.filter (fun a => a.port == p - p % 32)).length < 4 →
      ∃ t, exec i s = .next t ∧ (∀ q, q ≠ 0xB0 → (t.core c.val).port q = k.port q)
        ∧ (t.core c.val).awaits = k.awaits ++ [⟨p - p % 32, v, false, 0⟩]
        ∧ t.jobs = u.jobs ∧ t.cmpCore = u.cmpCore ∧ t.csr = u.csr ∧ t.mem = u.mem
    s.groupOf c.val = none → k.fences = [] → k.kept = [] → k.sb = [] →
    asks (.cmxSubmit c b) 0x428 (r.cmxSubmit allot b.toNat).1 (Word.ofNat (r.cmxSubmit allot b.toNat).2)
    ∧ asks (.cmxResume c b) 0x429 (r.cmxResume guest b.toNat).1 (Word.ofNat (r.cmxResume guest b.toNat).2)
    ∧ asks (.cmxStatus c b) 0x42A s (Word.ofNat (r.cmxStatus guest b.toNat))
    ∧ (s.takes c.val 0x428 → (k.awaits.filter (fun a => a.port == 0x420)).length < 4 →
        let read := r.spRead (some allot) .compress b.toNat 64
        let slot := leastFree 0 read.1.jobs.keys
        let job : Job := ⟨read.2.1, allot, read.1.jobGen.get 0 slot, .queued, none, [], 0, 0, 0, 0, 0, []⟩
        let list := read.1.gatherList job
        s.jobs.length ≠ 4096 → s.fld (CMP_AJOB allot) CMP_AJOB.JOBS < s.fld (CMP_AJOB allot) CMP_AJOB.JOBMAX → s.inTrickle = false →
        b.toNat % 64 = 0 → read.2.2 = 0 → read.1.jobBad job = false → list.2.2.1 = 0 → list.2.2.2 = false →
        ∃ t, exec (.cmxSubmit c b) s = .next t ∧ t.mem = s.mem ∧ t.jobs = s.jobs.put slot job
          ∧ t.cmpCore = s.cmpCore ++ [JobRef.core slot]
          ∧ (t.core c.val).awaits = k.awaits ++ [⟨0x420, Word.ofNat (cmOK + job.handle slot * 2 ^ 32), false, 0⟩]
          ∧ t.fld (CMP_AJOB allot) CMP_AJOB.JOBS = s.fld (CMP_AJOB allot) CMP_AJOB.JOBS + 1)
    ∧ (∀ slot job, r.jobOf guest b.toNat = .ok (slot, job) → (k.awaits.filter (fun a => a.port == 0x420)).length < 4 →
        (s.takes c.val 0x429 → job.phase = .suspended →
          ∃ t, exec (.cmxResume c b) s = .next t ∧ t.mem = s.mem ∧ t.jobs = s.jobs.put slot { job with phase := .queued }
            ∧ t.cmpCore = s.cmpCore ++ [JobRef.core slot] ∧ (t.core c.val).awaits = k.awaits ++ [⟨0x420, Word.ofNat cmOK, false, 0⟩])
        ∧ (s.takes c.val 0x42A →
          ∃ t, exec (.cmxStatus c b) s = .next t ∧ t.mem = s.mem ∧ t.jobs = s.jobs ∧ t.cmpCore = s.cmpCore
            ∧ (t.core c.val).awaits = k.awaits ++ [⟨0x420, Word.ofNat
                ((if job.phase = .suspended then cmSUSPENDED else cmRUNNING) + job.done % 2 ^ 32 * 2 ^ 32), false, 0⟩]))
    ∧ (s.takes c.val 0x448 →
        let answers (v : Word) : Prop := ∃ t, exec (.bellRing c b) s = .next t ∧ OnlyCore s t c.val
          ∧ (t.core c.val).arch = k.arch ∧ (t.core c.val).awaits = k.awaits ++ [⟨0x441, v, false, 0⟩]
        let named := s.sessions.find? (fun e => e.2.state != ssCLOSED && !e.2.blank && e.2.allot == allot && e.2.bell == (k.port 0x440).toNat)
        (b.toNat % 32 ≠ 0 → answers 3)
        ∧ (b.toNat % 32 = 0 → named = none → answers 2)
        ∧ (∀ n x, b.toNat % 32 = 0 → named = some (n, x) → x.state ≠ ssOPEN → answers 4)
        ∧ (∀ n x, b.toNat % 32 = 0 → named = some (n, x) → x.state = ssOPEN →
            let waiting := (x.bellDseq + 2 ^ 48 - x.nextDseq) % 2 ^ 48
            (2 ^ x.dlog2 ≤ waiting → answers 1)
            ∧ (waiting < 2 ^ x.dlog2 → ∃ t, exec (.bellRing c b) s = .next t
                ∧ (t.core c.val).awaits = k.awaits ++ [⟨0x441, Word.ofNat (x.bellDseq % 2 ^ 48 * 65536), false, 0⟩]
                ∧ t.sessions = s.sessions.put n { x with bellDseq := (x.bellDseq + 1) % 2 ^ 48 }
                ∧ (s.sesImage = false → StoredBytes s.mem t.mem (x.dring + 16 * (x.bellDseq % 2 ^ x.dlog2)) 16 (fun i =>
                    if i < 6 then byteAt b i else if i < 8 then 0
                    else byteAt (Word.ofNat (x.bellDseq % 2 ^ 48 + allot * 2 ^ 48)) (i - 8))))))

/-! Translation registers, patch entries and micro-traps (R139-R143, R205) -/

/-- From R202 and R205 for reach registers, R139 and R140 for patch-match entries. An accepted value is written in the core, and for a
member in every member of its group. It is in force at once, but for a core whose bundle stalls, on more than its own fence, from its next
bundle boundary, and in a compared group from the interval that follows the group's next checkpoint. A reach with a reserved TYPE or a
SIZE outside its range is left as it was; an entry whose TARGET lies below the patch area is not armed. -/
def Obligations.TranslationAndPatchWritesTakeEffect : Prop :=
  ∀ (s : State) (c : Fin 80) (n : Fin 16) (e : Fin 8) (v : Word),
    let typ := v.toNat % 4
    let size := v.toNat / 4 % 64
    let accepted : Prop := typ = 0 ∨ (typ = 1 ∧ 24 ≤ size ∧ size ≤ 44) ∨ (typ = 2 ∧ 29 ≤ size ∧ size ≤ 42)
    let kept : Word := if typ = 1 then v &&& 0x0FFFFFFFFFFFF7FF else if typ = 2 then v &&& 0x07FFFFFFFFFFFFFF else v &&& 0xFF
    let patch : Word := let w := v &&& 0xFFFF3FFF; if v.toNat / 65536 % 16384 < 15360 then w &&& ~~~ (0x80000000 : Word) else w
    let spatch : Word := let w := v &&& 0x3FFFFFFFF; if v.toNat / 65536 % 65536 < 61440 then w &&& ~~~ (0x200000000 : Word) else w
    let takes (i : Instr) (a : Nat → Nat) (w : Word) : Prop :=
      (s.groupOf c.val = none →
        ((s.core c.val).stall = none ∨ (s.core c.val).stall = some .fence → exec i s = .next (s.wr (a c.val) w))
        ∧ ((s.core c.val).stall ≠ none → (s.core c.val).stall ≠ some .fence → ∃ t, exec i s = .next t ∧ t = { s with csr := t.csr, force := t.force }
            ∧ t.rd (a c.val) = w ∧ t.coreCsr c.val (a c.val) = s.coreCsr c.val (a c.val)
            ∧ (t.ctxBoundary c.val).coreCsr c.val (a c.val) = w))
      ∧ (∀ g, s.groupOf c.val = some g →
        let members := (s.memberIdx g).map (s.memberCore g)
        ∃ t, exec i s = .next t ∧ t.cores = s.cores ∧ t.mem = s.mem ∧ (∀ d ∈ members, t.rd (a d) = w)
          ∧ (s.guarded g = true → (t.group g).later = (s.group g).later
              ++ members.map (fun d => (s.openInterval (s.memberCore g 0), a d, s.rd (a d))))
          ∧ (s.guarded g = false → t.groups = s.groups))
    (¬ accepted → exec (.reachWrite c (.greach n) v) s = .next s ∧ exec (.reachWrite c (.hreach n) v) s = .next s)
    ∧ (accepted → takes (.reachWrite c (.greach n) v) (fun d => XLT_GREACH d n.val) kept
        ∧ takes (.reachWrite c (.hreach n) v) (fun d => XLT_HREACH d n.val) kept)
    ∧ takes (.reachWrite c .ctx v) XLT_CTX (v &&& 1)
    ∧ takes (.cpatchWrite c e v) (fun d => CST_CPATCH d e.val) patch
    ∧ exec (.spatchWrite n v) s = .next (s.wr (CST_SPATCH n.val) spatch)

/-- From R131 and R137 to R143 for a patch image loaded at run time and for micro-traps. A verified image is written into its store and
reported; a rejected one writes no word, is reported with its code, and records CST-REJECT. A micro-trap saves its micro-PC and
cause; a patch routine returns, and a bad word waits for its restoration; a word that cannot be restored ends in a machine check,
and a micro-trap met while one is handled in another. The temporaries that a micro-trap saves are free (log entry 7). -/
def Obligations.ControlStoresFollowR137ToR143 : Prop :=
  ∀ (s : State) (c : Fin 80) (b : Bool) (mpc : BitVec 16),
    let a := s.fld CST_LOAD CST_LOAD.ADDR * 32
    let n := 0x200 + s.num (a + 0x14) 4
    let img := s.bytes a n
    let vr := s.gciVerify img [1, 2] true true
    (s.fld CST_STATUS CST_STATUS.BUSY = 0 → s.rangeClass a = .normal → s.rangeClass (a + n - 1) = .normal →
        s.poisonedRange a n = false →
        ∃ t, exec .cstLoad s = .next t ∧ t.fld CST_STATUS CST_STATUS.RESULT = vr.1 % 256 ∧ t.fld CST_STATUS CST_STATUS.DONE = 1
          ∧ t.coreStore = (if vr.1 = 0 ∧ gciTYPE img = 1 then writeWords s.coreStore vr.2 else s.coreStore)
          ∧ t.sluStore = (if vr.1 = 0 ∧ gciTYPE img = 2 then writeWords s.sluStore vr.2 else s.sluStore)
          ∧ if vr.1 = 0 then t = { s with csr := t.csr, coreStore := t.coreStore, sluStore := t.sluStore }
            else bit (t.rd FLT_STATUS) 8 = true)
    ∧ (s.saveValid (.core c) = false → ∃ t, exec (.microTrap (.core c) mpc true b) s = .next t
        ∧ (t.rd (CST_MSAVE c.val 0)).toNat = mpc.toNat % 16384 + 0x120000 ∧ (t.core c.val).restoring = true
        ∧ t.mem = s.mem ∧ ∀ d, (t.core d).arch = (s.core d).arch)
    ∧ (s.saveValid (.core c) = false → s.microMatch (.core c) (mpc.toNat % 16384) = true →
        ∃ t, exec (.microTrap (.core c) mpc false false) s = .next t ∧ (t.rd (CST_MSAVE c.val 0)).toNat = mpc.toNat % 16384 + 0x10000
          ∧ t.cores = s.cores ∧ t.mem = s.mem)
    ∧ (s.saveValid (.core c) = true → (∀ x, (s.core c.val).exc = some x → x.cstore = false) →
        ∃ t, exec (.microTrap (.core c) mpc true b) s = .next t ∧ OnlyCore s t c.val
          ∧ (t.core c.val).exc = some ⟨0x60, 3, 0, 0, 0, 0, [], false⟩ ∧ (t.core c.val).arch = (s.core c.val).arch)
    ∧ (s.saveValid (.sluice b) = true → ∃ t, exec (.microTrap (.sluice b) mpc true false) s = .next t
        ∧ (t.slu b).stopped = true ∧ t.slu (!b) = s.slu (!b) ∧ t.csr = s.csr ∧ t.cores = s.cores)
    ∧ (s.saveValid (.core c) = true → s.saveCause (.core c) = 2 →
        (∃ t, exec (.cstoreWordRestore (.core c) true) s = .next t ∧ t.saveValid (.core c) = false
          ∧ (t.core c.val).restoring = false ∧ (t.core c.val).arch = (s.core c.val).arch ∧ t.mem = s.mem)
        ∧ (s.groupOf c.val = none → (∀ x, (s.core c.val).exc = some x → x.cstore = false) →
          ∃ t, exec (.cstoreWordRestore (.core c) false) s = .next t ∧ (t.core c.val).restoring = false
            ∧ (t.core c.val).exc = some ⟨0x60, 4, 0, 0, 0, 0, [], false⟩ ∧ bit (t.rd FLT_STATUS) 3 = true))
    ∧ (s.saveValid (.sluice b) = false →
        (∃ t, exec (.microTrap (.sluice b) mpc true false) s = .next t ∧ (t.rd (CST_SMSAVE (b2n b) 0)).toNat = mpc.toNat + 0x120000
          ∧ t.slu b = s.slu b ∧ t.cores = s.cores ∧ t.mem = s.mem)
        ∧ (s.microMatch (.sluice b) mpc.toNat = true → ∃ t, exec (.microTrap (.sluice b) mpc false false) s = .next t
          ∧ (t.rd (CST_SMSAVE (b2n b) 0)).toNat = mpc.toNat + 0x10000 ∧ t.slu b = s.slu b ∧ t.cores = s.cores ∧ t.mem = s.mem))
    ∧ (s.saveValid (.sluice b) = true → s.saveCause (.sluice b) = 2 →
        (∃ t, exec (.cstoreWordRestore (.sluice b) true) s = .next t ∧ t.saveValid (.sluice b) = false ∧ t.slu b = s.slu b)
        ∧ ∃ t, exec (.cstoreWordRestore (.sluice b) false) s = .next t ∧ (t.slu b).stopped = true ∧ t.csr = s.csr)

/-! Caches (R192, R193, R197, R198) -/

/-- From R192, R193, R197 and R198. A cache command, ignored while BUSY, ends with its RESULT: CLEAN-ALL leaves DRAM with what every master
reads and the caches as they are, FLUSH-ALL empties the caches of a core that is parked, halted or retired; of the reservoir they
clean and empty it. A scrubber reads the next line; a single error is corrected and reported, a double one is reported, poisons a
modified line's sub-blocks and drops a clean line. A double error of a sub-block of which a newer copy stands
above shows in the reservoir's alone. No cache command changes what a master reads. -/
def Obligations.CacheCommandsAndScrubbersFollowR197 : Prop :=
  ∀ (s : State) (c : Fin 80) (slice : Fin 16) (subs : BitVec 4),
    let ended (t : State) (res : Nat) : Prop := t.fld (CAC_CSTAT c.val) CAC_CSTAT.BUSY = 0
      ∧ t.fld (CAC_CSTAT c.val) CAC_CSTAT.DONE = 1 ∧ t.fld (CAC_CSTAT c.val) CAC_CSTAT.RESULT = res
    (s.fld (CAC_CSTAT c.val) CAC_CSTAT.BUSY = 0 →
      (∃ t, exec (.cacBadOp c) s = .next t ∧ OnlyCsr s t ∧ ended t 2)
      ∧ (s.islandRuns (c.val / 10) = false → (∃ t, exec (.cacCleanAll c) s = .next t ∧ OnlyCsr s t ∧ ended t 3)
          ∧ ∃ t, exec (.cacFlushAll c) s = .next t ∧ OnlyCsr s t ∧ ended t 3)
      ∧ (s.islandRuns (c.val / 10) = true →
          (∃ t, exec (.cacCleanAll c) s = .next t ∧ ended t 0 ∧ OnlyCachesBut s t c.val
            ∧ ∀ l ∈ (s.core c.val).dirtyLines, ∀ a, l * 256 ≤ a → a < l * 256 + 256 → t.dram.find a = none)
          ∧ ((s.role c.val = 1 ∨ s.role c.val = 4 ∨ s.role c.val = 5) →
            ∃ t, exec (.cacFlushAll c) s = .next t ∧ ended t 0 ∧ OnlyCachesBut s t c.val ∧ (t.core c.val).l2 = []
              ∧ (t.core c.val).l1d = [] ∧ (t.core c.val).l1i = [] ∧ (t.core c.val).sump = [] ∧ (t.core c.val).wb = [])
          ∧ (s.role c.val = 0 ∨ s.role c.val = 2 ∨ s.role c.val = 3 →
            ∃ t, exec (.cacFlushAll c) s = .next t ∧ OnlyCsr s t ∧ ended t 1)))
    ∧ (s.fld CAC_RSTAT CAC_RSTAT.BUSY = 0 →
      (∃ t, exec .reservoirCleanAll s = .next t ∧ t.mem = s.mem ∧ t.cores = s.cores ∧ t.fld CAC_RSTAT CAC_RSTAT.DONE = 1
        ∧ ∀ e ∈ t.res, e.2 % 2 = 0)
      ∧ ∃ t, exec .reservoirFlushAll s = .next t ∧ t.mem = s.mem ∧ t.fld CAC_RSTAT CAC_RSTAT.DONE = 1 ∧ t.res = [])
    ∧ (∀ e, ∃ t, exec (.l2PatrolScrub c e subs) s = .next t ∧ t.mem = s.mem ∧ SameArchs s t
        ∧ (t.core c.val).scrub = ((s.core c.val).scrub + 1) % 8192 ∧ (e = .ok → OnlyCore s t c.val)
        ∧ ∀ l, (s.core c.val).l2.find (s.core c.val).scrub = some l → l.st ≠ .i →
          (e = .corrected → bit (t.rd FLT_STATUS) 9 = true ∧ t.poison = s.poison ∧ (t.core c.val).l2 = (s.core c.val).l2)
          ∧ (e = .uncorrectable → bit (t.rd FLT_STATUS) 10 = true
            ∧ ((s.core c.val).l2State l.line = .m → (t.core c.val).l2 = (s.core c.val).l2
              ∧ ∀ j : Fin 4, subs.getLsbD j.val = true → s.newerAbove (some c.val) l.line j.val = false →
                  t.poison.contains (l.line * 4 + j.val) = true)
            ∧ ((s.core c.val).l2State l.line ≠ .m → t.poison = s.poison)))
    ∧ (∀ e, ∃ t, exec (.reservoirPatrolScrub slice e subs) s = .next t ∧ t.mem = s.mem ∧ SameArchs s t
        ∧ t.resScrub.get 0 slice.val = (s.resScrub.get 0 slice.val + 1) % 65536 ∧ (e = .ok → t = { s with resScrub := t.resScrub })
        ∧ ∀ v, s.res.find (slice.val * 65536 + s.resScrub.get 0 slice.val) = some v →
          (e = .corrected → bit (t.rd FLT_STATUS) 9 = true ∧ t.poison = s.poison ∧ t.res = s.res)
          ∧ ∀ key, e = .uncorrectable → s.resKey (v / 2) = some key → bit (t.rd FLT_STATUS) 10 = true
            ∧ (s.res.get 0 key % 2 = 1 → t.res = s.res
              ∧ ∀ j : Fin 4, subs.getLsbD j.val = true →
                  if s.newerAbove none (v / 2) j.val then t.resPoison.find (v / 2 * 4 + j.val) = some true
                  else t.poison.contains (v / 2 * 4 + j.val) = true)
            ∧ (s.res.get 0 key % 2 = 0 → t.poison = s.poison ∧ t.res = s.res.erase key))

/-! Stacked DRAM and the ledger mirror (R225-R235) -/

/-- From R227, R228, R230 to R233 and R235. A master's read of DRAM delivers the 64 bytes that DRAM holds; up to 3 bad symbols are
corrected, counted for their stack and row and reported, 4 or 5 poison the sub-block, and a poisoned sub-block reports nothing more. A
scrubber visits the next sub-block, and rewrites a bad one of the ledger from its other copy; a row over the threshold takes a spare row;
a channel's substitution copies, then serves, or is abandoned; a ledger record is written to both copies, and a write to the mirror is
refused; so is a read of the ledger by a master other than the sluices, whose own go through the check gate. Refresh changes nothing but
that the stack takes up a new value of DRM_CFG. -/
def Obligations.DramFollowsR228ToR235 : Prop :=
  ∀ (s : State) (m : BitVec 10) (pa : BitVec 39) (pins : BitVec 144) (wide : Ecc) (dma : Bool) (k : Fin 8) (ch bank : Fin 16)
    (row : BitVec 17) (ch17 : Fin 17) (i : BitVec 22) (data : BitVec 512) (b : Bool),
    let a := pa.toNat / 64 * 64
    let bad := ((List.range 72).filter (fun n => pins.getLsbD (2 * n) || pins.getLsbD (2 * n + 1))).length
    let got (p : Bool) : Output := .memoryData m.toNat (some (if a < 0x7FE0000000 then s.dramBytes a 64
      else s.shown ((a - 0x7FE0000000) / 64 % 4194304) (s.dramBytes a 64))) p
    exec (.dramRefresh k ch17) s = .next (s.unitBoundary DRM_CFG k.val)
    ∧ (s.gateShut m.toNat = true → exec (.dramRead m pa pins wide dma) s = .next s)
    ∧ (s.gateShut m.toNat = false → 0x7FE0000000 ≤ a → m.toNat ≠ 0x090 → m.toNat ≠ 0x091 →
        exec (.dramRead m pa pins wide dma) s = .next (s.fault 0x04 m.toNat (if dma then accDmaRead else accRead) (Word.ofNat a)))
    ∧ (s.gateShut m.toNat = false → a < 0x7FE0000000 ∨ m.toNat = 0x090 ∨ m.toNat = 0x091 →
      (s.dramPoisoned a = true → exec (.dramRead m pa pins wide dma) s = .next (s.send (got true)))
      ∧ (s.dramPoisoned a = false →
      (bad = 0 → exec (.dramRead m pa pins wide dma) s = .next (s.send (got false)))
      ∧ (1 ≤ bad ∧ bad ≤ 3 ∨ 5 < bad ∧ wide = .corrected → ∃ t, exec (.dramRead m pa pins wide dma) s = .next t ∧ t.mem = s.mem
          ∧ t.poison = s.poison ∧ t.out.head? = some (got false) ∧ bit (t.rd FLT_STATUS) 12 = true
          ∧ t.rowErrs.get 0 (rowOf a) = s.rowErrs.get 0 (rowOf a) + 1)
      ∧ (bad = 4 ∨ bad = 5 ∨ 5 < bad ∧ wide = .uncorrectable → ∃ t, exec (.dramRead m pa pins wide dma) s = .next t
          ∧ t.mem = s.mem ∧ t.dramPoisoned a = true ∧ t.out.head? = some (got true) ∧ bit (t.rd FLT_STATUS) 13 = true)))
    ∧ (s.fldIn DRM_CFG k.val DRM_CFG.SCRUB_EN = 1 → s.fld (DRM_SSTAT k.val) DRM_SSTAT.STATE = 0 →
        let x := scrubAddr k.val (s.scrubPos.get 0 k.val)
        ∀ e other, ∃ t, exec (.dramScrub k e other) s = .next t ∧ t.scrubPos.get 0 k.val = (s.scrubPos.get 0 k.val + 1) % 2 ^ 30
          ∧ (x < 0x7FE0000000 → t.mem = s.mem
            ∧ (s.dramPoisoned x = true ∨ e = .ok → t = { s with scrubPos := t.scrubPos })
            ∧ (s.dramPoisoned x = false → e = .corrected → t.rowErrs.get 0 (rowOf x) = s.rowErrs.get 0 (rowOf x) + 1)
            ∧ (s.dramPoisoned x = false → e = .uncorrectable → t.dramPoisoned x = true))
          ∧ (0x7FE0000000 ≤ x → s.copyBad x e = true → s.copyBad (ledgerOther x) other = false →
              StoredBytes s.mem t.mem x 64 (fun j => memGet s.mem (ledgerOther x + j))))
    ∧ (let key := rowKey k.val ch.val bank.val row.toNat;
        s.fldIn DRM_CFG k.val DRM_CFG.ROW_THRESH ≠ 0 → s.fldIn DRM_CFG k.val DRM_CFG.ROW_THRESH ≤ s.rowErrs.get 0 key →
        ∀ met,
        (s.rowsUsed.get 0 (bankKey k.val ch.val bank.val) < 64 →
          ∃ t, exec (.rowSparing k ch bank row met) s = .next t ∧ t.mem = s.mem ∧ t.rowErrs.get 0 key = 0
            ∧ t.rowsUsed.get 0 (bankKey k.val ch.val bank.val) = s.rowsUsed.get 0 (bankKey k.val ch.val bank.val) + 1
            ∧ (s.repair.length < 262144 → t.repair = s.repair ++ [(repRow, key)]))
        ∧ (64 ≤ s.rowsUsed.get 0 (bankKey k.val ch.val bank.val) →
          ∃ t, exec (.rowSparing k ch bank row met) s = .next t ∧ t.mem = s.mem ∧ t.rowErrs = s.rowErrs ∧ t.rowsUsed = s.rowsUsed))
    ∧ (s.fld (DRM_SSTAT k.val) DRM_SSTAT.COPYING = 0 → s.fld (DRM_SSTAT k.val) DRM_SSTAT.SPARED = 31 →
        ∃ t, exec (.drmSubstitute k) s = .next t ∧ t.mem = s.mem ∧ t.fld (DRM_SSTAT k.val) DRM_SSTAT.COPYING = 1
          ∧ t.subst.get 99 k.val = s.fld (DRM_SCMD k.val) DRM_SCMD.CHANNEL)
    ∧ (s.fld (DRM_SSTAT k.val) DRM_SSTAT.COPYING = 1 → s.subst.get 0 k.val < 16 →
        (∀ met, ∃ t, exec (.channelCopyComplete k met) s = .next t ∧ t.mem = s.mem ∧ t.fld (DRM_SSTAT k.val) DRM_SSTAT.COPYING = 0
          ∧ t.fld (DRM_SSTAT k.val) DRM_SSTAT.SPARED = s.subst.get 0 k.val ∧ t.subst.find k.val = none)
        ∧ ∃ t, exec (.spareChannelFailure k) s = .next t ∧ t.mem = s.mem ∧ t.fld (DRM_SSTAT k.val) DRM_SSTAT.COPYING = 0
          ∧ t.fld (DRM_SSTAT k.val) DRM_SSTAT.SPARED = 31 ∧ bit (t.rd FLT_STATUS) 14 = true)
    ∧ (∀ v, s.staged.find DRM_CFG = some v → ∃ t, exec .drmCommit s = .next t ∧ t.staged.find DRM_CFG = none
          ∧ t.fld DRM_CFG DRM_CFG.SCRUB_HOURS = DRM_CFG.SCRUB_HOURS.get v ∧ t.fld DRM_STAT DRM_STAT.STAGED = 0 ∧ t.mem = s.mem)
    ∧ (s.staged.find DRM_CFG = none → exec .drmCommit s = .next s)
    ∧ (s.passes b = true → exec (.ledgerWrite b true i data) s = .next (s.fault 0x04 (0x090 + b2n b) accWrite (Word.ofNat (0x7FF0000000 + 64 * i.toNat))))
    ∧ (let old := s.record i.toNat
        let new := { recOf (leBytes 64 data.toNat) with ver := old.ver }
        let l := { new with ver := (old.ver + 1) % 65536 }.bytes
        (s.passes b = false ∨ recMoves old new = false → exec (.ledgerWrite b false i data) s = .next s)
        ∧ (s.passes b = true → recMoves old new = true → ∃ t, exec (.ledgerWrite b false i data) s = .next t ∧ t.cores = s.cores
        ∧ (t.live.contains i.toNat = (new.unended || new.ended))
        ∧ (∀ j, j < 64 → memGet t.mem (0x7FE0000000 + 64 * i.toNat + j) = l.getD j 0)
        ∧ (∀ j, j < 64 → memGet t.mem (0x7FF0000000 + 64 * i.toNat + j) = l.getD j 0)
        ∧ ∀ x, (x < 0x7FE0000000 + 64 * i.toNat ∨ 0x7FE0000000 + 64 * i.toNat + 64 ≤ x) →
            (x < 0x7FF0000000 + 64 * i.toNat ∨ 0x7FF0000000 + 64 * i.toNat + 64 ≤ x) → memGet t.mem x = memGet s.mem x))

/-- From R233, R300 and R305 for reads of ledger records, by a sluice master and by LGR_RD: from the primary where it is good, else from
the mirror, which then replaces it, counted and reported; where both are bad the record is lost. A read by LGR_RD waits, with BUSY, for a
master that acts; a sluice master's own read is made only where its outputs pass the check gate, and its data goes to each
master that takes part. -/
def Obligations.LedgerReadsFollowR233 : Prop :=
  ∀ (s : State) (b : Bool) (i : BitVec 22) (e1 e2 : Ecc),
    let p := 0x7FE0000000 + 64 * i.toNat
    let q := 0x7FF0000000 + 64 * i.toNat
    let answer (t : State) (l : Option (List Byte)) : Prop :=
      ∀ c, s.sluRuns c = true → t.out.contains (.memoryData (0x90 + b2n c) (l.map (s.shown i.toNat)) false) = true
    let words (t : State) (l : List Byte) (src : Nat) : Prop := t.fld LGR_RDSTAT LGR_RDSTAT.DONE = 1
      ∧ t.fld LGR_RDSTAT LGR_RDSTAT.BUSY = 0 ∧ t.fld LGR_RDSTAT LGR_RDSTAT.SRC = src
      ∧ ∀ w, w < 8 → t.rd (LGR_RDATA w) = Word.ofNat (leNat (((s.shown i.toNat l).drop (8 * w)).take 8))
    let mended (t : State) : Prop := StoredBytes s.mem t.mem p 64 (fun j => memGet s.mem (q + j))
      ∧ t.fld LGR_CNT1 LGR_CNT1.MIRROR_FIX = min (s.fld LGR_CNT1 LGR_CNT1.MIRROR_FIX + 1) LGR_CNT1.MIRROR_FIX.top
      ∧ bit (t.rd FLT_STATUS) 15 = true
    let go := s.sluActs = true ∧ s.fld LGR_RDSTAT LGR_RDSTAT.BUSY = 0 ∧ s.fld LGR_RD LGR_RD.INDEX = i.toNat
    (s.passes b = false → exec (.ledgerRead b i e1 e2) s = .next s)
    ∧ (s.fld LGR_RDSTAT LGR_RDSTAT.BUSY = 1 → exec (.lgrRd e1 e2) s = .next s)
    ∧ (s.fld LGR_RDSTAT LGR_RDSTAT.BUSY = 0 → s.sluActs = false →
        exec (.lgrRd e1 e2) s = .next (s.setF LGR_RDSTAT LGR_RDSTAT.BUSY 1))
    ∧ (s.copyBad p e1 = false →
        (s.passes b = true → ∃ t, exec (.ledgerRead b i e1 e2) s = .next t ∧ t.mem = s.mem ∧ answer t (some (s.bytes p 64))
          ∧ (e1 = .ok → t = { s.emit 1 with out := t.out }))
        ∧ (go → ∃ t, exec (.lgrRd e1 e2) s = .next t ∧ t.mem = s.mem ∧ words t (s.bytes p 64) 0
          ∧ (e1 = .ok → OnlyCsr (s.emit 1) t)))
    ∧ (s.copyBad p e1 = true → s.copyBad q e2 = false →
        (s.passes b = true → ∃ t, exec (.ledgerRead b i e1 e2) s = .next t ∧ answer t (some (s.bytes q 64)) ∧ mended t)
        ∧ (go → ∃ t, exec (.lgrRd e1 e2) s = .next t ∧ words t (s.bytes q 64) 1 ∧ mended t))
    ∧ (s.passes b = true → s.copyBad p e1 = true → s.copyBad q e2 = true → s.live.contains i.toNat = false →
        ∃ t, exec (.ledgerRead b i e1 e2) s = .next t
          ∧ bit (t.rd FLT_STATUS) 16 = true ∧ answer t none
          ∧ ∀ j, j < 64 → memGet t.mem (p + j) = 0 ∧ memGet t.mem (q + j) = 0)

/-! Cistern banks and the strongroom (R236-R244) -/

/-- From R237 to R241, R243, R244 and R481 for cistern banks: STOP drains and stops a running bank and lets a stopped one run; MASK, POWER
and WIPE of a bank that has not stopped set FENCED_WRITE alone; a bank that counts as stopped moves with POWER, and clearing ends with
zeros throughout; of the masters that request in one cycle one is granted by rotation, and a master it does not serve is refused with
ADDRESS; a wipe of the strongroom empties every key slot; its read-back ends WIPING, and one that is not zero is fatal; triggers in one hc
count once, and a wipe wakes the island first. -/
def Obligations.CisternBanksFollowR239ToR243 : Prop :=
  ∀ (s : State) (b : Fin 16) (mask : BitVec 13) (pw : BitVec 2) (off : BitVec 23) (m : Fin 13) (cause : Fin 3),
    let st := s.fld (CIS_BSTAT b.val) CIS_BSTAT.STATE
    let base := 0x10000000000 + b.val * 0x800000
    let stops (v : Bool) (st' : Nat) : Prop := ∃ t, exec (.cisStop b v) s = .next t ∧ OnlyCsr s t
      ∧ t.fld (CIS_BSTAT b.val) CIS_BSTAT.STATE = st' ∧ t.fld (CIS_BCTL b.val) CIS_BCTL.STOP = (if v then 1 else 0)
    stops true (if st = 0 then 1 else st) ∧ stops false (if st = 2 then 0 else st)
    ∧ (st = 1 → ∃ t, exec (.cisBankStopped b) s = .next t ∧ OnlyCsr s t
        ∧ t.fld (CIS_BSTAT b.val) CIS_BSTAT.STATE = if s.fld (CIS_BCTL b.val) CIS_BCTL.STOP = 1 then 2 else 0)
    ∧ (b.val ≠ 8 → b.val ≠ 9 → b.val ≠ 14 → b.val ≠ 15 →
        mask.toNat ≠ s.fld (CIS_BCTL b.val) CIS_BCTL.MASK →
        (st = 0 ∨ st = 1 ∨ st = 4 → exec (.cisPower b mask pw) s
          = .next (s.setF (CIS_BSTAT b.val) CIS_BSTAT.FENCED_WRITE 1))
        ∧ (pw.toNat < 3 → st = 2 ∨ st = 3 ∨ st = 5 → ∃ t, exec (.cisPower b mask pw) s = .next t ∧ t.mem = s.mem
            ∧ t.fld (CIS_BCTL b.val) CIS_BCTL.MASK = mask.toNat ∧ t.fld (CIS_BCTL b.val) CIS_BCTL.POWER = pw.toNat
            ∧ t.fld (CIS_BSTAT b.val) CIS_BSTAT.STATE =
                if pw = 2 then 5
                else if st = 5 then 4
                else if pw = 1 then 3
                else if st = 3 ∧ s.fld (CIS_BCTL b.val) CIS_BCTL.STOP = 0 then 0 else 2))
    ∧ (st = 0 ∨ st = 1 ∨ st = 4 → exec (.cisWipe b) s = .next (s.setF (CIS_BSTAT b.val) CIS_BSTAT.FENCED_WRITE 1))
    ∧ (st = 2 ∨ st = 3 → ∃ t, exec (.cisWipe b) s = .next t ∧ t.mem = s.mem
        ∧ t.fld (CIS_BSTAT b.val) CIS_BSTAT.STATE = 4 ∧ t.cisEnd.find b.val = some st)
    ∧ (st = 5 → exec (.cisWipe b) s = .next s)
    ∧ (st = 4 → ∃ t, exec (.cisClearComplete b) s = .next t
        ∧ (∀ a, memGet t.mem a = if base ≤ a ∧ a < base + 0x800000 then 0 else memGet s.mem a)
        ∧ t.fld (CIS_BSTAT b.val) CIS_BSTAT.STATE = (if s.cisEnd.get 2 b.val = 3 then 3
            else if s.fld (CIS_BCTL b.val) CIS_BCTL.STOP = 1 then 2 else 0))
    ∧ (st ≠ 5 → let x := base + off.toNat / 8 * 8
        exec (.cisPatrol b off .ok) s = .next s
        ∧ (s.poisoned x = true → ∀ e, exec (.cisPatrol b off e) s = .next s)
        ∧ (s.poisoned x = false →
          (∃ t, exec (.cisPatrol b off .corrected) s = .next t ∧ t.mem = s.mem ∧ t.poison = s.poison ∧ bit (t.rd FLT_STATUS) 17 = true
            ∧ t.cisErrs.get 0 (b.val * 1024 + off.toNat / 8192) = (s.cisErrs.get 0 (b.val * 1024 + off.toNat / 8192) + 1)
                % (if 8 ≤ s.cisErrs.get 0 (b.val * 1024 + off.toNat / 8192) + 1
                    then s.cisErrs.get 0 (b.val * 1024 + off.toNat / 8192) + 1 else 8))
          ∧ (b.val ≠ 8 → b.val ≠ 9 → ∃ t, exec (.cisPatrol b off .uncorrectable) s = .next t ∧ t.mem = s.mem
            ∧ t.poisoned x = true ∧ bit (t.rd FLT_STATUS) 18 = true)
          ∧ (b.val = 8 ∨ b.val = 9 → let n := slotAt b.val (off.toNat / 8 * 8);
            ∃ t, exec (.cisPatrol b off .uncorrectable) s = .next t ∧ t.mem = s.mem ∧ (t.slot n).state = 0
              ∧ (t.slot n).gen = (s.slot n).gen ∧ bit (t.rd FLT_STATUS) 18 = true)))
    ∧ (let req := BitVec.ofNat 13 (2 ^ m.val);
        (st = 0 → s.fld (CIS_BCTL b.val) CIS_BCTL.MASK / 2 ^ m.val % 2 = 1 →
          ∃ t, exec (.cisBankAccess b req off .ok) s = .next t ∧ t.mem = s.mem ∧ t.cisGrant.find b.val = some m.val
            ∧ t.csr = (s.bump (CIS_MCNT m.val) CIS_MCNT.ACCESSES 1).csr)
        ∧ (st ≠ 0 ∨ s.fld (CIS_BCTL b.val) CIS_BCTL.MASK / 2 ^ m.val % 2 = 0 → ∀ e,
          exec (.cisBankAccess b req off e) s = .next (s.fault 0x04 (cisMaster m.val) 0 (Word.ofNat (base + off.toNat))))
        ∧ (∀ (some_ : BitVec 13) e, st = 0 → some_.toNat &&& s.fld (CIS_BCTL b.val) CIS_BCTL.MASK ≠ 0 →
          ∃ t w, exec (.cisBankAccess b some_ off e) s = .next t ∧ t.mem = s.mem ∧ t.cisGrant.find b.val = some w
            ∧ some_.toNat.testBit w = true ∧ (s.fld (CIS_BCTL b.val) CIS_BCTL.MASK).testBit w = true))
    ∧ (s.clkChange.find 8 = none → s.fld (CLK_ISTAT 8) CLK_ISTAT.STATE = 0 →
        ∃ t, exec (.strongroomWipe cause) s = .next t ∧ t.slots = [] ∧ t.fld CIS_SRSTAT CIS_SRSTAT.WIPING = 1
          ∧ t.fld CIS_SRSTAT CIS_SRSTAT.CAUSE = cause.val ∧ bit (t.rd FLT_STATUS) 19 = true
          ∧ ∀ a, memGet t.mem a = if 0x10004000000 ≤ a ∧ a < 0x10005000000 then 0 else memGet s.mem a)
    ∧ (s.clkChange.find 8 = none → s.fld (CLK_ISTAT 8) CLK_ISTAT.STATE = 1 ∨ s.fld (CLK_ISTAT 8) CLK_ISTAT.STATE = 2 →
        ∃ t, exec (.strongroomWipe cause) s = .next t ∧ t.mem = s.mem ∧ t.fld CIS_SRSTAT CIS_SRSTAT.WIPING = 1
          ∧ t.fld CIS_SRSTAT CIS_SRSTAT.CAUSE = cause.val ∧ (t.clkChange.find 8).map IslandChange.target = some 0)
    ∧ (s.clkChange.find 8 = none → s.fld (CLK_ISTAT 8) CLK_ISTAT.STATE = 3 →
        ∃ t, exec (.strongroomWipe cause) s = .next t ∧ t.mem = s.mem ∧ t.fld CIS_SRSTAT CIS_SRSTAT.CAUSE = cause.val
          ∧ t.fld CIS_SRSTAT CIS_SRSTAT.WIPES = if s.wipeAt = some (s.rd HRC_TIME).toNat then s.fld CIS_SRSTAT CIS_SRSTAT.WIPES
              else min (s.fld CIS_SRSTAT CIS_SRSTAT.WIPES + 1) CIS_SRSTAT.WIPES.top)
    ∧ (s.fld CIS_SRSTAT CIS_SRSTAT.WIPING = 0 ∨ s.islandRuns 8 = false → ∀ zero, exec (.strongroomWipeEnd zero) s = .next s)
    ∧ (s.fld CIS_SRSTAT CIS_SRSTAT.WIPING = 1 → s.islandRuns 8 = true →
        (∃ t, exec (.strongroomWipeEnd true) s = .next t ∧ t.slots = [] ∧ t.fld CIS_SRSTAT CIS_SRSTAT.WIPING = 0
          ∧ ∀ a, memGet t.mem a = if 0x10004000000 ≤ a ∧ a < 0x10005000000 then 0 else memGet s.mem a)
        ∧ ∃ t, exec (.strongroomWipeEnd false) s = .next t ∧ t.fallow = true ∧ t.lanesIdle = true ∧ bit (t.rd FLT_STATUS) 20 = true)

/-! Twins and triads (R144-R169) -/

/-- From R146 to R150, R157 to R159. A member closes its interval where R147 lets it: the wait of R82 is over, and the interval holds its
bundle count and outputs. Equal signatures confirm: the leading member's outputs are released to its queue and the checkpoint becomes the
one a rollback uses. A twin whose signatures differ with equal inputs goes back to the last confirmed checkpoint, counted; so does a
group in which a delay register fails its parity. An outvoted member takes the majority's checkpoint and trails again. -/
def Obligations.IntervalsCloseCompareAndConfirm : Prop :=
  ∀ (s : State) (g : Fin 36) (i : Fin 3) (n : Fin 64),
    let x := s.group g.val
    let m := x.members.get Member.reset i.val
    let lead := s.memberCore g.val 0
    (s.guarded g.val = true → (s.memberIdx g.val).contains i.val = true → x.refresh ≠ some i.val → x.mayClose i.val = true →
      s.entryDue g.val i.val = false →
      ¬ (i.val = 0 ∧ x.cmd.isSome = true ∧ x.heldWaits 0 = true ∧ (s.nextCond lead).isNone = true) →
      ∃ t iv, exec (.intervalClose g i) s = .next t ∧ t.mem = s.mem ∧ t.csr = s.csr
        ∧ t.core (s.memberCore g.val i.val) = (s.core (s.memberCore g.val i.val)).quiet false
        ∧ ((t.group g.val).members.get Member.reset i.val).closed = m.closed ++ [iv]
        ∧ iv.count = m.retired ∧ iv.entries = m.entries ∧ iv.outs = m.outs ∧ iv.inputs = m.inputs
        ∧ ((t.group g.val).members.get Member.reset i.val).retired = 0
        ∧ ((t.group g.val).members.get Member.reset i.val).outs = [])
    ∧ (s.guarded g.val = true → x.agreed = false → 2 ≤ (s.voters g.val).length →
        (∀ j ∈ s.voters g.val, ∀ k ∈ s.voters g.val, s.sigEq g.val j k = true) →
        exec (.signatureCompare g) s = .next (s.setGroup g.val { x with agreed := true }))
    ∧ (∀ a b w, s.guarded g.val = true → x.agreed = false → s.voters g.val = [0, 1] → x.attempts = 0 → x.shadow = some w →
        s.oldest g.val 0 = some a → s.oldest g.val 1 = some b → (a.sigState ≠ b.sigState ∨ a.sigOut ≠ b.sigOut) → a.inputs = b.inputs →
        ∃ t, exec (.signatureCompare g) s = .next t ∧ t.mem = s.mem ∧ (t.group g.val).attempts = 1
          ∧ (∀ j ∈ s.memberIdx g.val, (t.core (s.memberCore g.val j)).arch = w.arch)
          ∧ t.fld (TWN_GCNT g.val) TWN_GCNT.MISCOMPARES
              = min (s.fld (TWN_GCNT g.val) TWN_GCNT.MISCOMPARES + 1) TWN_GCNT.MISCOMPARES.top
          ∧ bit (t.rd FLT_STATUS) 4 = true)
    ∧ (∀ iv, x.agreed = true → x.cmd = none → s.oldest g.val 0 = some iv →
        ∃ t, exec (.confirmation g) s = .next t ∧ t.mem = s.mem ∧ (t.group g.val).confirmed = x.confirmed + 1
          ∧ (t.group g.val).agreed = false ∧ (t.group g.val).shadow = some iv.shadow
          ∧ (t.core lead).sb = (s.core lead).sb ++ iv.outs.drop x.released ∧ (t.core lead).arch = (s.core lead).arch
          ∧ ∀ j, j < 3 → x.members.find j ≠ none →
              ((t.group g.val).members.get Member.reset j).closed = (x.members.get Member.reset j).closed.drop 1)
    ∧ (∀ w, s.guarded g.val = true → x.agreed = false → x.attempts = 0 → x.shadow = some w →
        ∃ t, exec (.delayRegisterParityError g n) s = .next t ∧ (t.group g.val).attempts = 1 ∧ t.mem = s.mem
          ∧ ∀ j ∈ s.memberIdx g.val, (t.core (s.memberCore g.val j)).arch = w.arch)
    ∧ (∀ w iv, s.guarded g.val = true → x.agreed = true → x.attempts = 0 → x.shadow = some w → s.oldest g.val 0 = some iv →
        let kept := (iv.outs.drop x.released).take n.val
        ∃ t, exec (.delayRegisterParityError g n) s = .next t ∧ (t.group g.val).attempts = 1 ∧ t.mem = s.mem
          ∧ (t.core lead).sb = (s.core lead).sb ++ kept ∧ (t.group g.val).released = x.released + kept.length)
    ∧ (∀ w, x.refresh = some i.val → x.shadow = some w → x.agreed = false →
        (s.core (s.memberCore g.val i.val)).failed = false →
        ∃ t, exec (.outvotedMemberRefresh g) s = .next t ∧ (t.group g.val).refresh = none ∧ t.mem = s.mem
          ∧ { t.core (s.memberCore g.val i.val) with arch := w.arch }.sameArch (t.core (s.memberCore g.val i.val)))

/-- From R156, R162 to R164 and R167. The checker performs the operation a confirmed interval ended with once, and holds its result for the
members. A checker that fails is retired and reported, and a spare serves its group; a member that halts or is silent is retired; the
cluster's spare joins with the survivor's state, at once or at a triad's next confirmed checkpoint. -/
def Obligations.CheckersAndMembersAreReplaced : Prop :=
  ∀ (s : State) (g : Fin 36) (i : Fin 3) (k : Fin 40) (c : Fin 80) (die : Option Word),
    let x := s.group g.val
    (∀ r, x.request = some r → s.guarded g.val = true → (x.members.get Member.reset 0).closed = [] →
        (x.members.get Member.reset 0).retired = 0 → s.opWaits (s.memberCore g.val 0) r = false →
        ∃ t h, exec (.boundaryOperation g die) s = .next t ∧ (t.group g.val).request = none
          ∧ (t.group g.val).held.find r.port = some h ∧ h.epoch = x.confirmed)
    ∧ (s.chkRetired.contains k.val = false →
        ∃ t, exec (.checkerFault k) s = .next t ∧ t.chkRetired.contains k.val = true ∧ bit (t.rd FLT_STATUS) 7 = true ∧ t.mem = s.mem
          ∧ (∀ h, h < 36 → s.fld (TWN_GCFG h) TWN_GCFG.CHECKER = k.val → (∀ j, j < h → s.fld (TWN_GCFG j) TWN_GCFG.CHECKER ≠ k.val) →
              s.spareCheckers.contains k.val = false →
              (∀ n rest, s.spareCheckers = n :: rest → t.fld (TWN_GCFG h) TWN_GCFG.CHECKER = n)
              ∧ (s.spareCheckers = [] → s.guarded h = true → t.fld (TWN_GCFG h) TWN_GCFG.CHECKER = 0xFF ∧ t.gstate h = 3)))
    ∧ (s.groupOf c.val = some g.val → s.memberCore g.val (s.indexOf c.val) = c.val →
        ∃ t, exec (.memberHalt c) s = .next t ∧ t.role c.val = 4 ∧ t.mem = s.mem)
    ∧ (s.guarded g.val = true → (s.memberIdx g.val).contains i.val = true →
        bits (s.rd (CST_MSAVE (s.memberCore g.val i.val) 0)).toNat 16 5 ≠ 0x12 → s.memberCore g.val i.val < 80 →
        ((∃ e ∈ x.members, e.1 ≠ i.val ∧ (x.members.get Member.reset i.val).closed.length < e.2.closed.length)
          ∨ (i.val = 0 ∧ (∃ e ∈ x.members, e.1 ≠ 0)
            ∧ ∀ e ∈ x.members, e.1 ≠ 0 → (x.members.get Member.reset 0).closed.length ≤ e.2.closed.length)) →
        ∃ t, exec (.signatureTimeout g i) s = .next t ∧ t.role (s.memberCore g.val i.val) = 4 ∧ t.mem = s.mem)
    ∧ (∀ sp (bad : Fin 3), sp < 80 → (∃ rest, x.joining = sp :: rest ∧ sp ∉ rest) → x.cmd = none → s.role sp = 3 → s.fld (TWN_GCFG g.val) TWN_GCFG.CHECKER ≠ 0xFF →
        (s.gstate g.val = 3 → ∃ t, exec (.spareJoin g bad) s = .next t ∧ sp ∉ (t.group g.val).joining ∧ t.mem = s.mem
          ∧ t.role sp = (if bad.val < 2 then 2 else 3))
        ∧ (s.gstate g.val = 2 → ∃ t, exec (.spareJoin g bad) s = .next t ∧ (t.group g.val).cmd = some (.join sp bad.val)
          ∧ t.gstate g.val = 4 ∧ t.mem = s.mem))

/-- From R145, R165 to R168 for TWN_CMD, each ignored while BUSY: MERGE-TWIN joins a parked core behind a split one at once; MERGE-TRIAD,
SPLIT and STOP of a compared group wait for its next confirmed checkpoint; SPLIT and STOP of an unguarded group act at once; PARK stops a
split core after the wait of R82; START starts a parked core at ADDR in host class, or a stopped or diverged group from its last confirmed
checkpoint; OP 7 ends BAD-OP. The copied state that differs from its source twice ends a merge ABORTED (R167). -/
def Obligations.TwinCommandsFollowR166 : Prop :=
  ∀ (s : State),
    let g := s.fldIn TWN_CMD 0 TWN_CMD.GROUP
    let c := s.fldIn TWN_CMD 0 TWN_CMD.CORE
    let l := s.fldIn TWN_CMD 0 TWN_CMD.LEAD
    let a := s.inForce TWN_CMDARG 0
    let ended (t : State) (res : Nat) : Prop := t.fld TWN_CMDSTAT TWN_CMDSTAT.BUSY = 0 ∧ t.fld TWN_CMDSTAT TWN_CMDSTAT.DONE = 1
      ∧ t.fld TWN_CMDSTAT TWN_CMDSTAT.RESULT = res
    let compared : Prop := g < 36 ∧ (s.gstate g = 1 ∨ s.gstate g = 2) ∧ (s.group g).cmd = none
    s.fld TWN_CMDSTAT TWN_CMDSTAT.BUSY = 0 →
    (∃ t, exec .twnBadOp s = .next t ∧ t = { s with csr := t.csr, force := t.force } ∧ ended t 6)
    ∧ (c < 80 → s.role c = 0 → ∃ t, exec .twnPark s = .next t ∧ ended t 0 ∧ t.role c = 1 ∧ t.mem = s.mem
        ∧ t.core c = (s.core c).quiet false ∧ ∀ d, d ≠ c → t.core d = s.core d)
    ∧ (c < 80 → s.role c = 1 → 36 ≤ g → a.toNat % 32 = 0 → ∃ t, exec .twnStart s = .next t ∧ ended t 0 ∧ t.role c = 0
        ∧ (t.core c).port 0x88 = a ∧ (t.core c).host = true ∧ t.mem = s.mem)
    ∧ (∀ w, g < 36 → s.gstate g = 5 ∨ s.gstate g = 6 → s.fld (TWN_GCFG g) TWN_GCFG.CHECKER ≠ 0xFF → (s.group g).shadow = some w →
        (∀ i ∈ s.memberIdx g, s.role (s.memberCore g i) = 2) →
        ∃ t, exec .twnStart s = .next t ∧ ended t 0 ∧ t.mem = s.mem
          ∧ t.gstate g = (let n := (s.memberIdx g).length
              if n = 1 then 3 else if n = s.fld (TWN_GCFG g) TWN_GCFG.MODE + 1 then 1 else 2)
          ∧ ∀ i ∈ s.memberIdx g, let d := s.memberCore g i; { t.core d with arch := w.arch }.sameArch (t.core d))
    ∧ (∀ k (bad : Fin 3), g < 36 → s.gstate g = 0 → l < 80 → c < 80 → s.role l = 0 → s.role c = 1 → l / 10 ≠ c / 10 → s.freeChecker = some k →
        (bad.val < 2 → ∃ t, exec (.mergeTwin bad) s = .next t ∧ ended t 0 ∧ t.gstate g = 1 ∧ t.role l = 2 ∧ t.role c = 2
          ∧ t.memberCore g 0 = l ∧ t.memberCore g 1 = c ∧ ((s.core l).quiet false).sameArch (t.core c) ∧ t.mem = s.mem)
        ∧ (bad.val = 2 → ∃ t, exec (.mergeTwin bad) s = .next t ∧ ended t 7 ∧ t.gstate g = 0 ∧ t.role l = 0 ∧ t.role c = 1
          ∧ t.mem = s.mem))
    ∧ (g < 36 → s.gstate g = 1 → s.fld (TWN_GCFG g) TWN_GCFG.MODE = 1 → (s.group g).cmd = none → c < 80 → s.role c = 1 →
        (∀ i ∈ s.memberIdx g, s.memberCore g i / 10 ≠ c / 10) →
        ∀ bad : Fin 3, ∃ t, exec (.mergeTriad bad) s = .next t ∧ t.fld TWN_CMDSTAT TWN_CMDSTAT.BUSY = 1 ∧ t.gstate g = 4
          ∧ (t.group g).cmd = some (.triad c bad.val) ∧ t.mem = s.mem)
    ∧ (compared → c < 80 → s.groupOf c = some g → a.toNat % 32 = 0 →
        ∃ t, exec .twnSplit s = .next t ∧ t.fld TWN_CMDSTAT TWN_CMDSTAT.BUSY = 1 ∧ t.gstate g = 4
          ∧ (t.group g).cmd = some (.split c a) ∧ t.mem = s.mem)
    ∧ (compared → ∃ t, exec .twnStop s = .next t ∧ t.fld TWN_CMDSTAT TWN_CMDSTAT.BUSY = 1 ∧ (t.group g).cmd = some .stop
        ∧ t.gstate g = s.gstate g ∧ t.cores = s.cores ∧ t.mem = s.mem)
    ∧ (g < 36 → s.gstate g = 3 → (s.group g).cmd = none →
        (∃ t, exec .twnStop s = .next t ∧ ended t 0 ∧ t.gstate g = 5 ∧ t.mem = s.mem)
        ∧ (c < 80 → s.groupOf c = some g → a.toNat % 32 = 0 → s.memberIdx g = [0] → s.memberCore g 0 = c →
          ∃ t, exec .twnSplit s = .next t ∧ ended t 0 ∧ t.role c = 0 ∧ t.gstate g = 0 ∧ (t.core c).port 0x88 = a ∧ t.mem = s.mem))

/-! Links (R245-R268) -/

/-- From R245, R246, R248 to R250, R252, R264, R265 and R268 for the state of a link: EN starts an OFF link and stops any other, clearing its retry
and credit state; each state is left as the table says, on success for the next, on failure for RETRAIN while fewer than RETRAIN_MAX attempts
have failed in a row and then for FAILED or a spare lane; RETRAIN, a loss of lock and silence take an UP link down with their cause. Every
change sets EVENT. A lane that may not run, and an event of another state, leave the link as it is. -/
def Obligations.LinksFollowTheStateMachineOfR248 : Prop :=
  ∀ (s : State) (l : BitVec 8),
    let n := l.toNat
    let st := s.lstate n
    let lane := s.laneOf n
    let runs := s.laneMayRun n
    let mode := if decide (lane < 16) && (!s.fullService || s.rateDue) then 2 else 1
    let changes (i : Instr) (st' : Nat) : Prop := ∃ t, exec i s = .next t ∧ t.lstate n = st'
      ∧ t.fld (LNK_STAT n) LNK_STAT.EVENT = 1 ∧ t.mem = s.mem ∧ t.cores = s.cores
    let keeps (i : Instr) (st' : Nat) : Prop := ∃ t, exec i s = .next t ∧ t.lstate n = st' ∧ t.links = s.links ∧ OnlyCsr s t
    let ignored (i : Instr) (st' : Nat) : Prop := st ≠ st' ∨ runs = false → exec i s = .next s
    (st = 0 → runs = true →
      changes (.linkEnable l) 1 ∧ keeps (.linkEnable l) 1
      ∧ ∃ t, exec (.linkEnable l) s = .next t ∧ t.fld (LNK_CTL n) LNK_CTL.EN = 1
          ∧ t.fld (LNK_PCNT lane) LNK_PCNT.TRAINS = min (s.fld (LNK_PCNT lane) LNK_PCNT.TRAINS + 1) LNK_PCNT.TRAINS.top)
    ∧ (st ≠ 0 ∨ runs = false → keeps (.linkEnable l) st ∧ ∃ t, exec (.linkEnable l) s = .next t ∧ t.fld (LNK_CTL n) LNK_CTL.EN = 1)
    ∧ (st ≠ 0 → ∃ t, exec (.linkDisable l) s = .next t ∧ t.lstate n = 0 ∧ t.fld (LNK_STAT n) LNK_STAT.EVENT = 1
          ∧ t.fld (LNK_CTL n) LNK_CTL.EN = 0 ∧ (t.link n).unacked = [] ∧ (t.link n).epoch = ((s.link n).epoch + 1) % 2 ^ 32)
    ∧ (st = 0 → keeps (.linkDisable l) 0 ∧ ∃ t, exec (.linkDisable l) s = .next t ∧ t.fld (LNK_CTL n) LNK_CTL.EN = 0)
    ∧ (st = 1 → runs = true → changes (.autonegComplete l) 2 ∧ keeps (.autonegComplete l) 2
        ∧ ∃ t, exec (.autonegComplete l) s = .next t ∧ t.fld (LNK_PSTAT lane) LNK_PSTAT.MODE = mode)
    ∧ (st = 2 → runs = true → changes (.trainingComplete l) 3
        ∧ ∃ t, exec (.trainingComplete l) s = .next t ∧ t.links = s.links
          ∧ t.coeffs.contains (2 * lane + s.fld (LNK_PSTAT lane) LNK_PSTAT.MODE % 2) = true)
    ∧ (st = 3 → runs = true → changes (.lockHeld l) 4 ∧ ∃ t, exec (.lockHeld l) s = .next t ∧ t.fld (LNK_PSTAT lane) LNK_PSTAT.LOCK = 1
        ∧ (t.link n).unacked = (s.link n).unacked ∧ (t.link n).initRx = false)
    ∧ (runs = true →
        let top := s.fld (LNK_CFG n) LNK_CFG.RETRAIN_MAX
        let next := min (s.fld (LNK_STAT n) LNK_STAT.TRAINFAIL + 1) LNK_STAT.TRAINFAIL.top
        let fails (i : Instr) : Prop :=
          (next < top → changes i 6 ∧ ∃ t, exec i s = .next t ∧ t.links = s.links ∧ t.fld (LNK_STAT n) LNK_STAT.TRAINFAIL = next
            ∧ t.fld (LNK_PSTAT lane) LNK_PSTAT.MODE = 0 ∧ t.fld (LNK_PSTAT lane) LNK_PSTAT.LOCK = 0)
          ∧ (top ≤ next → s.runSpare n = none → ∃ t, exec i s = .next t ∧ t.lstate n = 7 ∧ t.mem = s.mem
            ∧ t.fld (LNK_STAT n) LNK_STAT.TRAINFAIL = next ∧ t.fld (LNK_STAT n) LNK_STAT.EVENT = 1)
          ∧ (∀ k, top ≤ next → s.runSpare n = some k → ∃ t, exec i s = .next t ∧ t.lstate n = 1 ∧ t.mem = s.mem
            ∧ t.fld (LNK_STAT n) LNK_STAT.TRAINFAIL = 0 ∧ t.laneOf n = 256 + k ∧ t.fld (LNK_PSTAT (256 + k)) LNK_PSTAT.CARRIES = n)
        (st = 2 → fails (.trainingFailure l)) ∧ (st = 3 → fails (.lockTimeout l)) ∧ (st = 4 → fails (.initTimeout l)))
    ∧ (st = 6 → runs = true → changes (.retrainIdleEnd l) 1 ∧ keeps (.retrainIdleEnd l) 1)
    ∧ (st = 5 → (s.link n).move = none →
        let downs (i : Instr) (cause : Nat) : Prop := ∃ t, exec i s = .next t ∧ t.lstate n = 6
          ∧ t.fld (LNK_STAT n) LNK_STAT.DOWNCAUSE = cause ∧ t.fld (LNK_STAT n) LNK_STAT.EVENT = 1
          ∧ t.fld (LNK_CNT1 n) LNK_CNT1.DOWNS = min (s.fld (LNK_CNT1 n) LNK_CNT1.DOWNS + 1) LNK_CNT1.DOWNS.top
          ∧ (t.link n).unacked = (s.link n).unacked
        downs (.linkRetrain l) 4 ∧ (runs = true → downs (.lossOfLock l) 1 ∧ downs (.liveTimeout l) 2))
    ∧ (st ≠ 5 → exec (.linkRetrain l) s = .next s)
    ∧ ignored (.autonegComplete l) 1 ∧ ignored (.trainingComplete l) 2 ∧ ignored (.trainingFailure l) 2 ∧ ignored (.lockHeld l) 3
    ∧ ignored (.lockTimeout l) 3 ∧ ignored (.initTimeout l) 4 ∧ ignored (.retrainIdleEnd l) 6 ∧ ignored (.lossOfLock l) 5
    ∧ ignored (.liveTimeout l) 5

/-- From R246 and R253 for a planned substitution: PREPARE goes out and the spare carries the link; once the peer is prepared and the spare
holds lock, COMMIT is the last frame on the old lane and the link's lane is the spare; before that, a timeout or EN = 0 sends ABORT, returns the
spare unused and reports LNK-SPARE. Without an UP link and a serving spare that may run, MOVE is ignored. -/
def Obligations.PlannedSubstitutionFollowsR253 : Prop :=
  ∀ (s : State) (l : BitVec 8),
    let n := l.toNat
    let x := s.link n
    let st := s.lstate n
    (∀ k, st = 5 → x.move = none → s.runSpare n = some k →
      ∃ t, exec (.linkMove l) s = .next t ∧ t.fld (LNK_PSTAT (256 + k)) LNK_PSTAT.CARRIES = n
        ∧ (t.link n).move = some ⟨k, s.laneOf n, false, false, false⟩ ∧ (t.link n).unacked = x.unacked ∧ t.lstate n = 5
        ∧ ∃ f, t.out = s.onWire n f :: s.out ∧ f.typ = 5 ∧ f.payload.take 2 = [1, BitVec.ofNat 8 k])
    ∧ (st ≠ 5 ∨ x.move ≠ none ∨ s.runSpare n = none → exec (.linkMove l) s = .next s)
    ∧ (x.move = none → exec (.spareLaneLocked l) s = .next s ∧ exec (.moveTimeout l) s = .next s)
    ∧ (∀ m, x.move = some m → m.spare < 32 →
        let spare := 256 + m.spare
        let freed (t : State) : Prop := (∀ j, j < 8 → s.lstate (8 * m.spare + j) ≠ 7) → t.fld (LNK_PSTAT spare) LNK_PSTAT.CARRIES = 0x1FF
        (s.laneRuns spare = true → m.prepared = false → m.committed = false → ∃ t, exec (.spareLaneLocked l) s = .next t
          ∧ t.fld (LNK_PSTAT spare) LNK_PSTAT.LOCK = 1 ∧ t.fld (LNK_PSTAT spare) LNK_PSTAT.MODE = 1
          ∧ t.coeffs.contains (2 * spare + 1) = true ∧ (t.link n).move = some { m with locked := true } ∧ t.out = s.out)
        ∧ (s.laneRuns spare = true → m.prepared = true → m.committed = false → x.work = [] → x.replaying = [] →
          ∃ t, exec (.spareLaneLocked l) s = .next t
          ∧ t.fld (LNK_STAT n) LNK_STAT.LANE = spare ∧ (t.link n).move = some { m with locked := true, committed := true }
          ∧ ∃ f, t.out = s.onWire n f :: s.out ∧ f.typ = 5 ∧ f.payload.take 2 = [2, BitVec.ofNat 8 m.spare])
        ∧ (s.laneRuns spare = false → exec (.spareLaneLocked l) s = .next s)
        ∧ (m.committed = false → st = 5 → s.laneMayRun n = true → ∃ t, exec (.moveTimeout l) s = .next t ∧ (t.link n).move = none
          ∧ t.lstate n = 5 ∧ freed t ∧ bit (t.rd FLT_STATUS) 21 = true
          ∧ ∃ f new, t.out = new ++ s.onWire n f :: s.out ∧ f.typ = 5 ∧ f.payload.take 2 = [3, BitVec.ofNat 8 m.spare])
        ∧ (m.committed = true → exec (.moveTimeout l) s = .next s)
        ∧ (m.committed = false → st ≠ 0 → ∃ t, exec (.linkDisable l) s = .next t ∧ (t.link n).move = none ∧ t.lstate n = 0
          ∧ freed t ∧ bit (t.rd FLT_STATUS) 21 = true))

/-- From R247, R253 to R263 and R269 for received packets, in the Ethernet frame of R263 where ENCAP is set, on an UP link whose lane runs. The
next DATA frame is accepted and its message passed on where the checks of R281 hold; one out of turn is acknowledged or answered with NAK; an
acknowledgement releases the frames it covers; a NAK has the rest sent again in order; every frame taken returns credit; an INIT takes the
link down; a packet that fails its checks is counted; a lane that may not run ignores all. -/
def Obligations.ReceivedFramesFollowR257ToR262 : Prop :=
  ∀ (s : State) (l : BitVec 8) (p : List Byte) (f : Frame) (recent : Bool),
    let n := l.toNat
    let x := s.link n
    let chk := (if s.flag (LNK_CTL n) LNK_CTL.ENCAP then s.decapsulate n p else some p).map checkPacket
    let freed' := cmod x.freed f.crcls (fun n => (n + (f.cred + 1024 - cget x.lastCred f.crcls) % 1024) % 65536)
    let covered := x.unacked.drop ((f.ackseq + 65536 - (x.unacked.map TxFrame.seq).headD 0) % 65536 + 1)
    let oldest := (x.unacked.map TxFrame.seq).headD 0
    let counts (t : State) (a : Nat) (g : Fld) : Prop := t.fld a g = min (s.fld a g + 1) g.top
    let replays (q : List TxFrame) : List Output := (q.map (fun d => s.onWire n ⟨0, d.seq, (x.expect + 65535) % 65536, true, d.cls, d.cls,
      cget x.ownFreed d.cls % 1024, d.payload⟩)).reverse
    (s.lstate n = 5 → s.laneMayRun n = true →
      (∀ corr uncorr, chk = some (.good f) → f.typ = 0 → f.ackv = false → f.seq = x.expect → x.expect < 65536 →
        ∃ t, exec (.dataFrameRx l p false recent corr uncorr) s = .next t ∧ (t.link n).expect = (x.expect + 1) % 65536
          ∧ (t.link n).freed = freed' ∧ (x.work = [] → x.replaying = [] → (t.link n).unacked = x.unacked)
          ∧ t.inbox = (if s.messageGood n f.cls f.payload then s.inbox ++ [(n, f.payload)] else s.inbox)
          ∧ counts t (LNK_CNT0 n) LNK_CNT0.RX_DATA
          ∧ t.fld (LNK_PCNT (s.laneOf n)) LNK_PCNT.FEC_CORR =
              min (s.fld (LNK_PCNT (s.laneOf n)) LNK_PCNT.FEC_CORR + corr.toNat) LNK_PCNT.FEC_CORR.top
          ∧ t.fld (LNK_PCNT (s.laneOf n)) LNK_PCNT.FEC_UNCORR =
              min (s.fld (LNK_PCNT (s.laneOf n)) LNK_PCNT.FEC_UNCORR + uncorr.toNat) LNK_PCNT.FEC_UNCORR.top)
      ∧ (chk = some (.good f) → f.typ = 0 → f.seq ≠ x.expect → f.seq < 65536 → x.expect < 65536 → x.work = [] → x.replaying = [] →
          let late := decide (32768 ≤ (f.seq + 65536 - x.expect) % 65536)
          ∃ t, exec (.dataFrameRx l p false recent 0 0) s = .next t ∧ (t.link n).expect = x.expect ∧ (t.link n).unacked = x.unacked
            ∧ (t.link n).freed = x.freed ∧ t.inbox = s.inbox ∧ counts t (LNK_CNT1 n) LNK_CNT1.DISCARDS
            ∧ t.out = (if !late && recent && x.nakFor == some x.expect then s.out
                else s.onWire n ⟨if late then 1 else 2, 0, (x.expect + 65535) % 65536, true, 0, 0, cget x.ownFreed 0 % 1024, []⟩ :: s.out))
      ∧ (chk = some .badCrc → recent = true → x.nakFor = some x.expect →
          exec (.dataFrameRx l p false recent 0 0) s = .next ((s.countFec (s.laneOf n) 0 0).bump (LNK_CNT1 n) LNK_CNT1.CRC_ERR 1))
      ∧ (chk = some .badCrc → recent = false →
          ∃ t, exec (.dataFrameRx l p false recent 0 0) s = .next t ∧ counts t (LNK_CNT1 n) LNK_CNT1.CRC_ERR
            ∧ (t.link n).nakFor = some x.expect ∧ (t.link n).expect = x.expect ∧ ∃ g, t.out = s.onWire n g :: s.out ∧ g.typ = 2)
      ∧ (chk = none ∨ chk = some .discard → ∀ during,
          let d := s.bump (LNK_CNT1 n) LNK_CNT1.DISCARDS 1
          exec (.ackFrameRx l p recent) s = .next d ∧ exec (.nakFrameRx l p recent during) s = .next d
          ∧ exec (.holdFrameRx l p recent) s = .next d ∧ exec (.initFrameRx l p recent) s = .next d
          ∧ exec (.moveFrameRx l p recent) s = .next d)
      ∧ (∃ t, exec (.dataFrameRx l p true recent 0 0) s = .next t ∧ t.links = s.links ∧ t.out = s.out ∧ t.inbox = s.inbox
          ∧ counts t (LNK_CNT1 n) LNK_CNT1.DISCARDS)
      ∧ (chk = some (.good f) → f.typ = 1 ∨ f.typ = 3 → f.ackv = true → x.inWindow f.ackseq = true →
          ∃ t new, exec (if f.typ = 1 then .ackFrameRx l p recent else .holdFrameRx l p recent) s = .next t
            ∧ (t.link n).unacked = covered ++ new ∧ (t.link n).freed = freed' ∧ (t.link n).replays = 0
            ∧ (x.work = [] → x.replaying = [] → new = [] ∧ t.out = s.out ∧ t.csr = s.csr))
      ∧ (∀ during, chk = some (.good f) → f.typ = 2 → x.inWindow f.ackseq = true → during = false ∨ x.nakReplay ≠ some f.ackseq →
          covered ≠ [] → 0 < s.fld (LNK_CFG n) LNK_CFG.RETRY_MAX → x.unacked.length ≤ 4096 → x.work = [] →
          ∃ t, exec (.nakFrameRx l p recent during) s = .next t ∧ (t.link n).unacked = covered ∧ (t.link n).replays = 1
            ∧ counts t (LNK_CNT1 n) LNK_CNT1.REPLAYS ∧ t.out = replays covered ++ s.out)
      ∧ (∀ during, chk = some (.good f) → f.typ = 2 → x.unacked ≠ [] → (f.ackseq + 1) % 65536 = oldest → x.inWindow f.ackseq = false →
          during = false ∨ x.nakReplay ≠ some f.ackseq →
          (x.replays < s.fld (LNK_CFG n) LNK_CFG.RETRY_MAX → x.work = [] →
            ∃ t, exec (.nakFrameRx l p recent during) s = .next t ∧ (t.link n).unacked = x.unacked ∧ (t.link n).replays = x.replays + 1
              ∧ t.out = replays x.unacked ++ s.out)
          ∧ (s.fld (LNK_CFG n) LNK_CFG.RETRY_MAX ≤ x.replays → x.move = none →
            ∃ t, exec (.nakFrameRx l p recent during) s = .next t ∧ t.lstate n = 6 ∧ t.fld (LNK_STAT n) LNK_STAT.DOWNCAUSE = 3))
      ∧ (chk = some (.good f) → f.typ = 2 → x.inWindow f.ackseq = true → x.nakReplay = some f.ackseq → x.work = [] → x.replaying = [] →
          ∃ t, exec (.nakFrameRx l p recent true) s = .next t ∧ (t.link n).unacked = x.unacked ∧ t.out = s.out ∧ t.csr = s.csr)
      ∧ (∀ m, chk = some (.good f) → f.typ = 5 → f.ackv = false → x.move = some m → x.work = [] → x.replaying = [] → m.spare < 32 →
          (f.payload.take 1 = [1] → m.locked = false →
            ∃ t, exec (.moveFrameRx l p recent) s = .next t ∧ (t.link n).move = some { m with prepared := true } ∧ t.csr = s.csr)
          ∧ (f.payload.take 1 = [1] → m.locked = true → m.committed = false →
            ∃ t, exec (.moveFrameRx l p recent) s = .next t ∧ t.laneOf n = 256 + m.spare
              ∧ (t.link n).move = some { m with prepared := true, committed := true })
          ∧ (f.payload.take 1 = [2] → m.committed = true →
            ∃ t, exec (.moveFrameRx l p recent) s = .next t ∧ (t.link n).move = none ∧ t.fld (LNK_PSTAT m.old) LNK_PSTAT.CARRIES = 0x1FF)
          ∧ (f.payload.take 1 = [3] → m.committed = false →
            ∃ t, exec (.moveFrameRx l p recent) s = .next t ∧ (t.link n).move = none ∧ bit (t.rd FLT_STATUS) 21 = true))
      ∧ (chk = some (.good f) → f.typ = 4 → initGood f.payload = true → x.move = none →
          ∃ t, exec (.initFrameRx l p recent) s = .next t ∧ t.lstate n = 6 ∧ t.fld (LNK_STAT n) LNK_STAT.DOWNCAUSE = 5
            ∧ t.fld (LNK_STAT n) LNK_STAT.PEER_LINK = beNat (f.payload.take 2) % 256
            ∧ t.fld (LNK_STAT n) LNK_STAT.PEER_EPOCH = beNat ((f.payload.drop 4).take 4))
      ∧ (∀ (c : BitVec 2) (cred : BitVec 10), ∃ t, exec (.creditReturn l c cred) s = .next t
          ∧ (x.work = [] → x.replaying = [] → t.csr = s.csr ∧ t.out = s.out)
          ∧ (t.link n).freed = cmod x.freed c.toNat (fun n => (n + (cred.toNat + 1024 - cget x.lastCred c.toNat) % 1024) % 65536)
          ∧ (t.link n).lastCred = cmod x.lastCred c.toNat (fun _ => cred.toNat)))
    ∧ (s.lstate n = 4 → s.laneMayRun n = true → chk = some (.good f) → f.typ = 4 → initGood f.payload = true →
        let epoch := beNat ((f.payload.drop 4).take 4)
        let seen := x.initSeenRx || (beNat ((f.payload.drop 3).take 1)).testBit 0
        (x.peerKnown = false ∨ epoch ≠ x.peerEpoch →
          (seen = false ∨ x.initSeenTx = false →
            ∃ t, exec (.initFrameRx l p recent) s = .next t ∧ t.lstate n = 4 ∧ t.out = s.out ∧ (t.link n).unacked = []
              ∧ (t.link n).buf = fourOf f.payload 8 ∧ (t.link n).freed = fourOf f.payload 16 ∧ (t.link n).consumed = fourOf f.payload 16
              ∧ (t.link n).next = beNat ((f.payload.drop 26).take 2) ∧ (t.link n).expect = beNat ((f.payload.drop 24).take 2)
              ∧ (t.link n).initRx = true ∧ (t.link n).peerEpoch = epoch ∧ (t.link n).peerKnown = true)
          ∧ (seen = true → x.initSeenTx = true → ∃ t, exec (.initFrameRx l p recent) s = .next t ∧ t.lstate n = 5
              ∧ t.fld (LNK_STAT n) LNK_STAT.EVENT = 1 ∧ t.fld (LNK_STAT n) LNK_STAT.TRAINFAIL = 0)))
    ∧ (s.laneMayRun n = false ∨ (s.lstate n ≠ 5 ∧ s.lstate n ≠ 4) → ∀ during,
        exec (.ackFrameRx l p recent) s = .next s ∧ exec (.nakFrameRx l p recent during) s = .next s
        ∧ exec (.holdFrameRx l p recent) s = .next s ∧ exec (.initFrameRx l p recent) s = .next s
        ∧ exec (.moveFrameRx l p recent) s = .next s ∧ exec (.dataFrameRx l p false recent 0 0) s = .next (s.countFec (s.laneOf n) 0 0))
    ∧ (s.laneMayRun n = false ∨ s.lstate n ≠ 5 → ∀ c cred, exec (.creditReturn l c cred) s = .next s)

/-- From R251, R256, R257, R259 to R263, R265 and R267 for what a link sends, in an Ethernet frame where ENCAP is set. A frame is sent at least
every 156 hc: ACK, or HOLD while nobody holds the water turn, one for every credit return due; INIT in INIT, which ends in UP once both ends have
sent and received one with SEEN; unacknowledged frames are sent again from the oldest when no acknowledgement comes, and after RETRY_MAX replays
the link goes down; a message of a session that names the link goes out as the next DATA frame, or waits for window, credit and an UP link; any
other is stopped by the levee and reported. -/
def Obligations.LinkTransmissionFollowsR256ToR267 : Prop :=
  ∀ (s : State) (l : BitVec 8) (m : List Byte),
    let n := l.toNat
    let x := s.link n
    let runs := s.laneMayRun n
    let ack := (x.expect + 65535) % 65536
    let cls := mtClass (msgType m)
    let due := (List.range 4).filter (fun c => cget x.ownFreed c != cget x.reported c)
    (s.lstate n = 5 → runs = true →
      ∃ t, exec (.keepaliveTx l) s = .next t ∧ t.csr = s.csr ∧ (t.link n).unacked = x.unacked
        ∧ t.out = ((if due.isEmpty then [0] else due).map (fun c => s.onWire n ⟨if s.fld SLU_STAT SLU_STAT.HOLDER = 2 then 3 else 1, 0, ack,
            true, 0, c, cget x.ownFreed c % 1024, []⟩)).reverse ++ s.out)
    ∧ (s.lstate n ≠ 5 ∨ runs = false → exec (.keepaliveTx l) s = .next s ∧ exec (.replayTimeout l) s = .next s)
    ∧ (s.lstate n = 4 → runs = true →
        (x.initSeenRx = false ∨ (x.initRx = false ∧ x.initSeenTx = false) →
          ∃ t, exec (.initTx l) s = .next t ∧ t.link n = { x with initSeenTx := x.initSeenTx || x.initRx }
            ∧ t.csr = s.csr ∧ t.out = s.onWire n ⟨4, 0, 0, false, 0, 0, 0, s.initPayload n⟩ :: s.out)
        ∧ (x.initSeenRx = true → x.initRx = true ∨ x.initSeenTx = true → ∃ t, exec (.initTx l) s = .next t ∧ t.lstate n = 5
            ∧ t.fld (LNK_STAT n) LNK_STAT.EVENT = 1 ∧ t.fld (LNK_STAT n) LNK_STAT.TRAINFAIL = 0))
    ∧ (s.lstate n ≠ 4 ∨ runs = false → exec (.initTx l) s = .next s)
    ∧ (s.lstate n = 5 → runs = true → x.unacked ≠ [] →
        (x.replays < s.fld (LNK_CFG n) LNK_CFG.RETRY_MAX → x.work = [] →
          ∃ t, exec (.replayTimeout l) s = .next t ∧ (t.link n).unacked = x.unacked ∧ (t.link n).replays = x.replays + 1
            ∧ t.fld (LNK_CNT1 n) LNK_CNT1.REPLAYS = min (s.fld (LNK_CNT1 n) LNK_CNT1.REPLAYS + 1) LNK_CNT1.REPLAYS.top
            ∧ t.out = (x.unacked.map (fun d => s.onWire n ⟨0, d.seq, ack, true, d.cls, d.cls,
                cget x.ownFreed d.cls % 1024, d.payload⟩)).reverse ++ s.out)
        ∧ (s.fld (LNK_CFG n) LNK_CFG.RETRY_MAX ≤ x.replays → x.move = none →
          ∃ t, exec (.replayTimeout l) s = .next t ∧ t.lstate n = 6 ∧ t.fld (LNK_STAT n) LNK_STAT.DOWNCAUSE = 3))
    ∧ (x.unacked = [] → exec (.replayTimeout l) s = .next s)
    ∧ (24 ≤ m.length → m.length ≤ 4096 → s.sluActs = true →
        (s.canSend n cls m.length → s.leveePasses n m = true →
          ∃ t, exec (.frameWork l m) s = .next t ∧ (t.link n).unacked = x.unacked ++ [⟨x.next, cls, m⟩]
            ∧ (t.link n).next = (x.next + 1) % 65536 ∧ (t.link n).work = []
            ∧ t.out = s.onWire n ⟨0, x.next, ack, true, cls, cls, cget x.ownFreed cls % 1024, m⟩ :: s.out)
        ∧ (s.lstate n ≠ 5 ∨ runs = false ∨ (x.work = [] ∧ x.replaying = [] ∧ x.credit cls m.length = false) → s.leveePasses n m = true →
          ∃ t, exec (.frameWork l m) s = .next t ∧ t.out = s.out ∧ (t.link n).unacked = x.unacked
            ∧ (t.link n).work.map TxFrame.payload = x.work.map TxFrame.payload ++ [m])
        ∧ (s.leveePasses n m = false → ∃ t, exec (.frameWork l m) s = .next t ∧ t.links = s.links
            ∧ bit (t.rd FLT_STATUS) 22 = true ∧ t.inbox = s.inbox))
    ∧ (24 ≤ m.length → m.length ≤ 4096 → s.sluActs = false → exec (.frameWork l m) s = .next s)
    ∧ (m.length < 24 ∨ 4096 < m.length → exec (.frameWork l m) s = .refused .illFormed)

/-! Sessions and doorbells (R269-R305) -/

/-- From R271 to R274 and R486 for the commands of sessions: OP 6 and 7 end with 8, a misaligned ARG with 7, and every OP but READ with 9 while
the block is stopped; OPEN and PATHS of a session in the wrong state end with 1, of a descriptor that cannot be read or is out of range with 2.
OPEN of a good descriptor leaves the session OPENING in a new epoch, and the command busy; CLOSE and CLOSE-FORCE leave it CLOSING, CLOSE-FORCE
after ending its transactions, with its RESET sent or due once it has no work left, and end at once after a lost context; PATHS replaces the
paths alone; READ writes the 128-byte context. They wait while the image is written or no master acts for the module. The image done, the table
is in force; RUN = 0 stops the block once every session is CLOSED. -/
def Obligations.SessionCommandsFollowR274 : Prop :=
  ∀ (s : State),
    let n := s.fld SES_CMD SES_CMD.SESSION
    let a := s.fld SES_CMDARG SES_CMDARG.ADDR
    let k := s.session n
    let running := s.fld SES_STAT SES_STAT.RUNNING = 1
    let free := s.sesInit = false ∧ s.sluActs = true
    let readable := a % 64 = 0 ∧ s.mayReach .sluice a = true ∧ s.poisonedRange a 64 = false
    let opened : Session := { Session.closed with desc := s.bytes a 64 }
    let moved : Session := { k with desc := k.desc.take 8 ++ s.bytes (a + 8) 8 ++ k.desc.drop 16 }
    let framed (t : State) : Prop := s.sesImage = false → t.mem = s.mem
    let quiet (t : State) : Prop := (∀ l, l < 256 → s.lstate l ≠ 5) → t.out = s.out
    let ends (i : Instr) (res : Nat) : Prop := ∃ t, exec i s = .next t ∧ SesEnded t res ∧ OnlyCsr { s with sesBusy := none, sesAddr := a } t
    let fails (i : Instr) (res : Nat) : Prop := ∃ t, exec i s = .next t ∧ SesEnded t res ∧ t.sessions = s.sessions ∧ t.mem = s.mem
    (s.fld SES_CMDSTAT SES_CMDSTAT.BUSY = 0 →
      ends .sesBadOp 8
      ∧ (a % 64 ≠ 0 → ends .sesOpen 7 ∧ ends .sesPaths 7 ∧ ends .sesRead 7)
      ∧ (¬ running → ends .sesClose 9 ∧ ends .sesCloseForce 9 ∧ (a % 64 = 0 → ends .sesOpen 9 ∧ ends .sesPaths 9))
      ∧ (running → free → a % 64 = 0 →
          (k.state ≠ 0 → ends .sesOpen 1) ∧ (k.state ≠ 2 → ends .sesPaths 1)
          ∧ (k.state ≠ 2 → k.state ≠ 3 → ends .sesClose 1 ∧ ends .sesCloseForce 1))
      ∧ (running → free → a % 64 = 0 → ¬ readable → (k.state = 0 → fails .sesOpen 2) ∧ (k.state = 2 → fails .sesPaths 2))
      ∧ (running → free → readable → k.state = 0 →
          (s.descBad n opened = true → fails .sesOpen 2)
          ∧ (s.descBad n opened = false → (s.others n).any (fun e => e.2.allot == opened.allot && e.2.bell == opened.bell) = true →
              fails .sesOpen 3)
          ∧ (s.descBad n opened = false → (s.others n).any (fun e => e.2.allot == opened.allot && e.2.bell == opened.bell) = false →
            (s.linkFull opened.links = true → fails .sesOpen 4)
            ∧ (s.linkFull opened.links = false →
              ∃ t, exec .sesOpen s = .next t ∧ (t.session n).state = 1 ∧ (t.session n).desc = s.bytes a 64
                ∧ (t.session n).sepoch = (k.sepoch + 1) % 65536 ∧ (t.session n).isn = some (t.session n).nextTseq
                ∧ (t.session n).bellDseq = (t.session n).nextDseq ∧ t.sesBusy = some (1, n)
                ∧ t.fld SES_CMDSTAT SES_CMDSTAT.BUSY = 1 ∧ framed t ∧ quiet t)))
      ∧ (running → free →
          (k.state = 3 → k.reason = 6 → ∀ i, i = .sesClose ∨ i = .sesCloseForce →
            ∃ t, exec i s = .next t ∧ (t.session n).state = 0 ∧ SesEnded t 0 ∧ framed t)
          ∧ (k.state = 2 ∨ k.state = 3 ∧ k.reason ≠ 6 → ∀ i, i = .sesClose ∨ i = .sesCloseForce →
            ∃ t, exec i s = .next t ∧ (t.session n).state = 4
              ∧ t.fld SES_CMDSTAT SES_CMDSTAT.BUSY = 1 ∧ t.sesBusy = some (if i = .sesClose then 2 else 3, n)
              ∧ (s.live = [] → s.tailQueue = [] → k.bellDseq = k.nextDseq → (t.session n).closing = some .sent ∧ framed t ∧ quiet t)
              ∧ (i = .sesClose → s.live ≠ [] → s.unendedRecs n k.nextTseq ≠ [] → (t.session n).closing = some .waiting ∧ t.live = s.live))
          ∧ (∀ j, k.state = 2 → s.sesImage = false → j < 4194304 → s.unendedRecs n k.nextTseq = [j] →
            ∃ t, exec .sesCloseForce s = .next t ∧ (t.record j).state = 5
              ∧ (t.record j).status = if (s.record j).state = 1 then 0x10 else 0x11))
      ∧ (running → free → readable → k.state = 2 → k.desc.length = 64 →
          (pathsBad moved = true → fails .sesPaths 2)
          ∧ (pathsBad moved = false → s.linkFull (moved.links.filter (fun l => !k.links.contains l)) = true → fails .sesPaths 4)
          ∧ (pathsBad moved = false → s.linkFull (moved.links.filter (fun l => !k.links.contains l)) = false →
            moved.links.contains k.activeLink = true →
            ∃ t, exec .sesPaths s = .next t ∧ SesEnded t 0 ∧ (t.session n).desc = moved.desc ∧ (t.session n).state = 2
              ∧ (t.session n).active = moved.pathOf k.activeLink ∧ framed t ∧ quiet t))
      ∧ (free → a % 64 = 0 → s.rangeClass a = .normal → k.desc.length = 64 →
          ∃ t, exec .sesRead s = .next t ∧ SesEnded t 0 ∧ t.sessions = s.sessions
            ∧ StoredBytes s.mem t.mem a 128 (fun j => (s.context n k).getD j 0))
      ∧ (¬ free → a % 64 = 0 → exec .sesRead s =
          .next { s.setF SES_CMDSTAT SES_CMDSTAT.BUSY 1 with sesBusy := some (5, n), sesWait := true, sesAddr := a }))
    ∧ (s.fld SES_CMDSTAT SES_CMDSTAT.BUSY = 1 → ∀ i ∈ [Instr.sesOpen, .sesClose, .sesCloseForce, .sesPaths, .sesRead, .sesBadOp],
        exec i s = .next s)
    ∧ (s.sesInit = false ∨ s.sluActs = false → exec .sesCtxbaseInit s = .next s)
    ∧ (s.sesInit = true → s.sluActs = true → ∃ t, exec .sesCtxbaseInit s = .next t ∧ t.sesInit = false ∧ t.sesImage = true
        ∧ (s.sesBusy = none → t.sessions = s.sessions))
    ∧ (s.fld SES_CFG SES_CFG.RUN = 0 → s.fld SES_CMDSTAT SES_CMDSTAT.BUSY = 0 → (∀ e ∈ s.sessions, e.2.state = 0) →
        ∃ t, exec .sesStop s = .next t ∧ OnlyCsr s t ∧ t.fld SES_STAT SES_STAT.RUNNING = 0)
    ∧ (s.fld SES_CFG SES_CFG.RUN = 1 ∨ s.fld SES_CMDSTAT SES_CMDSTAT.BUSY = 1 ∨ (∃ e ∈ s.sessions, e.2.state ≠ 0) → exec .sesStop s = .next s)

/-- From R274, R281, R284, R285, R291 and R292 for messages from a peer, each the oldest of the inbox, of a session and path that still
stand: OPEN-ACK with RESULT 0 opens, or adds an answered path, and with another closes an OPENING session; RESET is acknowledged, closes
an OPENING session and breaks an OPEN one; RESET-ACK closes a CLOSING one; TACK takes a transaction from ISSUED to ACKED; RDATA goes to
the buffer, or is kept for the flume when sealed; TEND ends a transaction whose data has arrived, with its tailrace entry queued; RDATA of
a transaction that sends data, and bytes beyond the wire limit, reset the session; a new ATTN is recorded and queued as an entry; a
repeated one, its entry written, is acknowledged on the active path. A message whose session has closed or opened anew is discarded; a
record is read, its copies checked, before a message acts on it, and one that is not lost is acted on; while no master acts for the module
nothing is taken. -/
def Obligations.PeerMessagesFollowR285 : Prop :=
  ∀ (s : State) (l : Nat) (m : List Byte) (rest : List (Nat × List Byte)) (i : Nat),
    let n := msgDsess m
    let k := s.session n
    let b := msgBody m
    let f (o w : Nat) := beNat ((b.drop o).take w)
    let r := s.record i
    let x := s.xfer i
    let p := 0x7FE0000000 + 64 * i
    let took := { s with inbox := rest }
    let read := (took.holderRead i .ok .ok).1
    let framed (t : State) : Prop := s.sesImage = false → t.mem = s.mem
    let closes (t : State) (res : Nat) : Prop := t.inbox = rest ∧ (t.session n).state = 0
      ∧ (s.sesBusy.map Prod.snd = some n → SesEnded t res) ∧ framed t
    let breaks (t : State) (reason : Nat) : Prop := t.inbox = rest ∧ (t.session n).state = 3 ∧ (t.session n).reason = reason
    s.inbox = (l, m) :: rest →
    (s.sluActs = false → ∀ c ∈ [Instr.openAckRx, .resetRx, .resetAckRx, .tackRx, .rdataRx, .tendRx, .attnRx],
        exec c s = .next s)
    ∧ (s.sluActs = true → s.stillNamed l m = false → n ≠ 0xFFFFFF →
        let discards (c : Instr) : Prop := exec c s = .next (took.bump (LNK_CNT1 l) LNK_CNT1.DISCARDS 1)
        (msgType m = 2 → discards .openAckRx) ∧ (msgType m = 3 → discards .resetRx) ∧ (msgType m = 4 → discards .resetAckRx)
        ∧ (msgType m = 0x30 → discards .tackRx) ∧ (msgType m = 0x21 → discards .rdataRx) ∧ (msgType m = 0x31 → discards .tendRx)
        ∧ (msgType m = 0x32 → discards .attnRx))
    ∧ (s.sluActs = true → s.stillNamed l m = true → n < 262144 →
      (msgType m = 2 → f 0 1 = 0 → 10 ≤ f 1 1 → f 1 1 ≤ k.offered → f 2 1 &&& k.opOffer = f 2 1 →
        (k.state = 1 → ∃ t, exec .openAckRx s = .next t ∧ t.inbox = rest ∧ (t.session n).state = 2 ∧ (t.session n).wlog2 = f 1 1
          ∧ (t.session n).opts = f 2 1 ∧ (t.session n).active = k.pathOf l ∧ (t.session n).answered.contains l = true
          ∧ SesEnded t 0 ∧ framed t)
        ∧ (k.state = 2 → ∃ t, exec .openAckRx s = .next t ∧ t.inbox = rest ∧ (t.session n).state = 2
          ∧ (t.session n).answered.contains l = true))
      ∧ (msgType m = 2 → f 0 1 ≠ 0 →
        (k.state = 1 → ∃ t, exec .openAckRx s = .next t ∧ closes t 6)
        ∧ (k.state = 2 → ∃ t, exec .openAckRx s = .next t ∧ t.inbox = rest ∧ (t.session n).state = 2
          ∧ (t.session n).refused.contains l = true))
      ∧ (msgType m = 3 → k.state = 1 → ∃ t, exec .resetRx s = .next t ∧ closes t 6 ∧ (s.canSend l 0 28 → Sends s t l 4 n))
      ∧ (msgType m = 3 → k.state = 2 → ∃ t, exec .resetRx s = .next t ∧ breaks t (f 0 1)
          ∧ t.fld SES_CNT SES_CNT.RESETS_RX = min (s.fld SES_CNT SES_CNT.RESETS_RX + 1) SES_CNT.RESETS_RX.top)
      ∧ (msgType m = 4 → k.state = 4 → k.closing = some .sent → ∃ t, exec .resetAckRx s = .next t ∧ closes t 0 ∧ t.out = s.out)
      ∧ (s.msgRec m = some i → (took.holderRead i .ok .ok).2 ≠ none →
        (msgType m = 0x30 → r.state = 2 →
          ∃ t, exec .tackRx s = .next t ∧ t.inbox = rest ∧ t.sessions = s.sessions ∧ t.out = read.out
            ∧ (s.force = [] → ∀ q, q ≠ SLU_OSEQ → t.rd q = read.rd q)
            ∧ (s.sesImage = false → t.bytes p 64 = { r with state := 3, ver := (r.ver + 1) % 65536 }.bytes))
        ∧ (msgType m = 0x21 → r.inbound = true → f 0 4 = x.nextOff → x.nextOff + (b.drop 8).length ≤ wireLimit (s.session r.session) r →
            b.drop 8 ≠ [] → x.tend = none →
            (r.isSealed = true → ∃ t, exec .rdataRx s = .next t ∧ t = { read with xfers := t.xfers }
              ∧ t.xfer i = { x with nextOff := x.nextOff + (b.drop 8).length, data := x.data ++ b.drop 8 })
            ∧ (∀ s', r.isSealed = false → r.squeeze = false → x.bad = 0 →
                read.dmaWrite (.flume l) (s.session r.session).allot (r.addr + x.nextOff) (b.drop 8) = (s', 0) →
                ∃ t, exec .rdataRx s = .next t ∧ t = { s' with xfers := t.xfers }
                  ∧ t.xfer i = { x with nextOff := x.nextOff + (b.drop 8).length }))
        ∧ (msgType m = 0x21 → x.nextOff < f 0 4 → s.msgError m true (f 0 4 + (b.drop 8).length) = false → exec .rdataRx s = .next read)
        ∧ (msgType m = 0x31 → r.inbound = false ∨ (r.isSealed = false ∧ r.squeeze = false ∧ f 8 4 ≤ x.nextOff ∧ s.inflating i = false) →
            x.bad = 0 → f 8 4 ≤ wireLimit (s.session r.session) r → (s.session r.session).state = 2 →
            ∃ t tpv tpos status, exec .tendRx s = .next t ∧ t.inbox = rest ∧ t.tailQueue = s.tailQueue ++ [.record i]
              ∧ t.xfers.find i = none ∧ t.out = read.out ∧ (f 0 1 ≤ 2 → status = f 0 1)
              ∧ (s.sesImage = false → t.bytes p 64 = { r with state := (if f 0 1 = 0 then 4 else 5), status := status, unitstat := f 2 2, residual := f 4 4, detail := f 12 4, wirelen := (if r.inbound then f 8 4 else r.wirelen), tpv := tpv, tpos := tpos, ver := (r.ver + 1) % 65536 }.bytes)))
      ∧ (k.state = 2 →
          (msgType m = 0x21 → s.msgError m true (f 0 4 + (b.drop 8).length) = true → ∃ t, exec .rdataRx s = .next t ∧ breaks t 4)
          ∧ (msgType m = 0x31 → s.msgError m false (f 8 4) = true → ∃ t, exec .tendRx s = .next t ∧ breaks t 4))
      ∧ (msgType m = 0x32 →
          (k.attn < msgTseq m → ∃ t q, exec .attnRx s = .next t ∧ (t.session n).attn = msgTseq m ∧ t.out = s.out
            ∧ t.tailQueue = s.tailQueue ++ [.other n q (msgTseq m + 4 * 2 ^ 56) (n * 2 ^ 32) (f 0 2) (f 4 4)])
          ∧ (msgTseq m ≤ k.attn → s.attnPending n (msgTseq m) = true → exec .attnRx s = .next took)
          ∧ (msgTseq m ≤ k.attn → s.attnPending n (msgTseq m) = false →
            ∃ t, exec .attnRx s = .next t ∧ t.sessions = s.sessions ∧ t.tailQueue = s.tailQueue
            ∧ (k.activeLink < 256 → k.links.contains k.activeLink = true → s.canSend k.activeLink 0 24 → Sends s t k.activeLink 7 n))))

/-- From R274, R288, R295, R296 and R298 for the timers of sessions and for paths: OPEN goes out again, and after its timeout the command ends
with 5; RESET again, and at last the session is CLOSED; FLOOR when idle; a stalled path is marked, and one whose acknowledgements advance
is clear again; a session moves to its live path of highest priority, with RESUME; traffic returns to a live path of higher priority with RESUME;
1 s without a live path is a session reset with reason 3. Paths wait for a switch-over to end. Nothing is
done while no master acts for the module. -/
def Obligations.SessionTimersAndPathsFollowR298 : Prop :=
  ∀ (s : State) (n : BitVec 18) (j : Fin 4) (stalls clears : List (BitVec 8)),
    let id := n.toNat
    let k := s.session id
    let framed (t : State) : Prop := s.sesImage = false → t.mem = s.mem
    (s.sluActs = false → exec (.openRetry n) s = .next s ∧ exec (.openTimeout n) s = .next s
      ∧ exec (.closeRetry n true) s = .next s ∧ exec (.closeRetry n false) s = .next s ∧ exec (.pathEvaluation stalls clears) s = .next s
      ∧ exec (.pathRevert n j) s = .next s ∧ exec (.nopathTimeout n) s = .next s ∧ exec (.floorTimeout n) s = .next s)
    ∧ (s.sluActs = true →
      (k.state = 1 ∨ k.state = 2 → ∃ t, exec (.openRetry n) s = .next t ∧ t.sessions = s.sessions ∧ t.mem = s.mem
        ∧ ∀ l, k.links = [l] → k.answered.contains l = false → k.refused.contains l = false → s.canSend l 0 40 → Sends s t l 1 id)
      ∧ (k.state ≠ 1 → k.state ≠ 2 → exec (.openRetry n) s = .next s)
      ∧ (k.state = 1 → ∃ t, exec (.openTimeout n) s = .next t ∧ (t.session id).state = 0
          ∧ (s.sesBusy = some (1, id) → SesEnded t 5) ∧ t.out = s.out ∧ framed t)
      ∧ (k.state ≠ 1 → exec (.openTimeout n) s = .next s)
      ∧ (k.state = 4 → k.closing = some .sent →
          (∀ l, s.resetLink k = some l → ∃ t, exec (.closeRetry n false) s = .next t ∧ t.sessions = s.sessions ∧ t.mem = s.mem
            ∧ t.fld SES_CNT SES_CNT.RESETS_TX = min (s.fld SES_CNT SES_CNT.RESETS_TX + 1) SES_CNT.RESETS_TX.top
            ∧ (k.active < 4 → l = k.activeLink → s.canSend l 0 28 → Sends s t l 3 id))
          ∧ (s.resetLink k = none → exec (.closeRetry n false) s = .next s)
          ∧ ∃ t, exec (.closeRetry n true) s = .next t ∧ (t.session id).state = 0 ∧ (s.sesBusy.map Prod.snd = some id → SesEnded t 0)
              ∧ framed t)
      ∧ (s.turnChange = 1 → exec (.pathEvaluation stalls clears) s = .next s ∧ exec (.pathRevert n j) s = .next s)
      ∧ (s.turnChange ≠ 1 → ∃ t, exec (.pathEvaluation stalls clears) s = .next t ∧ (s.sessions = [] → t = { s with stalled := t.stalled })
          ∧ (∀ l, l ∈ t.stalled ↔ (l ∈ s.stalled ∧ l ∉ clears.map BitVec.toNat)
              ∨ (l ∈ stalls.map BitVec.toNat ∧ s.lstate l = 5 ∧ (s.link l).unacked ≠ [] ∧ l ∉ s.stalled))
          ∧ (∀ p, s.sessions = [(id, k)] → k.moving = true → k.stranded = none →
              { s with stalled := t.stalled }.pathLive k k.active = false → { s with stalled := t.stalled }.bestPath k = some p →
              (t.session id).active = p))
      ∧ (s.turnChange ≠ 1 → s.fld SES_CFG SES_CFG.REVERT = 1 → k.moving = true → j.val < k.active → s.pathLive k j.val = true →
          ∃ t, exec (.pathRevert n j) s = .next t ∧ (t.session id).active = j.val
            ∧ t.fld SES_CNT SES_CNT.RESUMES = min (s.fld SES_CNT SES_CNT.RESUMES + 1) SES_CNT.RESUMES.top
            ∧ (s.live = [] → framed t ∧ (s.canSend (k.path j.val) 0 28 → Sends s t (k.path j.val) 5 linkScope)))
      ∧ (k.moving = true → s.bestPath k = none → ∃ t, exec (.nopathTimeout n) s = .next t ∧ (t.session id).reason = 3
          ∧ (t.session id).resetDue = some 3
          ∧ (k.state = 2 → (t.session id).state = 3 ∧ (s.live = [] → k.bellDseq = k.nextDseq → framed t ∧ t.out = s.out
            ∧ ∃ q, t.tailQueue = s.tailQueue ++ [.other id q (noTseq + 3 * 2 ^ 48 + 5 * 2 ^ 56) (id * 2 ^ 32) 0 3])))
      ∧ (k.moving = true → s.pathLive k k.active = true → s.floorOf id k ≠ k.floorSent →
          ∃ t, exec (.floorTimeout n) s = .next t ∧ (t.session id).floorSent = s.floorOf id k ∧ t.mem = s.mem
            ∧ (k.active < 4 → s.canSend k.activeLink 0 24 → Sends s t k.activeLink 6 id)))

/-- From R275, R277, R278, R296, R301 to R304, R332, R333, R355 and R375, from a doorbell record to the tailrace. The next record of an OPEN
session's ring is consumed and names a furrow: a furrow of one plain transaction is admitted and numbered, refused where QLIMIT is
reached, or answered with a FURROW-ERROR entry where its CMD is reserved. Reservations are granted to the head of their queue when they
fit. A round issues what the deficit covers and carries the deficit of what it does not; the CMD of an issued transaction goes out on its active
path while that is live, and so does a resend that was not prepared; an entry with a slot is written to the ring; a record that the consumer
index has passed retires. A record's copies are checked before it issues. Nothing of this
is done while no master acts for the module. -/
def Obligations.DoorbellsReachTheTailrace : Prop :=
  ∀ (s : State) (n : BitVec 18) (i : BitVec 22) (g : Nat),
    let id := n.toNat
    let k := s.session id
    let j := i.toNat
    let r := s.record j
    let c := s.num k.tcons 4
    let polled := { (s.emit 1).blockRead k.tcons 4 false with tailCons := s.tailCons.put k.tring c }
    let asked := polled.emit 1
    let read := (s.holderRead j .ok .ok).1
    let kept := (s.holderRead j .ok .ok).2 ≠ none
    let va := s.num (k.dring + 16 * (k.nextDseq % 2 ^ k.dlog2)) 6
    let entry (t : State) (status kind tag : Nat) : Prop :=
      ∃ q, t.tailQueue = [.other id q (noTseq + status * 2 ^ 48 + kind * 2 ^ 56) (tag + id * 2 ^ 32) 0 0]
    let framed (t : State) : Prop := s.sesImage = false → s.altImage = false → t.mem = s.mem
    let held := s.sluActs = true
    let waits := k.state = 2 ∧ s.fld (ALT_ASTAT k.allot) ALT_ASTAT.STATE = 1 ∧ k.nextDseq ≠ k.bellDseq
    (held → waits → ∃ t, exec (.doorbellRecord n) s = .next t ∧ (t.session id).nextDseq = (k.nextDseq + 1) % 2 ^ 48
      ∧ t.out = s.out)
    ∧ (¬ held ∨ ¬ waits → exec (.doorbellRecord n) s = .next s)
    ∧ (∀ pa w, held → waits → s.live = [] → s.tailQueue = [] →
      asked.ioXlat k.allot va (0x090 + s.fld SLU_STAT SLU_STAT.HOLDER % 2) .read = (asked, some pa) → s.mayReach .sluice pa = true →
      s.poisonedRange pa 32 = false → fwordOf (s.bytes pa 32) = w → w.zero = true → w.fin = true →
      (w.cmd ∉ [0, 1, 8, 9, 0xC, 0xD] →
        ∃ t, exec (.doorbellRecord n) s = .next t ∧ entry t 0x50 3 w.tag ∧ t.live = [] ∧ framed t
          ∧ (t.session id).nextTseq = k.nextTseq
          ∧ t.fld SES_CNT SES_CNT.FURROW_ERR = min (s.fld SES_CNT SES_CNT.FURROW_ERR + 1) SES_CNT.FURROW_ERR.top)
      ∧ (w.isTrans = true → w.countBad k = false → w.isSealed = false → w.squeeze = false → (asked.emit 1).bufferGood k w = (asked.emit 1, true) →
          (s.fld (ALT_SHARE k.allot) ALT_SHARE.QLIMIT ≤ s.queued k.allot →
            ∃ t, exec (.doorbellRecord n) s = .next t ∧ entry t 0x40 2 w.tag ∧ t.live = [] ∧ framed t)
          ∧ (s.queued k.allot < s.fld (ALT_SHARE k.allot) ALT_SHARE.QLIMIT →
            ∃ t ver, exec (.doorbellRecord n) s = .next t ∧ t.live = [0] ∧ t.queued k.allot = s.queued k.allot + 1 ∧ t.tailQueue = []
              ∧ (t.session id).nextTseq = (k.nextTseq + 1) % 2 ^ 48
              ∧ (s.sesImage = false → s.altImage = false →
                  t.bytes 0x7FE0000000 64 = Rec.bytes ⟨1, false, 0, 0, 0, id, 0, 0, k.nextTseq, ver, w.cmd, false, false, w.unit,
                  w.count, w.addr, w.order, w.tag, 0, 0, 0, 0, 0, recNone⟩))))
    ∧ (s.basinQueue = [] → exec .basinReservation s = .next s)
    ∧ (∀ rest, s.basinQueue = (j, g) :: rest →
        (s.fld CIP_BSTAT CIP_BSTAT.FREE < g ∨ s.basins.find j ≠ none → exec .basinReservation s = .next s)
        ∧ (g ≤ s.fld CIP_BSTAT CIP_BSTAT.FREE → s.basins.find j = none →
          ∃ t, exec .basinReservation s = .next t ∧ t.basinQueue = rest ∧ t.basins.find j = some ⟨g, [], .filling⟩ ∧ t.mem = s.mem))
    ∧ (s.stageQueue = [] → exec .squeezeStaging s = .next s)
    ∧ (∀ rest, s.stageQueue = (j, g) :: rest → let used := (s.stageHeld.map (fun e => e.2.length)).foldl (· + ·) 0;
        (s.fld CMP_STAGE CMP_STAGE.SIZE < used + g → exec .squeezeStaging s = .next s)
        ∧ (used + g ≤ s.fld CMP_STAGE CMP_STAGE.SIZE →
          ∃ t, exec .squeezeStaging s = .next t ∧ t.stageQueue = rest ∧ t.stageHeld.find j = some (s.granulesFree.take g)
            ∧ t.cmpSession = s.cmpSession ++ [.stage j] ∧ t.mem = s.mem))
    ∧ (held → s.sessions = [(id, k)] → k.moving = true → s.live = [j] → r.session = id → r.isSealed = false → r.squeeze = false →
        s.eligible j = true → s.deficits = [] → kept →
        let d := s.fld (ALT_SHARE k.allot) ALT_SHARE.WEIGHT * 4096
        (d < r.cost → s.altImage = false → exec .drrRound s =
            .next { read with deficits := [(k.allot, d)], weightNew := removeNat s.weightNew k.allot })
        ∧ (r.cost ≤ d → ∃ t, exec .drrRound s = .next t ∧ t.issueQueue = s.issueQueue ++ [j] ∧ t.deficits = []
            ∧ t.queued k.allot = s.queued k.allot - 1 ∧ t.out = read.out
            ∧ (s.sesImage = false → s.altImage = false → t.bytes (0x7FE0000000 + 64 * j) 64
                = { r with state := 2, path := k.active, wirelen := (if r.inbound then 0 else r.count), ver := (r.ver + 1) % 65536 }.bytes)))
    ∧ (held → s.issueQueue.contains j = true → s.issueQueue.eraseDups = s.issueQueue → kept →
        let p := s.session r.session
        (s.pathLive p p.active = true → ∃ t, exec (.transactionIssue i) s = .next t ∧ t.issueQueue.contains j = false
          ∧ (r.inbound = true → r.session = id → k.state = 2 → k.active < 4 → s.canSend k.activeLink 1 48 →
              Sends s t k.activeLink 0x10 id ∧ framed t ∧ (t.session id).floorSent = s.floorOf id k))
        ∧ (s.pathLive p p.active = false → exec (.transactionIssue i) s = .next read))
    ∧ (held → s.issueQueue.contains j = false → s.resendLate.contains j = true → s.resendLate.eraseDups = s.resendLate →
        let p := s.session r.session
        (s.prepared j = true → s.pathLive p p.active = true →
          ∃ t, exec (.transactionIssue i) s = .next t ∧ t.resendLate.contains j = false)
        ∧ (s.prepared j = false ∨ s.pathLive p p.active = false → exec (.transactionIssue i) s = .next s))
    ∧ (s.issueQueue.contains j = false → s.resendLate.contains j = false → exec (.transactionIssue i) s = .next s)
    ∧ (held → k.state = 2 →
        (s.tailQueue = [.record j] → r.tpv = true → r.session = id →
          ∃ t, exec .tailraceWrite s = .next t ∧ t.tailQueue = [] ∧ t.out = s.out
            ∧ StoredBytes s.mem t.mem (k.tring + 32 * (r.tpos % 2 ^ k.tlog2)) 32 (fun x => (s.entryBytes (.record j) r.tpos).getD x 0))
        ∧ (∀ q a b c' d, s.tailQueue = [.other id (some q) a b c' d] →
          ∃ t, exec .tailraceWrite s = .next t ∧ t.tailQueue = []
            ∧ (bits a 56 4 ≠ 4 → t.out = s.out)
            ∧ (bits a 56 4 = 4 → k.activeLink < 256 → k.links.contains k.activeLink = true → s.canSend k.activeLink 0 24 → Sends s t k.activeLink 7 id)
            ∧ StoredBytes s.mem t.mem (k.tring + 32 * (q % 2 ^ k.tlog2)) 32
                (fun x => (s.entryBytes (.other id (some q) a b c' d) q).getD x 0)))
    ∧ (s.tailQueue = [] → exec .tailraceWrite s = .next s)
    ∧ (held → k.state ≠ 0 → s.tailQueue = [] → s.live = [j] →
        (r.tpv = false → exec (.consumerIndexPoll n) s = .next polled)
        ∧ (r.ended = true → r.tpv = true → (s.session r.session).tring = k.tring → (c + 2 ^ 32 - 1 - r.tpos) % 2 ^ 32 < 2 ^ 31 →
          ∃ t, exec (.consumerIndexPoll n) s = .next t ∧ t.live = [] ∧ t.tailCons.find k.tring = some c
            ∧ t.fld LGR_CNT1 LGR_CNT1.RETIRED = min (s.fld LGR_CNT1 LGR_CNT1.RETIRED + 1) LGR_CNT1.RETIRED.top))
    ∧ (¬ held → exec .drrRound s = .next s ∧ exec (.transactionIssue i) s = .next s ∧ exec .tailraceWrite s = .next s
        ∧ exec (.consumerIndexPoll n) s = .next s)

/-! The sluice masters (R307-R320) -/

/-- From R142, R307 to R318 and R320 for the sluice masters. Every input reaches each master that takes part, and none when one has
stopped or a word of its control store is being restored; an output leaves the check gate once, in order; a renewal is good for 938 hc; an
expired lease leaves nobody the holder until the quiet period ends, when the standby is granted the turn, or SLU-NONE is recorded; a
master silent on both paths is fenced and FAILED, on one it is a path fault; SWAP and REJOIN end with the RESULTs of the table; a
scheduled change that cannot be made is skipped for 1 h. -/
def Obligations.SluiceMastersFollowR307ToR318 : Prop :=
  ∀ (s : State) (b : Bool) (n ar as br bs : BitVec 16) (oseq : Word),
    let holder := s.fld SLU_STAT SLU_STAT.HOLDER
    let e := s.fld SLU_OSEQ SLU_OSEQ.EMITTED
    let idle := s.fld SLU_STAT SLU_STAT.BUSY = 0
    let ended (t : State) (res : Nat) : Prop := t.fld SLU_STAT SLU_STAT.BUSY = 0 ∧ t.fld SLU_STAT SLU_STAT.DONE = 1
      ∧ t.fld SLU_STAT SLU_STAT.RESULT = res
    let unheld (t : State) (change : Nat) : Prop := t.fld SLU_STAT SLU_STAT.HOLDER = 2 ∧ t.fld SLU_LEASE SLU_LEASE.REMAIN = 0
      ∧ t.fld SLU_LEASE SLU_LEASE.QUIET = 1 ∧ t.turnChange = change
      ∧ ∀ l, l < 256 → s.lstate l = 5 → t.fld (LNK_STAT l) LNK_STAT.HOLDING = 1
    let ends (i : Instr) (res : Nat) : Prop := ∃ t, exec i s = .next t ∧ OnlyCsr s t ∧ ended t res
    let noneWaits := s.upWait = [] ∧ s.sesBusy = none ∧ s.live = [] ∧ s.fld LGR_RDSTAT LGR_RDSTAT.BUSY = 0
    (holder ≠ 2 → (∀ m, s.sluRuns m = true → (s.slu m).stopped = false ∧ s.masterRestoring m = false) →
      ∃ t, exec (.sluiceInput n) s = .next t ∧ t = { s with sluA := t.sluA, sluB := t.sluB }
        ∧ ∀ m, t.slu m = if s.sluRuns m then { s.slu m with inputs := (s.slu m).inputs + 1, oseq := max (s.slu m).oseq e + n.toNat }
            else s.slu m)
    ∧ (holder = 2 ∨ (s.sluRuns b = true ∧ ((s.slu b).stopped = true ∨ s.masterRestoring b = true)) → exec (.sluiceInput n) s = .next s)
    ∧ (s.holds b = false ∨ s.fenced b = true → exec (.leaseRenewal b) s = .next s)
    ∧ (s.holds b = true → s.fenced b = false → exec (.leaseRenewal b) s = .next (s.setF SLU_LEASE SLU_LEASE.REMAIN 938))
    ∧ (s.holds b = false ∨ s.fenced b = true ∨ s.sluState b ≠ 1 ∨ s.culvertShut (14 + b2n b) 8 = true →
        exec (.checkGateOutput b oseq) s = .next s)
    ∧ (s.holds b = true → s.fenced b = false → s.sluState b = 1 → s.culvertShut (14 + b2n b) 8 = false →
        (oseq.toNat ≤ e → exec (.checkGateOutput b oseq) s = .next (s.bump SLU_SUPP SLU_SUPP.SUPPRESSED 1))
        ∧ (oseq.toNat = e + 1 → s.turnChange = 0 →
            exec (.checkGateOutput b oseq) s = .next (s.setF SLU_OSEQ SLU_OSEQ.EMITTED (e + 1)))
        ∧ (oseq.toNat = e + 1 → s.turnChange = 1 → ∃ t, exec (.checkGateOutput b oseq) s = .next t ∧ t.turnChange = 0
            ∧ t.fld SLU_CNT SLU_CNT.SWITCHOVERS = min (s.fld SLU_CNT SLU_CNT.SWITCHOVERS + 1) SLU_CNT.SWITCHOVERS.top)
        ∧ (oseq.toNat = e + 1 → s.turnChange = 2 → ∃ t, exec (.checkGateOutput b oseq) s = .next t ∧ t.turnChange = 0 ∧ ended t 0
            ∧ t.fld SLU_CNT SLU_CNT.SWAPS = min (s.fld SLU_CNT SLU_CNT.SWAPS + 1) SLU_CNT.SWAPS.top)
        ∧ (e + 1 < oseq.toNat → ∃ t, exec (.checkGateOutput b oseq) s = .next t ∧ (t.slu b).stopped = true ∧ t.csr = s.csr
            ∧ t.slu (!b) = s.slu (!b)))
    ∧ (holder ≠ 2 → ∃ t, exec .leaseExpiry s = .next t ∧ unheld t 1 ∧ t.mem = s.mem ∧ (s.turnChange = 2 → ended t 2))
    ∧ (holder = 2 → exec .leaseExpiry s = .next s)
    ∧ (s.fld SLU_LEASE SLU_LEASE.QUIET = 0 → exec .quietPeriodEnd s = .next s)
    ∧ (s.fld SLU_LEASE SLU_LEASE.QUIET = 1 → s.sluState b = 2 → (b = true → s.sluState false ≠ 2) →
        ∃ t, exec .quietPeriodEnd s = .next t ∧ t.fld SLU_STAT SLU_STAT.HOLDER = b2n b ∧ t.sluState b = 1
          ∧ (noneWaits → t.mem = s.mem)
          ∧ t.sluState (!b) = (if s.sluState (!b) = 1 then 2 else s.sluState (!b))
          ∧ t.fld SLU_LEASE SLU_LEASE.REMAIN = 938 ∧ t.fld SLU_LEASE SLU_LEASE.QUIET = 0)
    ∧ (s.fld SLU_LEASE SLU_LEASE.QUIET = 1 → s.sluState false ≠ 2 → s.sluState true ≠ 2 →
        ∃ t, exec .quietPeriodEnd s = .next t ∧ t.fld SLU_LEASE SLU_LEASE.QUIET = 0 ∧ bit (t.rd FLT_STATUS) 26 = true ∧ t.mem = s.mem
          ∧ t.fld SLU_STAT SLU_STAT.HOLDER = holder)
    ∧ (∃ t, exec (.heartbeatCheck ar as br bs) s = .next t ∧ (noneWaits → t.mem = s.mem) ∧ ∀ m,
        let ring := if m then br.toNat else ar.toNat
        let side := if m then bs.toNat else as.toNat
        t.flag SLU_STAT ⟨12 + 2 * b2n m, 1⟩ = (s.sluRuns m && decide (625 ≤ ring) && decide (side < 625))
        ∧ t.flag SLU_STAT ⟨13 + 2 * b2n m, 1⟩ = (s.sluRuns m && decide (625 ≤ side) && decide (ring < 625))
        ∧ (s.sluRuns m = true → (625 ≤ ring ∧ 625 ≤ side) ∨ (s.slu m).stopped = true →
            t.sluState m = 4 ∧ t.fenced m = true ∧ bit (t.rd FLT_STATUS) 24 = true)
        ∧ (s.sluRuns m = false ∨ ((ring < 625 ∨ side < 625) ∧ (s.slu m).stopped = false) →
            t.sluState m = s.sluState m ∧ t.fenced m = s.fenced m))
    ∧ (br.toNat < 625 → bs.toNat < 625 → s.sluRuns false = true → 625 ≤ ar.toNat → as.toNat < 625 → s.flag SLU_STAT ⟨12, 1⟩ = false →
        ∃ t, exec (.heartbeatCheck ar as br bs) s = .next t ∧ bit (t.rd FLT_STATUS) 23 = true
          ∧ t.fld SLU_CNT SLU_CNT.PATHFAULTS = min (s.fld SLU_CNT SLU_CNT.PATHFAULTS + 1) SLU_CNT.PATHFAULTS.top)
    ∧ (¬ idle → exec .sluSwap s = .next s ∧ exec (.sluRejoin b) s = .next s ∧ exec .sluBadOp s = .next s)
    ∧ (idle → ends .sluBadOp 5
        ∧ (s.inTrickle = true → ends .sluSwap 6 ∧ ends (.sluRejoin b) 6)
        ∧ (s.inTrickle = false → s.turnBusy = true → ends .sluSwap 1 ∧ ends (.sluRejoin b) 1)
        ∧ (s.inTrickle = false → s.turnBusy = false →
            (s.bothRun = false → ends .sluSwap 2)
            ∧ (s.bothRun = true → ∃ t, exec .sluSwap s = .next t ∧ unheld t 2 ∧ t.fld SLU_STAT SLU_STAT.BUSY = 1 ∧ t.mem = s.mem)
            ∧ (s.outMaster = none → ends (.sluRejoin b) 3)
            ∧ (∀ m, s.outMaster = some m → ∃ t, exec (.sluRejoin b) s = .next t ∧ ended t (if b then 0 else 4)
                ∧ t.sluState m = (if b then 2 else 4)
                ∧ (b = true → t.fenced m = false ∧ t.slu m = ⟨(s.slu (!m)).inputs, (s.slu (!m)).oseq, 0, 0, false⟩))))
    ∧ (s.fld SLU_CFG SLU_CFG.SWAP_EN = 0 → exec .scheduledSwap s = .next s)
    ∧ (s.fld SLU_CFG SLU_CFG.SWAP_EN = 1 →
        (s.turnBusy = false → s.bothRun = true → s.inTrickle = false → idle →
          ∃ t, exec .scheduledSwap s = .next t ∧ unheld t 2 ∧ t.fld SLU_STAT SLU_STAT.BUSY = 1 ∧ t.mem = s.mem)
        ∧ (s.turnBusy = true ∨ s.bothRun = false ∨ s.inTrickle = true ∨ ¬ idle →
          ∃ t, exec .scheduledSwap s = .next t ∧ t.swapRetry = s.swapHc + 562500000000 ∧ t.swapHc = s.swapHc ∧ bit (t.rd FLT_STATUS) 25 = true ∧ t.mem = s.mem
            ∧ t.fld SLU_CNT SLU_CNT.SKIPPED = min (s.fld SLU_CNT SLU_CNT.SKIPPED + 1) SLU_CNT.SKIPPED.top))
    ∧ (∀ v, s.staged.find SLU_CFG = some v → ∃ t, exec .sluCommit s = .next t ∧ t.staged.find SLU_CFG = none ∧ t.mem = s.mem
        ∧ t.fld SLU_CFG SLU_CFG.SWAP_HOURS = SLU_CFG.SWAP_HOURS.get v ∧ t.fld SLU_STAT SLU_STAT.STAGED = 0)

/-! Allotments and I/O translation (R322-R340) -/

/-- From R322 to R331 for allotments: ALT_CMD's OPs end with the RESULTs of the table. CREATE takes a FREE allotment to ACTIVE with the shares and
siphon words of its descriptor, and nothing of it left in the I/O TLB; QUIESCE leaves it QUIESCING and busy until its last transaction and
DMA have ended; RESUME goes back to ACTIVE; DESTROY frees it. The invalidations take out exactly the entries they name. An I/O access goes
through the reach that matches: a FLAT one needs no table, a TABLED one is walked and its marks are written, unless 64 compare-and-swaps fail; no
reach, and a reach or entry that forbids it, are recorded. That CREATE and the first image wait until a cold start opens DRAM is the
model's reading of R402, log entry 87. -/
def Obligations.AllotmentsFollowR322ToR331 : Prop :=
  ∀ (s : State) (al : BitVec 12) (va : Word) (master : BitVec 10) (ak : AccKind),
    let a := s.fld ALT_CMD ALT_CMD.ALLOT
    let arg := s.fld ALT_CMDARG ALT_CMDARG.ARG
    let st := s.fld (ALT_ASTAT a) ALT_ASTAT.STATE
    let d := s.bytes arg 64
    let w (i : Nat) : Nat := leNat ((d.drop (8 * i)).take 8)
    let ended (t : State) (res : Nat) : Prop := t.fld ALT_CMDSTAT ALT_CMDSTAT.BUSY = 0 ∧ t.fld ALT_CMDSTAT ALT_CMDSTAT.DONE = 1
      ∧ t.fld ALT_CMDSTAT ALT_CMDSTAT.RESULT = res
    let ends (i : Instr) (res : Nat) : Prop := ∃ t, exec i s = .next t ∧ OnlyCsr s t ∧ ended t res
    let framed (t : State) : Prop := s.altImage = false → t.mem = s.mem
    let invalidates (i : Instr) (gone : TlbEnt → Bool) : Prop := ∃ t, exec i s = .next t ∧ OnlyCsr { s with iotlb := t.iotlb } t
      ∧ ended t 0 ∧ ∀ k, t.iotlb.get [] k = (s.iotlb.get [] k).filter (fun e => !gone e)
    let waits (i : Instr) (op : Nat) : Prop :=
      exec i s = .next { s.setF ALT_CMDSTAT ALT_CMDSTAT.BUSY 1 with altWait := some (op, a, arg) }
    let reach := fun n => s.rd (ALT_IOREACH al.toNat n)
    (s.fld ALT_CMDSTAT ALT_CMDSTAT.BUSY = 0 → s.altInit = false →
      ends .altBadOp 6
      ∧ (s.dramHeld = true → waits .altCreate 1)
      ∧ (a = 0 → (s.dramHeld = false → ends .altCreate 2) ∧ ends .altQuiesce 2 ∧ ends .altResume 2 ∧ ends .altDestroy 2)
      ∧ invalidates .altIoinvVa (fun e => e.covers (some a) arg)
      ∧ invalidates .altIoinvAllot (fun e => e.tag == some a)
      ∧ invalidates .altIoinvAll (fun _ => true)
      ∧ (a ≠ 0 →
          (s.dramHeld = false → arg % 64 ≠ 0 ∨ 0x7FE0000000 < arg + 64 → ends .altCreate 5)
          ∧ (s.dramHeld = false → arg % 64 = 0 → arg + 64 ≤ 0x7FE0000000 →
              (st ≠ 0 → ends .altCreate 1)
              ∧ (st = 0 → s.poisonedRange arg 64 = true ∨ allotDescBad d = true → ends .altCreate 3)
              ∧ (st = 0 → s.poisonedRange arg 64 = false → allotDescBad d = false →
                  ∃ t, exec .altCreate s = .next t ∧ ended t 0 ∧ framed t ∧ t.sessions = s.sessions
                    ∧ t.fld (ALT_ASTAT a) ALT_ASTAT.STATE = 1 ∧ t.fld (ALT_ASTAT a) ALT_ASTAT.QUEUED = 0
                    ∧ t.fld (ALT_SHARE a) ALT_SHARE.WEIGHT = w 0 % 1024 ∧ t.fld (ALT_SHARE a) ALT_SHARE.QLIMIT = w 0 / 65536 % 2 ^ 23
                    ∧ t.rd (ALT_SIPHON a) = Word.ofNat (w 1) ∧ t.rd (ALT_SIRQ a) = Word.ofNat (w 2)
                    ∧ ∀ k, ∀ e ∈ t.iotlb.get [] k, e.tag ≠ some a))
          ∧ (st ≠ 1 → ends .altQuiesce 1)
          ∧ (st = 1 → ∃ t, exec .altQuiesce s = .next t ∧ (s.altImage = false → OnlyCsr { s with quiescing := some a } t)
              ∧ t.fld (ALT_ASTAT a) ALT_ASTAT.STATE = 2 ∧ t.fld ALT_CMDSTAT ALT_CMDSTAT.BUSY = 1 ∧ t.quiescing = some a)
          ∧ (st ≠ 2 → st ≠ 3 → ends .altResume 1)
          ∧ (st = 2 ∨ st = 3 → ∃ t, exec .altResume s = .next t ∧ ended t 0 ∧ (s.altImage = false → OnlyCsr s t)
              ∧ t.fld (ALT_ASTAT a) ALT_ASTAT.STATE = 1)
          ∧ (st ≠ 3 → ends .altDestroy 1)
          ∧ (st = 3 → (s.sessions.any (fun e => e.2.state != 0 && e.2.allot == a)) = true → ends .altDestroy 4)
          ∧ (st = 3 → (s.sessions.any (fun e => e.2.state != 0 && e.2.allot == a)) = false →
              ∃ t, exec .altDestroy s = .next t ∧ ended t 0 ∧ t.fld (ALT_ASTAT a) ALT_ASTAT.STATE = 0 ∧ (s.jobs = [] → framed t)
                ∧ ∀ k, ∀ e ∈ t.iotlb.get [] k, e.tag ≠ some a)))
    ∧ (s.fld ALT_CMDSTAT ALT_CMDSTAT.BUSY = 0 → s.altInit = true → waits .altCreate 1 ∧ waits .altQuiesce 2 ∧ waits .altResume 3
        ∧ waits .altDestroy 4 ∧ waits .altIoinvVa 5 ∧ waits .altIoinvAllot 6 ∧ waits .altIoinvAll 7 ∧ waits .altBadOp 8)
    ∧ (s.fld ALT_CMDSTAT ALT_CMDSTAT.BUSY = 1 → ∀ i ∈ [Instr.altCreate, .altQuiesce, .altResume, .altDestroy, .altIoinvVa, .altIoinvAllot,
        .altIoinvAll, .altBadOp], exec i s = .next s)
    ∧ (s.altInit = false ∨ s.dramHeld = true → exec .altCtxbaseInit s = .next s)
    ∧ (s.altInit = true → s.dramHeld = false → ∃ t, exec .altCtxbaseInit s = .next t ∧ t.altInit = false ∧ t.altImage = true
        ∧ (s.altWait = none → t.sessions = s.sessions ∧ t.iotlb = s.iotlb))
    ∧ (s.fld (ALT_ASTAT al.toNat) ALT_ASTAT.STATE = 2 → s.allotIdle al.toNat = true →
        ∃ t, exec (.allotmentQuiesced al) s = .next t ∧ t.fld (ALT_ASTAT al.toNat) ALT_ASTAT.STATE = 3 ∧ framed t
          ∧ (s.quiescing = some al.toNat → ended t 0 ∧ t.quiescing = none))
    ∧ (s.fld (ALT_ASTAT al.toNat) ALT_ASTAT.STATE ≠ 2 ∨ s.allotIdle al.toNat = false → exec (.allotmentQuiesced al) s = .next s)
    ∧ (∀ (fails : BitVec 7) n,
        let i : Instr := .ioTranslation al va master ak fails
        let cached := (s.iotlb.get [] (ioSet va.toNat)).filter (fun t => t.covers (some al.toNat) va.toNat)
        let faults : Prop := ∃ t, exec i s = .next t ∧ (s.altImage = false → OnlyCsr { s with iotlb := t.iotlb } t)
          ∧ t.rd (ALT_IOFVA al.toNat) = va
          ∧ t.fld (ALT_ACNT al.toNat) ALT_ACNT.IOFAULTS = min (s.fld (ALT_ACNT al.toNat) ALT_ACNT.IOFAULTS + 1) ALT_ACNT.IOFAULTS.top
        (selectReach reach va.toNat = none → faults)
        ∧ (selectReach reach va.toNat = some n → XLT_GREACH.TYPE.get (reach n) = 1 →
            (permits (bit (reach n) 8) (bit (reach n) 9) true ak = true → exec i s = .next s)
            ∧ (permits (bit (reach n) 8) (bit (reach n) 9) true ak = false → faults))
        ∧ (selectReach reach va.toNat = some n → XLT_GREACH.TYPE.get (reach n) ≠ 1 →
            (∀ e, cached = [e] → (ak = .write → e.dirtyKnown va.toNat = true) →
              (permits e.r e.w true ak = true → exec i s = .next s) ∧ (permits e.r e.w true ak = false → faults))
            ∧ (∀ e pa, cached = [] → s.walkTables (reach n) n va.toNat ak = .inl (e, pa) →
              (marked e ak = e → ∃ t, exec i s = .next t ∧ t = { s with iotlb := t.iotlb }
                ∧ (∀ k, k ≠ ioSet va.toNat → t.iotlb.find k = s.iotlb.find k))
              ∧ (marked e ak ≠ e → 64 ≤ fails.toNat → faults)
              ∧ (marked e ak ≠ e → fails.toNat < 64 → s.fld (ALT_ACTL al.toNat) ALT_ACTL.LOGDIRTY = 0 →
                ∃ t, exec i s = .next t ∧ t.csr = s.csr ∧ StoredBytes s.mem t.mem pa 8 (fun j => (leBytes 8 (marked e ak)).getD j 0)))
            ∧ (∀ f, cached = [] → s.walkTables (reach n) n va.toNat ak = .inr f → f.kind ≠ kWALK → f.kind ≠ kWALKDEV → faults)))

/-! Keys, flume descriptors and the basin (R346-R357) -/

/-- From R239, R241 and R346 to R350 for key commands: during a wipe each ends WIPING; LOAD of an EMPTY slot unwraps the key of its descriptor
under its key-encryption key, and every case of the table that forbids it ends with its status, so also where the key-encryption key's slot is lost
to an uncorrectable error; CLEAR empties the slot; INFO shows everything but the key; the staged HARDEN takes effect. (That a command on a bank
that does not run ends EMPTY is the model's choice, log entry 69; so is BAD-ARG for a poisoned descriptor, log entry 79. That a LOAD
waits until a cold start opens DRAM is its reading of R402, log entry 87.) -/
def Obligations.KeyCommandsFollowR346ToR349 : Prop :=
  ∀ (s : State) (e : Ecc),
    let n := s.fld CIP_KCMD CIP_KCMD.SLOT
    let a := s.fld CIP_KARG CIP_KARG.ADDR
    let k := s.slot n
    let w0 := s.num a 8
    let ksize := w0 / 2 ^ 19 % 4
    let use := w0 / 2 ^ 44 % 32
    let len := 24 + 8 * ksize
    let ended (t : State) (res : Nat) : Prop := t.fld CIP_KSTAT CIP_KSTAT.BUSY = 0 ∧ t.fld CIP_KSTAT CIP_KSTAT.DONE = 1
      ∧ t.fld CIP_KSTAT CIP_KSTAT.RESULT = res
    let ends (i : Instr) (res : Nat) : Prop := ∃ t, exec i s = .next t ∧ OnlyCsr s t ∧ ended t res
    let zeros := (s.bytes (a + 8 + len) (56 - len)).any (fun b => b != 0) = false
    let good := a % 64 = 0 ∧ a < 0x7FE0000000 ∧ w0 / 2 ^ 21 % 2 ^ 11 = 0 ∧ w0 / 2 ^ 51 % 2 ^ 13 = 0 ∧ ksize ≠ 3 ∧ (use < 16 ∨ use = 16) ∧ zeros
      ∧ s.poisonedRange a 64 = false
    let kik := w0 / 2 ^ 18 % 2 = 1
    (s.fld CIP_KSTAT CIP_KSTAT.BUSY = 1 → exec (.cipLoad e) s = .next s ∧ exec .cipClear s = .next s ∧ exec (.cipInfo e) s = .next s)
    ∧ (s.fld CIP_KSTAT CIP_KSTAT.BUSY = 0 →
      (s.wiping = true → (s.dramHeld = false → ends (.cipLoad e) 7) ∧ ends .cipClear 7 ∧ ends (.cipInfo e) 7)
      ∧ (s.dramHeld = true → ∃ t, exec (.cipLoad e) s = .next t ∧ t.fld CIP_KSTAT CIP_KSTAT.BUSY = 1 ∧ t.keyWait = some (n, a)
          ∧ t.slots = s.slots ∧ t.mem = s.mem)
      ∧ (s.wiping = false → s.slotServed n = false → ∀ i, i = .cipLoad e ∧ s.dramHeld = false ∨ i = .cipClear ∨ i = .cipInfo e →
          ∃ t, exec i s = .next t ∧ ended t 1 ∧ t.slots = s.slots ∧ t.mem = s.mem)
      ∧ (s.wiping = false → s.slotServed n = true →
          (s.dramHeld = false → a % 64 ≠ 0 ∨ 0x7FE0000000 ≤ a → ends (.cipLoad e) 6)
          ∧ (s.dramHeld = false → a % 64 = 0 → a < 0x7FE0000000 → k.state ≠ 0 → ends (.cipLoad e) 5)
          ∧ (s.dramHeld = false → a % 64 = 0 → a < 0x7FE0000000 → k.state = 0 → s.mayReach .cipher a = false →
              ∃ t, exec (.cipLoad e) s = .next t ∧ ended t 6 ∧ t.slots = s.slots ∧ t.mem = s.mem)
          ∧ (s.dramHeld = false → a % 64 = 0 → a < 0x7FE0000000 → k.state = 0 → s.mayReach .cipher a = true →
              w0 / 2 ^ 21 % 2 ^ 11 ≠ 0 ∨ w0 / 2 ^ 51 % 2 ^ 13 ≠ 0 ∨ ksize = 3 ∨ 16 < use ∨ ¬ zeros ∨ s.poisonedRange a 64 = true →
              ends (.cipLoad e) 6)
          ∧ (good → k.state = 0 → s.dramHeld = false → s.mayReach .cipher a = true →
              (s.kekOf w0 = none → ∃ t, exec (.cipLoad e) s = .next t ∧ ended t 4 ∧ t.mem = s.mem)
              ∧ (¬ kik → e = .uncorrectable → s.slotServed (w0 % 2 ^ 18) = true →
                  ∃ t, exec (.cipLoad e) s = .next t ∧ ended t 4 ∧ t.mem = s.mem ∧ ∃ m, (t.slot m).state = 0 ∧ ∀ m', m' ≠ m → t.slot m' = s.slot m')
              ∧ ∀ kek, s.kekOf w0 = some kek → kik ∨ e ≠ .uncorrectable →
                  ∃ t, exec (.cipLoad e) s = .next t ∧ (kik ∨ e = .ok → OnlyCsr { s with slots := t.slots } t)
                    ∧ match aesUnwrap kek ((s.bytes (a + 8) len).map BitVec.toNat) with
                      | none => ended t 3 ∧ t.slots = s.slots
                      | some key => ended t 0 ∧ (t.slot n).state = 1
                          ∧ (t.slot n).key.take key.length = key ∧ (t.slot n).h = num128 (aesEnc key (List.replicate 16 0))
                          ∧ (t.slot n).ksize = ksize ∧ (t.slot n).owner = w0 / 2 ^ 32 % 4096 ∧ (t.slot n).use = use
                          ∧ (t.slot n).hmin = w0 / 2 ^ 49 % 4 ∧ (t.slot n).gen = (k.gen + 1) % 2 ^ 32
                          ∧ ∀ m, m ≠ n → t.slot m = s.slot m)
          ∧ (∃ t, exec .cipClear s = .next t ∧ OnlyCsr { s with slots := t.slots } t ∧ ended t 0
              ∧ t.slot n = { KeySlot.empty with gen := (k.gen + 1) % 2 ^ 32 } ∧ ∀ m, m ≠ n → t.slot m = s.slot m)
          ∧ (e ≠ .uncorrectable → ∃ t, exec (.cipInfo e) s = .next t ∧ ended t 0 ∧ t.slots = s.slots ∧ (e = .ok → OnlyCsr s t)
              ∧ t.fld CIP_KINFO CIP_KINFO.STATE = k.state % 4
              ∧ t.fld CIP_KINFO CIP_KINFO.OWNER = k.owner % 4096 ∧ t.fld CIP_KINFO CIP_KINFO.USE = k.use % 32
              ∧ t.fld CIP_KINFO CIP_KINFO.KSIZE = k.ksize % 4 ∧ t.fld CIP_KINFO CIP_KINFO.HMIN = k.hmin % 4
              ∧ t.fld CIP_KINFO CIP_KINFO.GEN = k.gen % 2 ^ 32)
          ∧ (e = .uncorrectable → ∃ t, exec (.cipInfo e) s = .next t ∧ ended t 0 ∧ bit (t.rd FLT_STATUS) 18 = true)))
    ∧ (∀ v, s.staged.find CIP_CFG = some v → ∃ t, exec .cipCommit s = .next t ∧ t.staged.find CIP_CFG = none ∧ t.mem = s.mem
        ∧ t.fld CIP_CFG CIP_CFG.HARDEN = CIP_CFG.HARDEN.get v ∧ t.fld CIP_STAT CIP_STAT.STAGED = 0)
    ∧ (s.staged.find CIP_CFG = none → exec .cipCommit s = .next s)

/-- From R351, R353, R356 and R357 for flume descriptors and the basin. ENC, DEC and GMUL work on whole blocks of the flume's buffer and complete
with their count; a descriptor out of range, or with an undefined OP, is refused and counted. BWRITE appends at the written extent, and is
an overrun where it cannot; BCLOSE with equal tags releases, and with unequal ones is a tag failure, the granules of its transaction
wiped. When the release ends the bytes go to the buffer, and the granules are free; so are wiped ones when the wipe ends. -/
def Obligations.FlumeDescriptorsFollowR351ToR357 : Prop :=
  ∀ (s : State) (l : Fin 288) (w0 w1 w2 w3 : Word) (op : Fin 11) (i : BitVec 22) (fill : List (BitVec 16 × Byte)) (x : KeyRead),
    let q (o : Nat) := flumeReq o l w0 w1 w2 w3 fill x
    let u := s.fill (q 0)
    let txn := w3.toNat % 2 ^ 22
    let n := w0.toNat / 2 ^ 32 % 2 ^ 13
    let src := w1.toNat % 65536
    let src2 := w1.toNat / 65536 % 65536
    let dst := w1.toNat / 2 ^ 32 % 65536
    let len := w2.toNat / 2 ^ 32 % 65536
    let off := w2.toNat % 2 ^ 23
    let done (t : State) (status blocks : Nat) : Prop := t.out.head? = some (.cipherDone l.val (status + blocks * 256)) ∧ t.mem = s.mem
    let refused (i : Instr) (st : Nat) : Prop := ∃ t, exec i s = .next t ∧ .cipherDone l.val st ∈ t.out ∧ t.flumeBuf = u.flumeBuf
      ∧ t.fld CIP_CNT0 CIP_CNT0.REFUSED = min (s.fld CIP_CNT0 CIP_CNT0.REFUSED + 1) CIP_CNT0.REFUSED.top
    let writes (t : State) (out : List Nat) : Prop := ∀ a, t.flumeBuf.get 0 a =
      if l.val * 65536 + dst ≤ a ∧ a < l.val * 65536 + dst + 16 * n then (out.flatMap (beBytes 16)).getD (a - (l.val * 65536 + dst)) 0
      else u.flumeBuf.get 0 a
    let fits (o : Nat) : Prop := (q o).zeroOk = true ∧ 0 < n ∧ n ≤ 4096 ∧ inBuf src (16 * n) = true ∧ inBuf dst (16 * n) = true
    let aes (o : Nat) (i : Instr) (use : Nat) (way : CipOp) : Prop :=
      (fits o → (q o).useH = false → s.flumeSlot (q o) use = 0 → x.ecc ≠ .uncorrectable →
        ∃ t, exec i s = .next t ∧ done t 0 n ∧ writes t ((u.fblocks l.val src n).map ((s.slot (q o).slot).run way))
          ∧ t.fld CIP_CNT0 CIP_CNT0.BLOCKS = min (s.fld CIP_CNT0 CIP_CNT0.BLOCKS + n) CIP_CNT0.BLOCKS.top)
      ∧ (fits o → (q o).useH = false → s.flumeSlot (q o) use ≠ 0 → x.ecc = .ok → refused i (s.flumeSlot (q o) use))
      ∧ ((q o).zeroOk = false ∨ (q o).useH = true ∨ n = 0 ∨ 4096 < n ∨ inBuf src (16 * n) = false ∨ inBuf dst (16 * n) = false →
          refused i 6 ∧ ∃ t, exec i s = .next t ∧ done t 6 0)
    aes 1 (.flumeCipEnc l w0 w1 w2 w3 fill x) 1 .enc ∧ aes 2 (.flumeCipDec l w0 w1 w2 w3 fill x) 2 .dec
    ∧ (fits 3 → (q 3).useH = false → inBuf src2 (16 * n) = true →
        ∃ t, exec (.flumeCipGmul l w0 w1 w2 w3 fill) s = .next t ∧ done t 0 n
          ∧ writes t (List.zipWith ghashMul (u.fblocks l.val src n) (u.fblocks l.val src2 n)))
    ∧ (fits 3 → (q 3).useH = true →
        (s.flumeSlot (q 3) 0 = 0 → ∃ t, exec (.flumeCipGmul l w0 w1 w2 w3 fill) s = .next t ∧ done t 0 n
          ∧ writes t ((u.fblocks l.val src n).map (fun b => ghashMul b (s.slot (q 3).slot).h)))
        ∧ (s.flumeSlot (q 3) 0 ≠ 0 → refused (.flumeCipGmul l w0 w1 w2 w3 fill) (s.flumeSlot (q 3) 0)))
    ∧ ((q 3).zeroOk = false ∨ n = 0 ∨ 4096 < n ∨ inBuf src (16 * n) = false ∨ inBuf dst (16 * n) = false →
        refused (.flumeCipGmul l w0 w1 w2 w3 fill) 6)
    ∧ (∃ t, exec (.flumeCipBadOp op l w0 w1 w2 w3) s = .next t ∧ done t 0xA 0 ∧ t.flumeBuf = s.flumeBuf)
    ∧ ((q 8).zeroOk = false ∨ n ≠ 0 ∨ len = 0 ∨ 4064 < len ∨ inBuf src len = false → refused (.bwrite l w0 w1 w2 w3 fill) 6)
    ∧ (s.cisState 14 = 0 → ∀ b, (q 8).zeroOk = true → n = 0 → 0 < len → len ≤ 4064 → inBuf src len = true →
        (s.basins.find txn = some b → b.phase = .filling → off = b.data.length → b.data.length + len ≤ b.granules * 65536 →
          ∃ t, exec (.bwrite l w0 w1 w2 w3 fill) s = .next t ∧ done t 0 0 ∧ t.csr = s.csr
            ∧ t.basins.find txn = some { b with data := b.data ++ u.fbuf l.val src len })
        ∧ (s.basins.find txn = none → (s.record txn).isSealed = false →
          ∃ t, exec (.bwrite l w0 w1 w2 w3 fill) s = .next t ∧ done t 9 0
            ∧ t.fld CIP_CNT1 CIP_CNT1.OVERRUN = min (s.fld CIP_CNT1 CIP_CNT1.OVERRUN + 1) CIP_CNT1.OVERRUN.top))
    ∧ ((q 9).zeroOk = false ∨ n ≠ 0 ∨ inBuf src 16 = false ∨ inBuf src2 16 = false → refused (.bclose l w0 w1 w2 w3 fill) 6)
    ∧ (s.cisState 14 = 0 → ∀ b, (q 9).zeroOk = true → n = 0 → inBuf src 16 = true → inBuf src2 16 = true → s.basins.find txn = some b →
        (u.fbuf l.val src 16 = u.fbuf l.val src2 16 → b.phase = .filling → off ≤ b.data.length →
          ∃ t, exec (.bclose l w0 w1 w2 w3 fill) s = .next t ∧ done t 0 0 ∧ t.csr = s.csr
            ∧ t.basins.find txn = some { b with phase := .releasing off })
        ∧ (u.fbuf l.val src 16 ≠ u.fbuf l.val src2 16 → (s.record txn).unended = true → (s.record txn).inbound = true →
            (s.record txn).isSealed = true → (s.xfer txn).tend = none →
          ∃ t, exec (.bclose l w0 w1 w2 w3 fill) s = .next t ∧ done t 8 0
            ∧ t.basins.find txn = some { b with data := [], phase := .wiping }
            ∧ t.fld CIP_CNT1 CIP_CNT1.TAGFAIL = min (s.fld CIP_CNT1 CIP_CNT1.TAGFAIL + 1) CIP_CNT1.TAGFAIL.top))
    ∧ (∀ b m s', s.basins.find i.toNat = some b → b.phase = .releasing m → (s.xfer i.toNat).tend = none →
        s.fld (CIS_BSTAT 14) CIS_BSTAT.STATE = 0 →
        let r := s.record i.toNat
        let k := s.session r.session
        ((s.record i.toNat).squeeze = false →
          ({ s with basins := s.basins.erase i.toNat }.syncBasin).dmaWrite (.flume (k.path r.path)) k.allot r.addr (b.data.take m) = (s', 0) →
          exec (.basinReleaseComplete i) s = .next (s'.setXfer i.toNat { s'.xfer i.toNat with done := true }))
        ∧ ((s.record i.toNat).squeeze = true →
          ∃ t, exec (.basinReleaseComplete i) s = .next t ∧ t.basins.find i.toNat = none ∧ t.mem = s.mem
            ∧ (t.xfer i.toNat).data = b.data.take m ∧ t.cmpSession = s.cmpSession ++ [.inflate i.toNat]))
    ∧ (∀ b m, s.basins.find i.toNat = some b → b.phase = .releasing m →
        (s.fld (CIS_BSTAT 14) CIS_BSTAT.STATE = 0 → ∃ t, exec (.basinReleaseComplete i) s = .next t ∧ t.basins.find i.toNat = none)
        ∧ (s.fld (CIS_BSTAT 14) CIS_BSTAT.STATE ≠ 0 →
            exec (.basinReleaseComplete i) s = .next (s.addrFault .cipher accRead 0x10007000000)))
    ∧ (∀ b, s.basins.find i.toNat = some b → b.phase = .wiping →
        ∃ t, exec (.basinWipeComplete i) s = .next t ∧ t.basins.find i.toNat = none
          ∧ ((s.xfer i.toNat).tend = none → OnlyCsr { s with basins := t.basins } t))
    ∧ (s.basins.find i.toNat = none → exec (.basinReleaseComplete i) s = .next s ∧ exec (.basinWipeComplete i) s = .next s)

/-- From R360, R368, R370, R372, R375 and R377 for the compression engine. A free engine takes the next job of the two queues in turn, or nothing
happens; a job that starts first latches its limit and what it will write; a resumed one reads its
save area and goes on. A job whose output fits ends, its slot
and handle given up; staging keeps the compressed data of its transaction. A failed engine is retired, a spare in its place while one is
left, its core job over and its staging run again. -/
def Obligations.CompressionJobsFollowR360ToR377 : Prop :=
  ∀ (s : State) (n : Fin 72) (e slot i : Nat) (ref : JobRef) (rest : List JobRef) (j : Job),
    let t0 := { s with cmpCore := rest, cmpCoreNext := false, engines := s.engines.put e (.core slot) }
    let u := { s with engines := s.engines.erase n.val }
    let r := s.record i
    let ends := s.sluActs = true ∧ (s.xfer i).tend ≠ none
      ∧ ((s.xfer i).tend.map (fun e => e.2.2.2.1)).getD 0 ≤ (s.xfer i).nextOff
    let retires (t : State) : Prop := t.engines.find n.val = none ∧ bit (t.rd FLT_STATUS) 30 = true
        ∧ (0 < s.fld CMP_STAT CMP_STAT.SPARES_LEFT →
              t.fld CMP_STAT CMP_STAT.SPARES_LEFT = s.fld CMP_STAT CMP_STAT.SPARES_LEFT - 1
            ∧ t.fld CMP_STAT CMP_STAT.ACTIVE = s.fld CMP_STAT CMP_STAT.ACTIVE)
        ∧ (s.fld CMP_STAT CMP_STAT.SPARES_LEFT = 0 → t.fld CMP_STAT CMP_STAT.ACTIVE = s.fld CMP_STAT CMP_STAT.ACTIVE - 1)
    (s.freeEngine = none ∨ s.nextJob = none → exec .compressionJobStart s = .next s)
    ∧ (∀ v, s.freeEngine = some e → s.nextJob = some (ref, v) → ∃ t, exec .compressionJobStart s = .next t
        ∧ (t.engines.find e = some ref ∨ ∃ m, ref = .core m ∧ t.jobs.find m = none)
        ∧ t.cmpCore = v.cmpCore ∧ t.cmpSession = v.cmpSession)
    ∧ (∀ x, s.engines.find n.val = some x → (∀ k, x = .inflate k → s.inputWhole k = true) →
        ∃ t, exec (.compressionJobEnd n) s = .next t ∧ t.engines.find n.val = none)
    ∧ (s.engines.find n.val = some (.inflate i) → s.inputWhole i = false → exec (.compressionJobEnd n) s = .next s)
    ∧ (s.engines.find n.val = some (.inflate i) → i < 4194304 → s.sesImage = false → r.unended = true → ends → s.inputWhole i = true →
        ∃ t, exec (.compressionJobEnd n) s = .next t ∧ ((t.record i).state = 4 ∨ (t.record i).state = 5) ∧ t.xfers.find i = none)
    ∧ (s.engines.find n.val = some (.inflate i) → i < 4194304 → s.sesImage = false → r.unended = true → ends →
        (s.xfer i).bad = 0 → ∃ t, exec (.engineFault n) s = .next t ∧ retires t ∧ (t.record i).state = 5 ∧ (t.record i).status = 0x31)
    ∧ (s.freeEngine = some e →
        (s.cmpCoreNext = false → s.cmpSession = ref :: rest → ref = .stage i ∨ ref = .inflate i ∧ (r.isSealed = true ∨ r.squeeze = false) →
          exec .compressionJobStart s = .next ({ s with cmpSession := rest, cmpCoreNext := true, engines := s.engines.put e ref }.setXfer i
            { s.xfer i with ratio := s.fld CMP_CFG CMP_CFG.RATIO, abslim := s.fld CMP_CFG CMP_CFG.ABSLIM_MIB }))
        ∧ (s.cmpCoreNext = true → s.cmpCore = .core slot :: rest → s.jobs.find slot = some j →
            (∀ s' data err, j.limit ≠ none → t0.spRead (some j.allot) .compress j.save (saveSize j) = (s', data, err) →
              (err = 0 → exec .compressionJobStart s = .next { s' with jobs := s'.jobs.put slot { j with phase := .running } })
              ∧ (err ≠ 0 → ∃ t, exec .compressionJobStart s = .next t ∧ t.jobs.find slot = none))
            ∧ (∀ s' data, j.limit = none → j.op = 2 → j.gather = false →
                t0.spRead (some j.allot) .compress j.src j.slen = (s', data, 0) →
                let x := inflate j.format j.dict (s'.dictBytes j.dict) data
                let lim := s'.outLimit j.olimit (some j.ratio) j.slen
                ∃ t k, exec .compressionJobStart s = .next t ∧ t = { s' with jobs := t.jobs } ∧ t.jobs.find slot = some k
                  ∧ k.phase = .running ∧ k.limit = some lim ∧ k.out = x.out.take lim ∧ k.done = j.done
                  ∧ k.final = if lim < x.out.length then 3 else x.status)))
    ∧ (s.engines.find n.val = none → exec (.compressionJobEnd n) s = .next s)
    ∧ (∀ s', s.engines.find n.val = some (.core slot) → s.jobs.find slot = some j → j.allot < 4096 → j.done = 0 → j.links = [] →
        j.out ≠ [] → j.out.length ≤ j.dlen → j.final = 0 →
        u.spWrite (some j.allot) .compress j.dst j.out = (s', 0) →
        ∃ t, exec (.compressionJobEnd n) s = .next t ∧ t.engines.find n.val = none ∧ t.jobs.find slot = none
          ∧ t.jobGen.find slot = some ((j.gen + 1) % 2 ^ 20)
          ∧ t.fld (CMP_AJOB j.allot) CMP_AJOB.JOBS = s.fld (CMP_AJOB j.allot) CMP_AJOB.JOBS - 1
          ∧ t.fld CMP_CNT1 CMP_CNT1.BYTES_OUT = min (s.fld CMP_CNT1 CMP_CNT1.BYTES_OUT + j.out.length) CMP_CNT1.BYTES_OUT.top)
    ∧ (∀ s' data, s.engines.find n.val = some (.stage i) → u.dmaRead .compress (s.session r.session).allot r.addr r.count = (s', data, 0) →
        ∃ t, exec (.compressionJobEnd n) s = .next t ∧ (let all := compress (s.session r.session).format r.dict (s'.dictBytes r.dict) [data]
            all.length ≤ (s.xfer i).abslim * 1048576 → t.stageData.find i = some all.length
              ∧ (∀ gr, s.stageHeld.get [] i = [gr] → all.length ≤ 1048576 →
                  StoredBytes s'.mem t.mem ((s.fld CMP_STAGE CMP_STAGE.BASE + gr) * 1048576) all.length (fun j => all.getD j 0))))
    ∧ (s.engines.find n.val = none → ∃ t, exec (.engineFault n) s = .next t ∧ retires t ∧ t.mem = s.mem)
    ∧ (s.engines.find n.val = some (.stage i) → ∃ t, exec (.engineFault n) s = .next t ∧ retires t
        ∧ t.cmpSession = .stage i :: s.cmpSession ∧ t.mem = s.mem)
    ∧ (s.engines.find n.val = some (.core slot) → s.jobs.find slot = some j → j.allot < 4096 →
        ∃ t, exec (.engineFault n) s = .next t ∧ retires t ∧ t.jobs.find slot = none
          ∧ t.jobGen.find slot = some ((j.gen + 1) % 2 ^ 20))

/-! Clocks, culverts and power (R379-R398) -/

/-- From R380 to R386, R397, R484 and R485 for clock islands: a GO that R382 or the limits forbid ends with its RESULT; a change of a core island
waits for the stagger of another; the divider moves one step at a time towards its goal; a lock that fails leaves the island at /16 on REF; a
woken island begins at /16; a drained one stops, and a drain that times out goes back. -/
def Obligations.ClockIslandsFollowR380ToR386 : Prop :=
  ∀ (s : State) (g : Fin 18) (i : Fin 17) (far : Fin 18) (c : IslandChange) (rest : List Nat),
    let a (n : Nat) := CLK_ISTAT n
    let st (t : State) (n : Nat) := t.fld (a n) CLK_ISTAT.STATE
    let div (t : State) (n : Nat) := t.fld (a n) CLK_ISTAT.DIV
    let d := div s i.val
    let cap := s.fld (a i.val) CLK_ISTAT.CAPDIV
    let want := s.fld (CLK_ICTL g.val) CLK_ICTL.DIV
    let f := s.fld (CLK_ICTL g.val) CLK_ICTL.FREQ
    let steady := s.fld (CLK_ICTL g.val) CLK_ICTL.RUN_EN = 1 ∧ st s g.val = 0 ∧ g.val < 14 ∧ s.fld (a g.val) CLK_ISTAT.BUSY = 0
    let kept := 1000 ≤ f ∧ f ≤ islandFreq g.val ∧ f = s.freqOf g.val ∧ s.fld (a g.val) CLK_ISTAT.LOCK = 1
      ∧ s.fld (CLK_ICTL g.val) CLK_ICTL.SRC = s.fld (a g.val) CLK_ISTAT.SRC
    let refuses (res : Nat) : Prop := ∃ t, exec (.clkGo g) s = .next t ∧ OnlyCsr s t ∧ t.fld (a g.val) CLK_ISTAT.RESULT = res
      ∧ t.fld (a g.val) CLK_ISTAT.DONE = 1 ∧ st t g.val = st s g.val
    let settles (t : State) (n st' res : Nat) : Prop := st t n = st' ∧ t.fld (a n) CLK_ISTAT.BUSY = 0 ∧ t.fld (a n) CLK_ISTAT.DONE = 1
      ∧ t.fld (a n) CLK_ISTAT.RESULT = res ∧ t.clkChange.find n = none
    (s.fld (a g.val) CLK_ISTAT.BUSY = 1 → exec (.clkGo g) s = .next (s.setF (a g.val) CLK_ISTAT.RESULT 1))
    ∧ (s.fld (a g.val) CLK_ISTAT.BUSY = 0 → 14 ≤ g.val → refuses 2)
    ∧ (steady → f < 1000 ∨ islandFreq g.val < f → refuses 4)
    ∧ (steady → kept → (max want (s.fld (a g.val) CLK_ISTAT.CAPDIV) = div s g.val →
          ∃ t, exec (.clkGo g) s = .next t ∧ settles t g.val 0 0 ∧ t.mem = s.mem)
        ∧ (max want (s.fld (a g.val) CLK_ISTAT.CAPDIV) ≠ div s g.val → g.val < 8 → s.clkWait = [] →
          ∃ t, exec (.clkGo g) s = .next t ∧ t.fld (a g.val) CLK_ISTAT.BUSY = 1 ∧ t.mem = s.mem
            ∧ t.staggerOn = (if s.staggerOn = none ∨ s.staggerOn = some g.val then some g.val else s.staggerOn)
            ∧ st t g.val = (if s.staggerOn = none ∨ s.staggerOn = some g.val then 4 else 7) ∧ div t g.val = div s g.val
            ∧ t.clkWait = if s.staggerOn = none ∨ s.staggerOn = some g.val then [] else [g.val]))
    ∧ (st s g.val = 0 → s.fld (a g.val) CLK_ISTAT.BUSY = 0 → g.val < 14 → g.val ≠ 9 → s.fld (CLK_ICTL g.val) CLK_ICTL.RUN_EN = 0 →
        s.fld (CLK_ICTL g.val) CLK_ICTL.SLEEP_EN = 1 →
        (s.leaveBad g.val = true → refuses 3)
        ∧ (s.leaveBad g.val = false → 1000 ≤ f → f ≤ islandFreq g.val → ∃ t, exec (.clkGo g) s = .next t ∧ t.mem = s.mem
            ∧ t.fld (a g.val) CLK_ISTAT.BUSY = 1 ∧ (st t g.val = 4 ∨ st t g.val = 5 ∨ st t g.val = 7)))
    ∧ (s.clkWait = [] → exec .staggerWaitEnd s = .next { s with staggerOn := none })
    ∧ (s.clkWait = i.val :: rest → s.clkChange.find i.val = none →
        exec .staggerWaitEnd s = .next { s with clkWait := rest, staggerOn := some i.val })
    ∧ (s.clkWait = i.val :: rest → s.clkChange.find i.val = some c → c.origin = 0 → c.target = 0 → c.relock = false →
        c.src = s.fld (a i.val) CLK_ISTAT.SRC → max c.div cap ≠ d →
        ∃ t, exec .staggerWaitEnd s = .next t ∧ t.clkWait = rest ∧ st t i.val = 4 ∧ t.clkChange.find i.val = some { c with phase := .ramp })
    ∧ (s.clkChange.find i.val = none → exec (.dividerStep i) s = .next s ∧ exec (.wakeComplete i) s = .next s
        ∧ exec (.drainComplete i) s = .next s ∧ exec (.drainTimeout i far) s = .next s ∧ ∀ ok, exec (.pllLock i ok) s = .next s)
    ∧ (s.clkChange.find i.val = some c → c.div ≤ 7 → c.result < 256 → c.src < 2 →
        (c.phase = .ramp → max c.div cap ≠ d →
          ∃ t, exec (.dividerStep i) s = .next t ∧ div t i.val = (if d < max c.div cap then d + 1 else d - 1)
            ∧ (div t i.val = max c.div cap → settles t i.val 0 c.result) ∧ (div t i.val ≠ max c.div cap → st t i.val = 4))
        ∧ (c.phase = .down → ∃ t, exec (.dividerStep i) s = .next t ∧ div t i.val = min 7 (d + 1))
        ∧ (c.phase = .switching → ∃ t, exec (.dividerStep i) s = .next t ∧ t.fld (a i.val) CLK_ISTAT.SRC = c.src)
        ∧ (c.phase = .waking → c.origin ≠ 1 →
          (∃ t, exec (.pllLock i true) s = .next t ∧ t.fld (a i.val) CLK_ISTAT.LOCK = 1 ∧ t.fld (a i.val) CLK_ISTAT.SRC = c.src)
          ∧ ∃ t, exec (.pllLock i false) s = .next t ∧ settles t i.val 0 6 ∧ div t i.val = 7 ∧ t.fld (a i.val) CLK_ISTAT.LOCK = 0)
        ∧ (c.phase = .waking → c.origin = 1 ∨ s.fld (a i.val) CLK_ISTAT.LOCK = 1 → ∃ t, exec (.wakeComplete i) s = .next t
            ∧ div t i.val = 7)
        ∧ (c.phase = .draining → i.val < 14 → c.target < 4 → ∃ t, exec (.drainComplete i) s = .next t ∧ settles t i.val c.target c.result)
        ∧ (c.phase = .locking →
          (∃ t, exec (.pllLock i true) s = .next t ∧ t.fld (a i.val) CLK_ISTAT.LOCK = 1 ∧ t.fld (a i.val) CLK_ISTAT.SRC = c.src)
          ∧ ∃ t, exec (.pllLock i false) s = .next t ∧ settles t i.val 0 6 ∧ div t i.val = 7 ∧ t.fld (a i.val) CLK_ISTAT.SRC = 1
              ∧ t.fld (a i.val) CLK_ISTAT.LOCK = 0)
        ∧ (c.phase = .waking → s.fld (a i.val) CLK_ISTAT.LOCK = 1 → c.origin = 1 → c.target = 0 → c.relock = false →
            c.src = s.fld (a i.val) CLK_ISTAT.SRC →
            ∃ t, exec (.wakeComplete i) s = .next t ∧ div t i.val = 7 ∧ t.mem = s.mem
              ∧ (max c.div cap = 7 → settles t i.val 0 c.result) ∧ (max c.div cap ≠ 7 → st t i.val = 4))
        ∧ (c.phase = .draining →
            (c.target = 1 → ∃ t, exec (.drainComplete i) s = .next t ∧ settles t i.val 1 c.result ∧ div t i.val = 7 ∧ t.cores = s.cores)
            ∧ (c.target = 2 → i.val < 8 → ∃ t, exec (.drainComplete i) s = .next t ∧ settles t i.val 2 c.result
                ∧ t.fld (a i.val) CLK_ISTAT.LOCK = 0 ∧ t.mem = s.mem
                ∧ ∀ k, coreIsland k = i.val → (t.core k).l1d = [] ∧ (t.core k).l1i = [] ∧ (t.core k).arch = (s.core k).arch)
            ∧ (c.target = 3 → i.val < 8 → ∃ t, exec (.drainComplete i) s = .next t ∧ settles t i.val 3 c.result
                ∧ t.fld (a i.val) CLK_ISTAT.LOCK = 0 ∧ ∀ k, coreIsland k = i.val → t.core k = Core.reset)
            ∧ (c.back ≤ 7 → ∃ t, exec (.drainTimeout i far) s = .next t ∧ bit (t.rd FLT_STATUS) 33 = true ∧ t.mem = s.mem
                ∧ t.fld (a i.val) CLK_ISTAT.DRAINFAR = far.val
                ∧ t.fld (CLK_ICNT i.val) CLK_ICNT.DRAINFAIL = min (s.fld (CLK_ICNT i.val) CLK_ICNT.DRAINFAIL + 1) CLK_ICNT.DRAINFAIL.top
                ∧ (max c.back cap = d → settles t i.val 0 5) ∧ (max c.back cap ≠ d → st t i.val = 4))))

/-- From R380, R391 to R396 for the reference, culverts and power. A lost reference goes to holdover, severe, and fatal when the holdover expires;
its return clears it; an island whose PLL loses lock goes on at REF. A transfer over a culvert that meets four parity errors breaks it.
The fast loop throttles up above the ceiling and down after 64 low windows; the slow loop slows the fastest core island above the limit
and gives back a step after 100 low milliseconds; the clamps throttle fully while engaged. -/
def Obligations.ReferenceCulvertsAndPowerFollowR380ToR396 : Prop :=
  ∀ (s : State) (i : Fin 17) (x y : Fin 18) (errs : Fin 5) (p : BitVec 12) (k : Nat),
    let holdover := s.fld CLK_REFSTAT CLK_REFSTAT.HOLDOVER
    let locked := s.fld CLK_REFSTAT CLK_REFSTAT.REFLOCK
    let level := s.fld LEV_PSTAT LEV_PSTAT.THROTTLE
    let ceil := s.fld LEV_PCEIL LEV_PCEIL.CEIL_W
    let limit := s.fld LEV_PLIMIT LEV_PLIMIT.LIMIT_W
    let throttled (t : State) (n : Nat) : Prop := t.fld LEV_PSTAT LEV_PSTAT.THROTTLE = max (min n 7) s.heatFloor ∧ t.mem = s.mem
    let flt (t : State) (n : Nat) : Prop := bit (t.rd FLT_STATUS) n = true ∧ t.mem = s.mem
    (locked = 0 → exec .referenceLoss s = .next s)
    ∧ (locked = 1 → ∃ t, exec .referenceLoss s = .next t ∧ flt t 31 ∧ t.fld CLK_REFSTAT CLK_REFSTAT.REFLOCK = 0
        ∧ t.fld CLK_REFSTAT CLK_REFSTAT.HOLDOVER = 1 ∧ t.fld HRC_STAT HRC_STAT.HOLDOVER = 1
        ∧ t.fld CLK_REFSTAT CLK_REFSTAT.REFLOSS
            = min (s.fld CLK_REFSTAT CLK_REFSTAT.REFLOSS + 1) CLK_REFSTAT.REFLOSS.top)
    ∧ (holdover = 0 → exec .referenceReturn s = .next s ∧ exec .holdoverExpiry s = .next s)
    ∧ (holdover = 1 →
        (∃ t, exec .referenceReturn s = .next t ∧ t.fld CLK_REFSTAT CLK_REFSTAT.REFLOCK = 1
          ∧ t.fld CLK_REFSTAT CLK_REFSTAT.HOLDOVER = 0 ∧ t.fld HRC_STAT HRC_STAT.HOLDOVER = 0 ∧ t.mem = s.mem)
        ∧ ∃ t, exec .holdoverExpiry s = .next t ∧ flt t 31 ∧ t.fallow = true ∧ t.lanesIdle = true
            ∧ ∀ n, n < 17 → t.fld (CLK_ISTAT n) CLK_ISTAT.STATE = 3)
    ∧ (s.fld (CLK_ISTAT i.val) CLK_ISTAT.LOCK = 0 ∨ locked = 0 → exec (.pllLockLoss i) s = .next s)
    ∧ (s.fld (CLK_ISTAT i.val) CLK_ISTAT.LOCK = 1 → locked = 1 → ∃ t, exec (.pllLockLoss i) s = .next t ∧ flt t 32
        ∧ t.fld (CLK_ISTAT i.val) CLK_ISTAT.LOCK = 0 ∧ t.fld (CLK_ISTAT i.val) CLK_ISTAT.SRC = 1
        ∧ t.fld (CLK_ISTAT i.val) CLK_ISTAT.DIV = s.fld (CLK_ISTAT i.val) CLK_ISTAT.DIV)
    ∧ (s.culvertBroken x.val y.val = true ∨ s.islandRuns y.val = false ∨ errs.val = 0 →
        exec (.culvertTransfer x y errs) s = .next s)
    ∧ (s.culvertBroken x.val y.val = false → s.islandRuns y.val = true → 0 < errs.val →
        ∃ t, exec (.culvertTransfer x y errs) s = .next t ∧ flt t 34
          ∧ (errs.val = 4 → t.culvertBroken x.val y.val = true) ∧ (errs.val < 4 → t.culvertsBroken = s.culvertsBroken))
    ∧ (s.heatFloor ≤ 7 →
        (ceil < p.toNat → ∃ t, exec (.fastLoopWindow p) s = .next t ∧ throttled t (level + 1) ∧ t.fastLow = 0
          ∧ t.fld LEV_PSTAT LEV_PSTAT.PEAK_W = max p.toNat (s.fld LEV_PSTAT LEV_PSTAT.PEAK_W))
        ∧ (p.toNat ≤ ceil → ceil * 95 < p.toNat * 100 → ∃ t, exec (.fastLoopWindow p) s = .next t ∧ t.fastLow = 0 ∧ t.mem = s.mem
          ∧ t.fld LEV_PSTAT LEV_PSTAT.THROTTLE = level)
        ∧ (p.toNat * 100 ≤ ceil * 95 → s.fastLow < 63 → ∃ t, exec (.fastLoopWindow p) s = .next t ∧ t.fastLow = s.fastLow + 1
          ∧ t.fld LEV_PSTAT LEV_PSTAT.THROTTLE = level)
        ∧ (p.toNat * 100 ≤ ceil * 95 → s.fastLow = 63 → ∃ t, exec (.fastLoopWindow p) s = .next t ∧ t.fastLow = 0
          ∧ throttled t (level - 1))
        ∧ (∃ t, exec .clampEngage s = .next t ∧ throttled t 7 ∧ t.fld LEV_PSTAT LEV_PSTAT.CLAMPED = 1 ∧ flt t 35
          ∧ t.fld LEV_PCNT LEV_PCNT.CLAMPS = min (s.fld LEV_PCNT LEV_PCNT.CLAMPS + 1) LEV_PCNT.CLAMPS.top))
    ∧ (limit < p.toNat → s.capVictim = some k → ∃ t, exec (.slowLoopEvaluation p) s = .next t
        ∧ t.fld LEV_PSTAT LEV_PSTAT.INPUT_W = p.toNat ∧ t.fld (CLK_ISTAT k) CLK_ISTAT.CAPDIV = min 7 (s.fld (CLK_ISTAT k) CLK_ISTAT.CAPDIV + 1)
        ∧ t.fld LEV_PCNT LEV_PCNT.LOOP_STEPS = min (s.fld LEV_PCNT LEV_PCNT.LOOP_STEPS + 1) LEV_PCNT.LOOP_STEPS.top)
    ∧ (limit < p.toNat → s.capVictim = none →
        exec (.slowLoopEvaluation p) s = .next { s.setF LEV_PSTAT LEV_PSTAT.INPUT_W p.toNat with
          slowLow := if p.toNat * 10 < limit * 9 then s.slowLow + 1 else 0 })
    ∧ (p.toNat ≤ limit → limit * 9 ≤ p.toNat * 10 →
        exec (.slowLoopEvaluation p) s = .next { s.setF LEV_PSTAT LEV_PSTAT.INPUT_W p.toNat with slowLow := 0 })
    ∧ (p.toNat * 10 < limit * 9 → 99 ≤ s.slowLow →
        firstIdx 8 (fun n => !s.flag (CLK_ISTAT n) CLK_ISTAT.BUSY && decide (s.divOf n < s.fld (CLK_ISTAT n) CLK_ISTAT.CAPDIV)) = some k →
        ∃ t, exec (.slowLoopEvaluation p) s = .next t ∧ t.slowLow = s.slowLow + 1
          ∧ t.fld (CLK_ISTAT k) CLK_ISTAT.CAPDIV = s.fld (CLK_ISTAT k) CLK_ISTAT.CAPDIV - 1)
    ∧ (s.fld LEV_PSTAT LEV_PSTAT.CLAMPED = 0 → exec .clampSustained s = .next s)
    ∧ (s.fld LEV_PSTAT LEV_PSTAT.CLAMPED = 1 → ∃ t, exec .clampSustained s = .next t ∧ flt t 35 ∧ 3 ≤ t.fld (FLT_SRC 35) FLT_SRC.CLASS)
    ∧ exec .clampRelease s = .next (s.setF LEV_PSTAT LEV_PSTAT.CLAMPED 0)

/-! Starts (R399-R418) and pins (R465, R466) -/

/-- From R399, R400, R407, R417, R418, R421, R448, R465 and R466 for what begins or holds back a start. PRST_N, PWR_GOOD low or a loss of VIN
resets the module: lanes idle, the bypass closed, the collector cleared, DRAM in self-refresh with what it holds; a cold start begins once
no pin holds it back. A request in HWK_SCMD begins the start it names, is refused, or ends BAD-OP; in reset or fallow it does nothing. Out of reset
and fallow the commands of a start under way complete: COLD_START and WARM_START request the HEADWORKS image and, the images
loaded, reach trickle service; a timeout, a deadline and a failed step fail the start; a loopback test, a channel's training and
the two steps of the transition take effect. -/
def Obligations.StartsBeginAsR399AndR465Give : Prop :=
  ∀ (s : State) (high : Bool) (o : StartOutcome) (code step : BitVec 4) (lane : Fin 288) (n : Fin 8) (ch : Fin 17) (ok : Bool) (us : BitVec 32),
    let fld (f : Fld) := s.fld HWK_SSTAT f
    let failed (t : State) (code step : Nat) : Prop := t.fld HWK_SSTAT HWK_SSTAT.LASTFAIL = code ∧ t.fld HWK_SSTAT HWK_SSTAT.FAILSTEP = step
    let held (t : State) : Prop := t.inReset = true ∧ t.fallow = false ∧ t.lanesIdle = true ∧ t.bypass = true ∧ t.startStage = .idle
      ∧ t.rd FLT_STATUS = 0 ∧ t.mem = s.mem ∧ t.slots = s.slots ∧ ∀ n, n < 8 → t.fld (DRM_SSTAT n) DRM_SSTAT.STATE = 1
    let begun (t : State) (kind : Nat) : Prop := t.inReset = false ∧ t.fallow = false ∧ t.lanesIdle = true ∧ t.startStage = .begun
      ∧ t.cores = [] ∧ t.sessions = [] ∧ t.live = [] ∧ t.iotlb = [] ∧ t.fld HWK_SSTAT HWK_SSTAT.KIND = kind
      ∧ t.fld HWK_SSTAT HWK_SSTAT.PHASE = 0 ∧ t.fld HWK_SSTAT HWK_SSTAT.FORCED = 0
      ∧ t.slots = (if kind = 1 then s.slots else []) ∧ (s.dram = [] → t.mem = s.mem)
    let notReady : Prop := s.fld HWK_SSTAT HWK_SSTAT.PHASE = 0 ∨ s.fld HWK_SSTAT HWK_SSTAT.BASEMASK ≠ 0 ∨ s.fld LGR_STAT LGR_STAT.STATE ≠ 2
    (s.prst = false → s.pwrLow = false → ∃ t, exec .powerOn s = .next t ∧ begun t 0 ∧ t.vinLow = false ∧ t.rd FLT_STATUS = 0)
    ∧ (∃ t, exec .prstAssert s = .next t ∧ held t ∧ t.prst = true)
    ∧ (∃ t, exec .pwrGoodLow s = .next t ∧ held t ∧ t.pwrLow = true)
    ∧ (∃ t, exec .vinLow s = .next t ∧ held t ∧ t.vinLow = true)
    ∧ (s.prst = false → exec .prstRelease s = .next s)
    ∧ (s.prst = true → s.pwrLow = false → s.vinLow = false → s.scanHold = false →
        ∃ t, exec .prstRelease s = .next t ∧ begun t 0 ∧ t.prst = false)
    ∧ (s.prst = true → s.pwrLow = true ∨ s.vinLow = true ∨ s.scanHold = true → exec .prstRelease s = .next { s with prst := false })
    ∧ (s.pwrLow = false → exec .pwrGoodHigh s = .next s)
    ∧ (s.pwrLow = true → s.prst = false → s.vinLow = false → s.scanHold = false →
        ∃ t, exec .pwrGoodHigh s = .next t ∧ begun t 0 ∧ t.pwrLow = false)
    ∧ (s.pwrLow = true → s.prst = true ∨ s.vinLow = true ∨ s.scanHold = true → exec .pwrGoodHigh s = .next { s with pwrLow := false })
    ∧ (s.prst = true ∨ s.pwrLow = true → ∃ t, exec .powerOn s = .next t ∧ held t ∧ t.vinLow = false)
    ∧ (s.vinLow = true → exec (.vinOutsideRange high) s = .next s)
    ∧ (s.vinLow = false → ∃ t, exec (.vinOutsideRange high) s = .next t ∧ bit (t.rd FLT_STATUS) 42 = true ∧ t.mem = s.mem
        ∧ t.inReset = s.inReset)
    ∧ (s.inReset = true ∨ s.fallow = true →
        exec .startWarm s = .next s ∧ exec .startCold s = .next s ∧ exec .startBadOp s = .next s)
    ∧ (s.inReset = false → s.fallow = false →
        exec .startBadOp s = .next (s.setF HWK_SSTAT HWK_SSTAT.RESULT 2)
        ∧ (notReady → exec .startWarm s = .next (s.setF HWK_SSTAT HWK_SSTAT.RESULT 1))
        ∧ (¬ notReady → ∃ t, exec .startWarm s = .next t ∧ begun t 1)
        ∧ (∃ t, exec .startCold s = .next t ∧ begun t 0)
        ∧ (s.startStage = .begun → o.bist = [] → (List.range 8).all (fun i => s.badIslands.contains i) = false → s.sluState false ≠ 4 →
            (fld HWK_SSTAT.KIND = 0 → o.refLock = true → ∃ t, exec (.coldStart o) s = .next t ∧ t.startStage = .image 3)
            ∧ (fld HWK_SSTAT.KIND = 1 → ∃ t, exec (.warmStart o) s = .next t ∧ t.startStage = .image 3))
        ∧ (s.startStage = .loaded →
            (fld HWK_SSTAT.KIND = 0 → o.baseFail = [] → ∃ t, exec (.coldStart o) s = .next t ∧ t.fld HWK_SSTAT HWK_SSTAT.PHASE = 1)
            ∧ (fld HWK_SSTAT.KIND = 1 → o.dramFail = [] → ∃ t, exec (.warmStart o) s = .next t ∧ t.fld HWK_SSTAT HWK_SSTAT.PHASE = 1))
        ∧ (∀ typ, s.startStage = .image typ → s.imageIn.full = false →
            ∃ t, exec .imageReqTimeout s = .next t ∧ failed t 4 s.startStep)
        ∧ (s.startStage ≠ .idle → fld HWK_SSTAT.PHASE = 0 →
            (∃ t, exec .startDeadline s = .next t ∧ failed t 7 s.startStep)
            ∧ (1 ≤ code.toNat → code.toNat ≤ 7 → ∃ t, exec (.startFail code step) s = .next t ∧ failed t code.toNat step.toNat))
        ∧ (fld HWK_SSTAT.PHASE ≠ 3 → ok = true ∨ 256 ≤ s.fld (LNK_PSTAT lane.val) LNK_PSTAT.CARRIES →
            ∃ t, exec (.laneLoopbackEnd lane ok) s = .next t ∧ t.loopDone.contains lane.val = true)
        ∧ (fld HWK_SSTAT.PHASE = 1 → s.nextTrain n.val = some ch.val → (fld HWK_SSTAT.BASEMASK).testBit n.val = true →
            ∃ t, exec (.fullRateTraining n ch ok) s = .next t ∧ t.fullRate.contains (n.val * 32 + ch.val) = true)
        ∧ (fld HWK_SSTAT.PHASE = 1 → s.mayTransit = true → ∃ t, exec (.transition ok us) s = .next t ∧ t.fld HWK_SSTAT HWK_SSTAT.PHASE = 2)
        ∧ (fld HWK_SSTAT.PHASE = 2 → s.clkChange = [] → ∃ t, exec (.transition ok us) s = .next t ∧ t.fld HWK_SSTAT HWK_SSTAT.PHASE = 3))

/-- From R401 to R417 for a start under way. A reference that does not lock, an image that does not come, a missed deadline or a failed step
fails the start with its LASTFAIL, and it begins anew, until the third cold failure in a row leaves the module in fallow and the third warm
one forces a cold start. BIST passed, the HEADWORKS image is requested; a verified image is written and the next requested; base training
passed, all DRAM is clear, the ledger ready and trickle service entered. Loopback and full-rate training go on under service; the
transition goes through its stages. -/
def Obligations.StartsProceedAsR401ToR417Give : Prop :=
  ∀ (s : State) (o : StartOutcome) (code step : BitVec 4) (lane : Fin 288) (n : Fin 8) (ch : Fin 17) (ok : Bool) (us : BitVec 32)
      (typ l k : Nat),
    let fld (f : Fld) := s.fld HWK_SSTAT f
    let run := s.inReset = false ∧ s.fallow = false
    let failed (t : State) (code step : Nat) : Prop := t.fld HWK_SSTAT HWK_SSTAT.LASTFAIL = code ∧ t.fld HWK_SSTAT HWK_SSTAT.FAILSTEP = step
      ∧ bit (t.rd FLT_STATUS) 36 = true ∧ t.lanesIdle = true
    let again (t : State) : Prop := t.startStage = .begun ∧ t.fld HWK_SSTAT HWK_SSTAT.KIND = 0
      ∧ t.fld HWK_SSTAT HWK_SSTAT.COLDFAIL = fld HWK_SSTAT.COLDFAIL + 1
    let asks (t : State) (typ : Nat) : Prop := t.startStage = .image typ ∧ t.imageIn = ⟨(s.imageIn.req + 1) % 65536, [], false, 0⟩
      ∧ ∃ a f pl, t.out.head? = some (.chain true 0x82 a 0 f 0 pl) ∧ pl.take 3 = [3, 0, BitVec.ofNat 8 typ]
    let early := fld HWK_SSTAT.KIND = 0 ∧ fld HWK_SSTAT.COLDFAIL < 2 ∧ fld HWK_SSTAT.PHASE = 0
    (run → s.startStage = .begun → early →
      (o.refLock = false → ∃ t, exec (.coldStart o) s = .next t ∧ failed t 1 2 ∧ again t)
      ∧ (o.refLock = true → o.bist.contains .vital = true → ∃ t, exec (.coldStart o) s = .next t ∧ failed t 2 3 ∧ again t)
      ∧ (o.refLock = true → o.bist = [] → (List.range 8).all (fun i => s.badIslands.contains i) = false → s.sluState false ≠ 4 →
          ∃ t, exec (.coldStart o) s = .next t ∧ asks t 3 ∧ t.fld CLK_REFSTAT CLK_REFSTAT.REFLOCK = 1 ∧ t.bypass = false))
    ∧ (run → s.startStage = .begun → fld HWK_SSTAT.KIND = 1 → o.bist = [] → (List.range 8).all (fun i => s.badIslands.contains i) = false →
        s.sluState false ≠ 4 → s.bypass = false →
        ∃ t, exec (.warmStart o) s = .next t ∧ asks t 3 ∧ t.mem = s.mem ∧ t.slots = s.slots)
    ∧ (fld HWK_SSTAT.KIND = 1 → exec (.coldStart o) s = .next s)
    ∧ (fld HWK_SSTAT.KIND = 0 → exec (.warmStart o) s = .next s)
    ∧ (run → s.startStage = .image 1 → fld HWK_SSTAT.KIND = 0 → s.bypass = false →
        (s.imageIn.full = false → exec (.coldStart o) s = .next s)
        ∧ (s.imageIn.full = true → s.imageIn.tries < 2 →
          let vr := s.gciVerify s.imageIn.data [1] false false
          ∃ t, exec (.coldStart o) s = .next t
            ∧ (if vr.1 = 0 then asks t 2 ∧ t.coreStore = writeWords s.coreStore vr.2 ∧ t.mem = s.mem
              else if vr.1 = 4 ∨ vr.1 = 0xD then t.startStage = .image 1 ∧ t.imageIn.tries = s.imageIn.tries + 1 ∧ t.coreStore = s.coreStore
              else (early → failed t 3 8 ∧ again t))))
    ∧ (run → s.startStage = .loaded → fld HWK_SSTAT.KIND = 0 → o.baseFail = [] →
        ∃ t, exec (.coldStart o) s = .next t ∧ t.startStage = .idle ∧ t.fld HWK_SSTAT HWK_SSTAT.PHASE = 1 ∧ t.live = []
          ∧ t.fld HWK_STIME HWK_STIME.TRICKLE_AT = o.us.toNat ∧ t.fld LGR_STAT LGR_STAT.STATE = 2
          ∧ t.fld SLU_STAT SLU_STAT.HOLDER = (if s.sluState false = 4 then 1 else 0)
          ∧ (s.sessions = [] → s.upWait = [] → s.sesBusy = none →
              ∀ a, memGet t.mem a = if a < 0x8000000000 then 0 else memGet s.mem a))
    ∧ (run → s.startStage = .loaded → early → (n, ch) ∈ o.baseFail → ch.val < 16 → (n, (16 : Fin 17)) ∈ o.baseFail →
        s.fld (DRM_SSTAT n.val) DRM_SSTAT.SPARED = 31 → ∃ t, exec (.coldStart o) s = .next t ∧ failed t 5 6 ∧ again t)
    ∧ (run → s.startStage = .loaded → fld HWK_SSTAT.KIND = 1 →
        (o.dramFail = [] → ∃ t, exec (.warmStart o) s = .next t ∧ t.startStage = .idle ∧ t.fld HWK_SSTAT HWK_SSTAT.PHASE = 1
          ∧ t.fld HWK_STIME HWK_STIME.TRICKLE_AT = o.us.toNat ∧ t.fld LGR_STAT LGR_STAT.STATE = 2
          ∧ t.fld SLU_STAT SLU_STAT.HOLDER = (if s.sluState false = 4 then 1 else 0))
        ∧ (o.dramFail ≠ [] → ∃ t, exec (.warmStart o) s = .next t ∧ failed t 5 6))
    ∧ (run → s.startStage = .image typ → s.imageIn.full = false → early → ∃ t, exec .imageReqTimeout s = .next t ∧ failed t 4 s.startStep ∧ again t)
    ∧ (s.startStage = .idle ∨ s.startStage = .begun ∨ s.startStage = .loaded ∨ s.imageIn.full = true → exec .imageReqTimeout s = .next s)
    ∧ (run → s.startStage ≠ .idle → early → ∃ t, exec .startDeadline s = .next t ∧ failed t 7 s.startStep ∧ again t)
    ∧ (run → fld HWK_SSTAT.PHASE = 1 ∨ fld HWK_SSTAT.PHASE = 2 →
        (s.fld HWK_SCFG HWK_SCFG.HOLD_TRICKLE = 0 → ∃ t, exec .startDeadline s = .next t ∧ failed t 7 s.startStep)
        ∧ (s.fld HWK_SCFG HWK_SCFG.HOLD_TRICKLE = 1 → exec .startDeadline s = .next s))
    ∧ (fld HWK_SSTAT.PHASE = 3 ∨ s.inReset = true ∨ s.fallow = true → exec .startDeadline s = .next s)
    ∧ (code.toNat = 0 ∨ 7 < code.toNat → exec (.startFail code step) s = .refused .illFormed)
    ∧ (s.startStage = .idle → 1 ≤ code.toNat → code.toNat ≤ 7 → exec (.startFail code step) s = .next s)
    ∧ (run → s.startStage ≠ .idle → 1 ≤ code.toNat → code.toNat ≤ 7 →
        (early → ∃ t, exec (.startFail code step) s = .next t ∧ failed t code.toNat step.toNat ∧ again t)
        ∧ (fld HWK_SSTAT.KIND = 0 → 2 ≤ fld HWK_SSTAT.COLDFAIL → ∃ t, exec (.startFail code step) s = .next t
            ∧ failed t code.toNat step.toNat ∧ t.fallow = true ∧ t.startStage = .idle ∧ bit (t.rd FLT_STATUS) 43 = true)
        ∧ (fld HWK_SSTAT.KIND = 1 → fld HWK_SSTAT.WARMFAIL = 2 → ∃ t, exec (.startFail code step) s = .next t
            ∧ failed t code.toNat step.toNat ∧ t.startStage = .begun ∧ t.fld HWK_SSTAT HWK_SSTAT.KIND = 0
            ∧ t.fld HWK_SSTAT HWK_SSTAT.FORCED = 1))
    ∧ (run → fld HWK_SSTAT.PHASE ≠ 3 → s.loopDone.contains lane.val = false →
        exec (.laneLoopbackEnd lane true) s = .next { s with loopDone := insertNat s.loopDone lane.val }
        ∧ (s.fld (LNK_PSTAT lane.val) LNK_PSTAT.CARRIES = l → l < 256 →
            { s with loopFail := insertNat s.loopFail lane.val }.freeSpare l = some k → k < 32 →
            ∃ t, exec (.laneLoopbackEnd lane false) s = .next t ∧ t.laneOf l = 256 + k
              ∧ t.fld (LNK_PSTAT (256 + k)) LNK_PSTAT.CARRIES = l ∧ t.loopFail.contains lane.val = true)
        ∧ (s.fld (LNK_PSTAT lane.val) LNK_PSTAT.CARRIES = l → 256 ≤ l ∨ { s with loopFail := insertNat s.loopFail lane.val }.freeSpare l = none →
            exec (.laneLoopbackEnd lane false) s = .next { s with
              loopDone := insertNat s.loopDone lane.val, loopFail := insertNat s.loopFail lane.val }))
    ∧ (fld HWK_SSTAT.PHASE = 3 ∨ s.inReset = true ∨ s.fallow = true ∨ s.loopDone.contains lane.val = true →
        exec (.laneLoopbackEnd lane ok) s = .next s)
    ∧ (fld HWK_SSTAT.PHASE = 1 → (fld HWK_SSTAT.BASEMASK).testBit n.val = true → s.nextTrain n.val = some ch.val →
        ∃ t, exec (.fullRateTraining n ch ok) s = .next t ∧ t.fullRate.contains (n.val * 32 + ch.val) = true ∧ t.mem = s.mem
          ∧ (ok = false → t.trainBad.contains n.val = true ∧ bit (t.rd FLT_STATUS) 14 = true))
    ∧ (fld HWK_SSTAT.PHASE ≠ 1 → exec (.fullRateTraining n ch ok) s = .next s)
    ∧ (run → (fld HWK_SSTAT.PHASE = 1 → s.mayTransit = true →
          ∃ t, exec (.transition ok us) s = .next t ∧ t.fld HWK_SSTAT HWK_SSTAT.PHASE = 2)
        ∧ (fld HWK_SSTAT.PHASE = 0 → exec (.transition ok us) s = .next s)
        ∧ (fld HWK_SSTAT.PHASE = 3 → s.rateDue = true → (∀ l ∈ s.fullLinks, s.lstate l = 5 ∨ s.lstate l = 7) →
            ∃ t, exec (.transition ok us) s = .next t ∧ t.rateDue = false)
        ∧ (fld HWK_SSTAT.PHASE = 3 → s.rateDue = false → exec (.transition ok us) s = .next s)
        ∧ (fld HWK_SSTAT.PHASE = 2 → s.clkChange = [] → ∃ t, exec (.transition ok us) s = .next t
            ∧ t.fld HWK_SSTAT HWK_SSTAT.PHASE = 3 ∧ t.fld HWK_STIME HWK_STIME.FULL_AT = us.toNat
            ∧ t.fld HWK_SSTAT HWK_SSTAT.COLDFAIL = 0 ∧ t.fld HWK_SSTAT HWK_SSTAT.WARMFAIL = 0)
        ∧ (fld HWK_SSTAT.PHASE = 1 → s.mayTransit = false → exec (.transition ok us) s = .next s))

/-! The headrace chain (R419-R435) -/

/-- From R419, R420, R423 to R432 and R434 for the chain. Nothing is received while the bypass is closed or the module in reset; a bad CRC is
counted. ENUM gives the address HOP + 1, up to 250, and goes on; PING is answered by ECHO, and the 16th ECHO gives the delay; TIME goes
on with HOP and DELAY rewritten and sets a follower's rack time; the module at address 1 starts one each millisecond; a REPLY or NOTICE
from below goes on unchanged. A notice held back goes out when its interval ends. The receivers and drivers change to their spares. -/
def Obligations.ChainFramesFollowR419ToR434 : Prop :=
  ∀ (s : State) (f : HrFrame) (spent trip : BitVec 32) (code : Byte),
    let on := s.bypass = false ∧ s.inReset = false
    let frames : List Instr := [.enumRx f, .pingRx f spent, .echoRx f trip, .timeRx f, .upFrameRx f]
    let a := f.hop.toNat + 1
    let addr := s.fld HRC_ENUM HRC_ENUM.ADDR
    let flags := b2n f.last + 2 * (if f.holdover then 1 else s.fld HRC_STAT HRC_STAT.HOLDOVER)
    let own := 2 * s.fld HRC_STAT HRC_STAT.HOLDOVER
    let len := f.payload.length
    let delay := beNat ((f.payload.drop 8).take 4)
    let updelay := s.fld HRC_ENUM HRC_ENUM.UPDELAY
    let now := (s.rd HRC_TIME).toNat
    let target := beNat (f.payload.take 8) + (delay + updelay) / 16
    let onward := Output.chain false 2 f.addr.toNat (min a 255) flags f.tag.toNat
      (f.payload.take 8 ++ beBytes 4 (delay + updelay + 128) ++ f.payload.drop 12)
    let spare (t : State) : Prop := t.fld HRC_CNT HRC_CNT.SPARESW = min (s.fld HRC_CNT HRC_CNT.SPARESW + 1) HRC_CNT.SPARESW.top
      ∧ bit (t.rd FLT_STATUS) 37 = true ∧ t.mem = s.mem
    (s.bypass = true ∨ s.inReset = true → ∀ i ∈ frames, exec i s = .next s)
    ∧ (on → f.crcGood = false → ∀ i ∈ frames, exec i s = .next (s.bump HRC_CNT HRC_CNT.CRC_ERR 1))
    ∧ (on → f.crcGood = true →
        (f.typ = 1 → f.payload = [] → s.fld HRC_STAT HRC_STAT.TAIL = 0 →
          ∃ t, exec (.enumRx f) s = .next t ∧ t.fld HRC_ENUM HRC_ENUM.MOVED = 0 ∧ t.mem = s.mem
            ∧ t.fld HRC_ENUM HRC_ENUM.ADDR = (if a ≤ 250 then a else 0)
            ∧ t.fld HRC_ENUM HRC_ENUM.OVER = (if 250 < a then 1 else 0)
            ∧ (a = 1 → t.fld HRC_STAT HRC_STAT.TIMEVALID = 1)
            ∧ (a = 1 ∨ 250 < a → t.out = .chain false 1 f.addr.toNat (min a 255) flags f.tag.toNat [] :: s.out)
            ∧ (1 < a → a ≤ 250 → t.pings = 16 ∧ t.out.length = s.out.length + 17))
        ∧ (f.typ = 0x84 → len = 8 →
          exec (.pingRx f spent) s = .next { s with out := .chain false 4 0 0 own 0 (beBytes 8 spent.toNat) :: s.out })
        ∧ (f.typ = 4 → len = 8 →
          (s.pings = 0 → exec (.echoRx f trip) s = .next s)
          ∧ (1 < s.pings → exec (.echoRx f trip) s
              = .next { s with pings := s.pings - 1, pingSum := s.pingSum + (trip.toNat - beNat f.payload) })
          ∧ (s.pings = 1 → (s.pingSum + (trip.toNat - beNat f.payload)) / 32 < 2 ^ 32 →
              ∃ t, exec (.echoRx f trip) s = .next t ∧ t.pings = 0 ∧ t.fld HRC_ENUM HRC_ENUM.ENUMOK = 1
                ∧ t.fld HRC_ENUM HRC_ENUM.UPDELAY = (s.pingSum + (trip.toNat - beNat f.payload)) / 32))
        ∧ (f.typ = 2 → len = 16 →
          (addr ≤ 1 → addr = 0 ∨ a = addr → ∃ t, exec (.timeRx f) s = .next t ∧ t.out = onward :: s.out
            ∧ t.rd HRC_TIME = s.rd HRC_TIME ∧ t.fld HRC_ENUM HRC_ENUM.CAND = min a 255)
          ∧ (1 < addr → a = addr → s.fld HRC_STAT HRC_STAT.TIMEVALID = 0 ∨ (target ≤ now + 1 ∧ now ≤ target + 1) →
            ∃ t, exec (.timeRx f) s = .next t ∧ t.out = onward :: s.out ∧ t.fld HRC_STAT HRC_STAT.TIMEVALID = 1
              ∧ t.rd HRC_TIME = if target ≤ now + 1 ∧ now ≤ target + 1 then s.rd HRC_TIME else Word.ofNat target))
        ∧ (hrGood false f.typ.toNat len = false → ∀ i ∈ [Instr.enumRx f, .echoRx f trip, .timeRx f], ∃ t, exec i s = .next t
            ∧ t.out = .chain false f.typ.toNat f.addr.toNat f.hop.toNat flags f.tag.toNat f.payload :: s.out
            ∧ t.csr = (s.bump HRC_CNT HRC_CNT.DISCARDS 1).csr)
        ∧ (hrGood true f.typ.toNat len = false → exec (.pingRx f spent) s = .next (s.bump HRC_CNT HRC_CNT.DISCARDS 1)
            ∧ exec (.upFrameRx f) s = .next (s.bump HRC_CNT HRC_CNT.DISCARDS 1))
        ∧ (f.typ = 0x81 → 8 ≤ len → len ≤ 40 → exec (.upFrameRx f) s
            = .next { s with out := .chain true 0x81 f.addr.toNat f.hop.toNat flags f.tag.toNat f.payload :: s.out })
        ∧ (f.typ = 0x82 → len = 16 → exec (.upFrameRx f) s
            = .next { s with out := .chain true 0x82 f.addr.toNat f.hop.toNat flags f.tag.toNat f.payload :: s.out }))
    ∧ (s.bypass = true ∨ s.inReset = true ∨ addr ≠ 1 ∨ now % 156250 ≠ 0 → exec .timeOriginate s = .next s)
    ∧ (on → addr = 1 → now % 156250 = 0 → exec .timeOriginate s
        = .next { s with out := .chain false 2 0xFF 1 own 0 (beBytes 8 now ++ List.replicate 8 0) :: s.out })
    ∧ (s.noticeHeld.find code.toNat = none → exec (.noticeIntervalEnd code) s
        = .next { s with noticed := removeNat s.noticed code.toNat, noticeHeld := s.noticeHeld.erase code.toNat })
    ∧ (∀ p, on → code.toNat ≠ 3 → s.noticeHeld.find code.toNat = some p → s.noticed.contains code.toNat = true →
        ∃ t, exec (.noticeIntervalEnd code) s = .next t ∧ t.noticed.contains code.toNat = true ∧ t.csr = s.csr
          ∧ t.noticeHeld.find code.toNat = none ∧ t.out = .chain true 0x82 addr 0 own 0 p :: s.out)
    ∧ (s.fld HRC_STAT HRC_STAT.HOLDOVER = 0 → exec .spareReceiverSwitch s = .next s)
    ∧ (s.fld HRC_STAT HRC_STAT.HOLDOVER = 1 → s.inReset = false → s.fld HRC_STAT HRC_STAT.SPARE_RX = 0 →
        ∃ t, exec .spareReceiverSwitch s = .next t ∧ spare t ∧ t.fld HRC_STAT HRC_STAT.SPARE_RX = 1
          ∧ t.fld SPR_LEFT SPR_LEFT.HR_RX = 0)
    ∧ (s.fld HRC_STAT HRC_STAT.SPARE_RX = 0 → exec .primaryReceiverReturn s = .next s)
    ∧ (s.fld HRC_STAT HRC_STAT.SPARE_RX = 1 → s.repair.contains (repHrRx, 0) = false →
        s.fld HRC_STAT HRC_STAT.HOLDOVER = 1 ∨ s.fld HRC_STAT HRC_STAT.UPLOCK = 0 →
        ∃ t, exec .primaryReceiverReturn s = .next t ∧ OnlyCsr s t ∧ t.fld HRC_STAT HRC_STAT.SPARE_RX = 0
          ∧ t.fld SPR_LEFT SPR_LEFT.HR_RX = 1)
    ∧ (on →
        (∃ t, exec .upReceiverAlignmentLoss s = .next t ∧ t.fld HRC_STAT HRC_STAT.UPLOCK = 0
          ∧ t.fld HRC_STAT HRC_STAT.SPARE_RX = 1 ∧ t.mem = s.mem)
        ∧ (∃ t, exec .upReceiverAligned s = .next t ∧ t.fld HRC_STAT HRC_STAT.UPLOCK = 1 ∧ t.fld HRC_STAT HRC_STAT.TAIL = 0
          ∧ t.mem = s.mem)
        ∧ exec .tailDetection s = .next (s.setFs HRC_STAT [(HRC_STAT.UPLOCK, 0), (HRC_STAT.TAIL, 1)])
        ∧ (s.fld HRC_STAT HRC_STAT.SPARE_TX = 1 → exec .driverMonitorFault s = .next s)
        ∧ (s.fld HRC_STAT HRC_STAT.SPARE_TX = 0 → ∃ t, exec .driverMonitorFault s = .next t ∧ spare t
            ∧ t.fld HRC_STAT HRC_STAT.SPARE_TX = 1 ∧ t.fld SPR_LEFT SPR_LEFT.HR_TX = 0))

/-- From R427, R429, R432, R433 and R435 for management commands with a good frame. Each is passed on unchanged; one for another module does
nothing more; the 17th waiting is answered BUSY; each of the others is carried out and answered: IDENT with the module's data, CSR-READ
and CSR-WRITE with what the register gives or takes, START with a start begun, CORE-MSG with the mailbox filled or BUSY, IMAGE-DATA with
the bytes staged, SET-TIME with the origin's rack time; an undefined OPCODE is BAD-OP. In fallow only IDENT and CSR-READ are answered so. -/
def Obligations.ManagementCommandsFollowR433 : Prop :=
  ∀ (s : State) (f : HrCmd) (op : Byte) (typ : Nat),
    let down (op : Nat) := Output.chain false 3 f.addr.toNat 0 (b2n f.last + 2 * (if f.holdover then 1 else s.fld HRC_STAT HRC_STAT.HOLDOVER)) f.tag.toNat
      (BitVec.ofNat 8 op :: f.rest)
    let mine := s.cmdForMe f.addr.toNat = true
    let good (op : Nat) : Prop := cmdWellFormed op f.rest = true
    let arg := f.rest.drop 7
    let b1 := (f.rest.headD 0).toNat
    let pa := beNat arg
    let pw := beNat (arg.take 8)
    let off (p : Nat) := p - 0xF00000000000
    let commands : List (Nat × Instr) := [(1, .ident f), (2, .csrRead f), (3, .csrWrite f), (4, .start f), (5, .coreMsg f),
      (6, .imageData f), (7, .setTime f), (op.toNat, .headraceBadOp op f)]
    let answers (t : State) (status reason : Nat) (data : List Byte) : Prop := ∃ a fl, t.out.head? = some (.chain true 0x81 a 0 fl
      f.tag.toNat ([BitVec.ofNat 8 status, BitVec.ofNat 8 reason] ++ List.replicate 6 0 ++ data))
    let only (i : Instr) (status : Nat) (data : List Byte) : Prop := ∃ t, exec i s = .next t ∧ t = { s with out := t.out }
      ∧ answers t status 0 data
    s.bypass = false → s.inReset = false → f.crcGood = true → 7 ≤ f.rest.length → f.rest.length ≤ 1031 →
    (s.cmdForMe f.addr.toNat = false → ∀ e ∈ commands, exec e.2 s = .next { s with out := down e.1 :: s.out })
    ∧ (mine → f.full = true → ∀ e ∈ commands, only e.2 1 [])
    ∧ (mine → f.full = false →
        (1 ≤ op.toNat ∧ op.toNat ≤ 7 ∨ only (.headraceBadOp op f) 4 [])
        ∧ (good 1 → only (.ident f) 0 s.identData)
        ∧ (good 2 → s.fallow = false → isCsrAddr pa = true →
            (s.csrRefused mstHrc (off pa) 8 = none → s.latWindow (off pa) = false →
              only (.csrRead f) 0 (beBytes 8 (s.csrValue (off pa)).toNat))
            ∧ (s.csrRefused mstHrc (off pa) 8 ≠ none → ∃ t, exec (.csrRead f) s = .next t ∧ answers t 3 0 [] ∧ bit (t.rd FLT_STATUS) 0 = true))
        ∧ (s.fallow = true →
            ∀ e ∈ [(3, Instr.csrWrite f), (4, .start f), (5, .coreMsg f), (6, .imageData f), (7, .setTime f)], good e.1 → only e.2 2 [])
        ∧ (s.fallow = false →
            (good 3 → isCsrAddr pw = true → s.csrRefused mstHrc (off pw) 8 = none → s.latWindow (off pw) = false →
              ∃ t u, exec (.csrWrite f) s = .next t ∧ answers t 0 0 [] ∧ t = { u with out := t.out }
                ∧ ({ s with out := down 3 :: s.out }).csrWrite mstHrc (off pw) 8 (Word.ofNat (beNat (arg.drop 8))) = (u, true))
            ∧ (good 4 → b1 = 2 → ∃ t, exec (.start f) s = .next t ∧ answers t 0 0 [] ∧ t.startStage = .begun
                ∧ t.fld HWK_SSTAT HWK_SSTAT.KIND = 0)
            ∧ (good 3 → isCsrAddr pw = true → s.csrRefused mstHrc (off pw) 8 ≠ none → ∃ t, exec (.csrWrite f) s = .next t ∧ answers t 3 0 []
                ∧ t.mem = s.mem)
            ∧ (good 4 → b1 = 1 → s.warmRefused = true → ∃ t, exec (.start f) s = .next t ∧ answers t 5 1 []
                ∧ t.fld HWK_SSTAT HWK_SSTAT.RESULT = 1)
            ∧ (good 4 → b1 = 1 → s.warmRefused = false → ∃ t, exec (.start f) s = .next t ∧ answers t 0 0 [] ∧ t.startStage = .begun
                ∧ t.fld HWK_SSTAT HWK_SSTAT.KIND = 1)
            ∧ (good 4 → b1 ≠ 1 → b1 ≠ 2 → b1 ≠ 3 → only (.start f) 4 [])
            ∧ (good 5 → 80 ≤ b1 → only (.coreMsg f) 4 [])
            ∧ (good 4 → b1 = 3 → ∃ t, exec (.start f) s = .next t ∧ answers t 5 2 [] ∧ t.fld HWK_SSTAT HWK_SSTAT.RESULT = 2)
            ∧ (good 5 → b1 < 80 → s.fld (HRC_MBOX b1) HRC_MBOX.FULL = 1 → only (.coreMsg f) 1 [])
            ∧ (good 5 → b1 < 80 → s.fld (HRC_MBOX b1) HRC_MBOX.FULL = 0 → ∃ t, exec (.coreMsg f) s = .next t ∧ answers t 0 0 []
                ∧ t.fld (HRC_MBOX b1) HRC_MBOX.FULL = 1 ∧ t.fld (HRC_MBOX b1) HRC_MBOX.MSG = pa ∧ t.mem = s.mem
                ∧ (s.groupOf b1 = none → bit ((t.core b1).port 0xB0) 12 = true))
            ∧ (good 6 → s.startStage = .image typ ∨ s.startStage = .patch typ → s.imageIn.full = false → beNat ((f.rest.drop 1).take 2) = s.imageIn.req →
                beNat ((f.rest.drop 3).take 4) = s.imageIn.data.length →
                ∃ t, exec (.imageData f) s = .next t ∧ answers t 0 0 [] ∧ t = { s with out := t.out, imageIn := t.imageIn }
                  ∧ t.imageIn = { s.imageIn with data := s.imageIn.data ++ arg, full := f.last })
            ∧ (good 7 → s.hrAddr ≠ 1 → only (.setTime f) 0 [])
            ∧ (good 7 → s.hrAddr = 1 → ∃ t, exec (.setTime f) s = .next t ∧ answers t 0 0 [] ∧ t.rd HRC_TIME = Word.ofNat pa)))

/-! Rotations, faults and spares (R436-R457) -/

/-- From R436, R437, R442 to R447 and R450 to R452. A rotation mark, only while rack time is valid, numbers the rotation, keeps the time
and the counters it restarts. An event sets its source's bit, counts, raises the class, and is captured first or merged; a clear takes away what
is not fatal; a window's end returns its count to 0. A worn core of a SPLIT role has the host asked; CONSENT retires it for its cluster's
spare, DEFER leaves it for a day; the other RESULTs of SPR_CMD are those of the table. -/
def Obligations.RotationsFaultsAndSparesFollowR436ToR452 : Prop :=
  ∀ (s : State) (v addr w : Word) (code : BitVec 8) (m : BitVec 10) (acc : BitVec 4) (n : Fin 45) (c : Fin 80) (ppm : BitVec 17)
      (reason : Nat) (sp : Nat),
    let src := code.toNat / 4
    let cls := fltClass code.toNat
    let named := s.fld SPR_CMD SPR_CMD.CORE
    let period := v.toNat % 2 ^ 22
    let ahead := (v.toNat / 2 ^ 24 * 156250 + 2 ^ 40 * 156250 - (s.rd HRC_TIME).toNat % (2 ^ 40 * 156250)) % (2 ^ 40 * 156250)
    let ended (t : State) (res : Nat) : Prop := t.fld SPR_STAT SPR_STAT.BUSY = 0 ∧ t.fld SPR_STAT SPR_STAT.DONE = 1
      ∧ t.fld SPR_STAT SPR_STAT.RESULT = res
    let asked (t : State) (reason : Nat) : Prop := t.fld SPR_REQ SPR_REQ.VALID = 1 ∧ t.fld SPR_REQ SPR_REQ.CORE = c.val
      ∧ t.fld SPR_REQ SPR_REQ.REASON = reason % 8 ∧ bit (t.rd FLT_STATUS) 39 = true ∧ t.mem = s.mem
    (s.fld HRC_STAT HRC_STAT.TIMEVALID = 0 ∨ s.inReset = true → exec .rotationMark s = .next s)
    ∧ (s.fld HRC_STAT HRC_STAT.TIMEVALID = 1 → s.inReset = false →
        ∃ t, exec .rotationMark s = .next t ∧ t.rd STA_MARK = s.rd HRC_TIME ∧ t.startBegan = false ∧ t.rowErrs = [] ∧ t.cisErrs = []
          ∧ t.fld STA_STAT STA_STAT.SEQ = (s.fld STA_STAT STA_STAT.SEQ + 1) % 2 ^ 32
          ∧ t.fld STA_STAT STA_STAT.PARTIAL = b2n s.startBegan
          ∧ (s.csr = [(HRC_STAT, w), (LGR_CNT0, v)] → t.rd LGR_CNT0 = 0 ∧ t.rd (STA_LATCH 0x12 0 0) = v))
    ∧ (1 ≤ period → period ≤ 3600000 → 156250 ≤ ahead → ahead ≤ 2 ^ 39 * 156250 →
        ∃ t, exec (.staRotWrite v) s = .next t ∧ t.fld STA_ROT STA_ROT.PERIOD_MS = period ∧ t.fld STA_ROT STA_ROT.AT_MS = v.toNat / 2 ^ 24
          ∧ t.fld STA_STAT STA_STAT.LATE = s.fld STA_STAT STA_STAT.LATE)
    ∧ (period = 0 ∨ 3600000 < period ∨ ahead < 156250 ∨ 2 ^ 39 * 156250 < ahead →
        exec (.staRotWrite v) s = .next (s.setF STA_STAT STA_STAT.LATE 1))
    ∧ (faultCodeOk code.toNat = true → ∃ t, exec (.faultEvent code m acc addr) s = .next t ∧ bit (t.rd FLT_STATUS) src = true
        ∧ t.mem = s.mem ∧ t.rd (FLT_SRCADDR src) = addr ∧ t.fld (FLT_SRC src) FLT_SRC.LASTMASTER = m.toNat
        ∧ t.fld (FLT_SRC src) FLT_SRC.COUNT = min (s.fld (FLT_SRC src) FLT_SRC.COUNT + 1) FLT_SRC.COUNT.top
        ∧ cls ≤ t.fld (FLT_SRC src) FLT_SRC.CLASS
        ∧ (2 ≤ cls → s.fld FLT_CAP FLT_CAP.VALID = 0 → t.fld FLT_CAP FLT_CAP.VALID = 1 ∧ t.fld FLT_CAP FLT_CAP.CODE = code.toNat
            ∧ t.fld FLT_CAP FLT_CAP.CLASS = cls ∧ t.fld FLT_CAP FLT_CAP.MASTER = m.toNat ∧ t.fld FLT_CAP FLT_CAP.ACCESS = acc.toNat
            ∧ t.rd FLT_CAPADDR = addr ∧ t.rd FLT_CAPTIME = s.rd HRC_TIME)
        ∧ (2 ≤ cls → s.fld FLT_CAP FLT_CAP.VALID = 1 → t.fld FLT_CAP FLT_CAP.MERGED = 1
            ∧ t.fld FLT_CAP FLT_CAP.CODE = s.fld FLT_CAP FLT_CAP.CODE
            ∧ t.fld FLT_CAP FLT_CAP.MERGECNT = min (s.fld FLT_CAP FLT_CAP.MERGECNT + 1) FLT_CAP.MERGECNT.top)
        ∧ (cls = 4 → t.fallow = true))
    ∧ (∃ t, exec (.faultWindowExpiry n m) s = .next t ∧ t = { s with fltWin := t.fltWin } ∧ t.fltWin.get 0 (fltKey n.val m.toNat) = 0)
    ∧ (∃ t, exec (.fltStatusClear v) s = .next t ∧ t.mem = s.mem ∧ t.cores = s.cores
        ∧ bit (t.rd FLT_STATUS) n.val = (bit (s.rd FLT_STATUS) n.val
            && !(bit v n.val && decide (s.fld (FLT_SRC n.val) FLT_SRC.CLASS ≠ 4)))
        ∧ (bit v n.val = true → s.fld (FLT_SRC n.val) FLT_SRC.CLASS ≠ 4 →
            t.fld (FLT_SRC n.val) FLT_SRC.CLASS = 0 ∧ t.fld (FLT_SRC n.val) FLT_SRC.COUNT = 0))
    ∧ (bit v 0 = false → exec (.fltCapClear v) s = .next s)
    ∧ (bit v 0 = true → ∃ t, exec (.fltCapClear v) s = .next t ∧ OnlyCsr s t ∧ t.fld FLT_CAP FLT_CAP.VALID = 0
        ∧ t.fld FLT_CAP FLT_CAP.MERGED = 0 ∧ t.fld FLT_CAP FLT_CAP.MERGECNT = 0)
    ∧ (∀ r, ∃ t, exec (.wearEvaluation r) s = .next t ∧ t.mem = s.mem)
    ∧ (s.fld SPR_STAT SPR_STAT.BUSY = 1 → exec .sprConsent s = .next s ∧ exec .sprDefer s = .next s ∧ exec .sprBadOp s = .next s)
    ∧ (s.rowsUsed = [] → s.sprNeeds = [] →
        exec (.wearEvaluation ⟨[], [], [], [], []⟩) s = .next s
        ∧ ((s.fld SPR_CFG SPR_CFG.RO_LIMIT_PPM ≤ ppm.toNat → s.role c.val = 0 → s.clusterSpare c.val = some sp →
              s.sprDeferred = [] → s.fld SPR_REQ SPR_REQ.VALID = 0 →
            ∃ t, exec (.wearEvaluation ⟨[(c, ppm)], [], [], [], []⟩) s = .next t ∧ asked t 1
              ∧ t.fld (SPR_CWEAR c.val) SPR_CWEAR.SLOW_PPM = ppm.toNat)
          ∧ (2 * ppm.toNat < s.fld SPR_CFG SPR_CFG.RO_LIMIT_PPM →
            ∃ t, exec (.wearEvaluation ⟨[(c, ppm)], [], [], [], []⟩) s = .next t ∧ OnlyCsr s t
              ∧ t.fld (SPR_CWEAR c.val) SPR_CWEAR.SLOW_PPM = ppm.toNat ∧ t.fld (SPR_CWEAR c.val) SPR_CWEAR.WARN = 0)))
    ∧ (s.fld SPR_STAT SPR_STAT.BUSY = 0 →
        (∃ t, exec .sprBadOp s = .next t ∧ OnlyCsr s t ∧ ended t 3)
        ∧ (named < 80 → s.role named = 0 → ∃ t, exec .sprConsent s = .next t ∧ OnlyCsr s t ∧ ended t 1)
        ∧ (s.sprNamed = false → (∃ t, exec .sprDefer s = .next t ∧ OnlyCsr s t ∧ ended t 2)
            ∧ (s.role named ≠ 0 → ∃ t, exec .sprConsent s = .next t ∧ OnlyCsr s t ∧ ended t 2))
        ∧ (s.sprNamed = true → named = c.val → s.sprNeeds = [] →
            (s.role named = 1 → s.clusterSpare named = some sp → ∃ t, exec .sprConsent s = .next t ∧ ended t 0 ∧ t.role named = 4
              ∧ t.role sp = 1 ∧ t.fld SPR_REQ SPR_REQ.VALID = 0 ∧ t.mem = s.mem)
            ∧ (s.role named = 0 → ∃ t, exec .sprDefer s = .next t ∧ ended t 0 ∧ t.sprDeferred.contains named = true
              ∧ t.fld SPR_REQ SPR_REQ.VALID = 0 ∧ t.role named = 0 ∧ t.mem = s.mem)))
    ∧ (s.sprDeferred.contains c.val = false → ∀ p, exec (.deferExpiry c p) s = .next s)
    ∧ (s.sprDeferred.contains c.val = true → s.sprNeeds = [(c.val, reason)] →
        exec (.deferExpiry c false) s = .next { s with sprDeferred := removeNat s.sprDeferred c.val, sprNeeds := [] }
        ∧ (s.role c.val = 0 → s.clusterSpare c.val = some sp → s.fld SPR_REQ SPR_REQ.VALID = 0 →
            ∃ t, exec (.deferExpiry c true) s = .next t ∧ asked t reason ∧ t.sprNeeds = []))

/-! Pins, heat, the life cycle and the TAP (R467-R472, R480) -/

/-- From R467 to R472 and R480. TAMPER_N wipes the strongroom and is reported, once; heat throttles from 105 °C or 45 °C of coolant until it
has gone, and a trip is fatal. The life cycle goes one step forward, or to SCRAPPED, and wipes the keys; each fuse is set once, in the state
that allows it. An instruction of scan hold takes effect under PRST_N in the states that accept it, and else acts as BYPASS; IDCODE and SAMPLE
shift out what they give; leaving scan hold begins a cold start. -/
def Obligations.PinsLifeCycleAndTapFollowR467ToR472 : Prop :=
  ∀ (s : State) (tj tin tout : BitVec 8) (pins pre : BitVec 587),
    let lcs := s.fld LCS_STAT LCS_STAT.STATE
    let target := s.fld LCS_CMD LCS_CMD.TARGET
    let area := s.fld LCS_FARG LCS_FARG.ADDR * 64
    let typ := s.fld LCS_FCMD LCS_FCMD.TYPE
    let svn := s.fld LCS_FCMD LCS_FCMD.SVN
    let key := s.fld LCS_FCMD LCS_FCMD.KEYIDX
    let revoked := s.fld LCS_FSTAT LCS_FSTAT.REVOKED
    let vault := s.clkChange.find 8 = none ∧ s.fld (CLK_ISTAT 8) CLK_ISTAT.STATE = 0
    let fused (i : Instr) (res : Nat) : Prop := ∃ t, exec i s = .next t ∧ OnlyCsr s t ∧ t.fld LCS_FSTAT LCS_FSTAT.BUSY = 0
      ∧ t.fld LCS_FSTAT LCS_FSTAT.DONE = 1 ∧ t.fld LCS_FSTAT LCS_FSTAT.RESULT = res
    let done (t : State) : Prop := t.fld LCS_FSTAT LCS_FSTAT.DONE = 1 ∧ t.fld LCS_FSTAT LCS_FSTAT.RESULT = 0
    let cycle (t : State) (st res : Nat) : Prop := t.fld LCS_STAT LCS_STAT.STATE = st ∧ t.fld LCS_STAT LCS_STAT.DONE = 1
      ∧ t.fld LCS_STAT LCS_STAT.RESULT = res
    let scans : List (Nat × Instr) := [(0, .extest), (3, .extestPulse), (4, .extestTrain), (5, .clamp), (6, .highz)]
    let hot := 105 ≤ tj.toNat ∨ 45 < tin.toNat
    (s.prst = true ∨ s.pwrLow = true ∨ s.vinLow = true ∨ s.tamper = true → exec .tamperAssert s = .next s)
    ∧ (s.prst = false → s.pwrLow = false → s.vinLow = false → s.tamper = false → vault → ∃ t, exec .tamperAssert s = .next t ∧ t.tamper = true
        ∧ t.fld LCS_STAT LCS_STAT.TAMPER = 1 ∧ bit (t.rd FLT_STATUS) 40 = true ∧ t.slots = []
        ∧ t.fld CIS_SRSTAT CIS_SRSTAT.WIPING = 1 ∧ t.fld CIS_SRSTAT CIS_SRSTAT.CAUSE = 1)
    ∧ (s.prst = false → s.pwrLow = false → s.vinLow = false → s.tamper = false → ∃ t, exec .tamperAssert s = .next t ∧ t.tamper = true
        ∧ t.fld LCS_STAT LCS_STAT.TAMPER = 1 ∧ bit (t.rd FLT_STATUS) 40 = true)
    ∧ (exec .tamperRelease s = .next ({ s with tamper := false }.setF LCS_STAT LCS_STAT.TAMPER 0))
    ∧ (∃ t, exec (.thermalSense tj tin tout) s = .next t ∧ t.mem = s.mem ∧ t.fld LEV_TSTAT LEV_TSTAT.TJ_MAX = tj.toNat
        ∧ t.fld LEV_TSTAT LEV_TSTAT.T_IN = tin.toNat ∧ t.fld LEV_TSTAT LEV_TSTAT.T_OUT = tout.toNat
        ∧ (hot → t.fld LEV_TSTAT LEV_TSTAT.HIGH = 1 ∧ 4 ≤ t.fld LEV_PSTAT LEV_PSTAT.THROTTLE
            ∧ (s.fld LEV_TSTAT LEV_TSTAT.HIGH = 0 → bit (t.rd FLT_STATUS) 41 = true))
        ∧ (tj.toNat ≤ 100 → tin.toNat ≤ 43 → t.fld LEV_TSTAT LEV_TSTAT.HIGH = 0 ∧ t.heatFloor = 0)
        ∧ (¬ hot → ¬ (tj.toNat ≤ 100 ∧ tin.toNat ≤ 43) → t.fld LEV_TSTAT LEV_TSTAT.HIGH = s.fld LEV_TSTAT LEV_TSTAT.HIGH
            ∧ t.heatFloor = s.heatFloor))
    ∧ (∃ t, exec .thermTrip s = .next t ∧ t.fallow = true ∧ bit (t.rd FLT_STATUS) 41 = true ∧ t.mem = s.mem)
    ∧ (s.fld LCS_STAT LCS_STAT.BUSY = 1 → exec .lcsStateChange s = .next s)
    ∧ (s.fld LCS_STAT LCS_STAT.BUSY = 0 →
        (target = 4 ∨ (target = lcs + 1 ∧ target < 4) → ∃ t, exec .lcsStateChange s = .next t ∧ cycle t target 0)
        ∧ (5 ≤ target → ∃ t, exec .lcsStateChange s = .next t ∧ OnlyCsr s t ∧ cycle t lcs 2)
        ∧ (target < 4 → target ≠ lcs + 1 → ∃ t, exec .lcsStateChange s = .next t ∧ OnlyCsr s t ∧ cycle t lcs 1)
        ∧ (target = 4 ∨ (target = lcs + 1 ∧ target < 4) → vault →
            ∃ t, exec .lcsStateChange s = .next t ∧ cycle t target 0 ∧ t.slots = [] ∧ t.fld CIS_SRSTAT CIS_SRSTAT.CAUSE = 2))
    ∧ (s.fld LCS_FSTAT LCS_FSTAT.BUSY = 1 → ∀ i ∈ [Instr.oemHash, .kik, .svn, .revoke, .lcsFcmdBadOp], exec i s = .next s)
    ∧ (s.fld LCS_FSTAT LCS_FSTAT.BUSY = 0 →
        fused .lcsFcmdBadOp (if lcs = 4 then 1 else 7)
        ∧ (lcs ≠ 1 → fused .oemHash 1 ∧ fused .kik 1)
        ∧ (lcs = 1 → (s.oemHash ≠ none → fused .oemHash 2) ∧ (s.kik ≠ none → fused .kik 2)
            ∧ (s.oemHash = none → s.fuseAreaGood 48 = false → fused .oemHash 3)
            ∧ (s.oemHash = none → s.fuseAreaGood 48 = true → ∃ t, exec .oemHash s = .next t ∧ done t ∧ t.mem = s.mem
                ∧ t.oemHash = some (beNat (s.bytes area 48)) ∧ t.fld LCS_FSTAT LCS_FSTAT.OEMHASH = 1)
            ∧ (s.kik = none → s.fuseAreaGood 64 = false → fused .kik 3)
            ∧ (s.kik = none → s.fuseAreaGood 64 = true → ∃ t, exec .kik s = .next t ∧ done t
                ∧ t.kik = some ((s.bytes area 32).map BitVec.toNat) ∧ t.fld LCS_FSTAT LCS_FSTAT.KIK = 1
                ∧ StoredBytes s.mem t.mem area 64 (fun _ => 0)))
        ∧ (4 ≤ lcs → fused .svn 1 ∧ fused .revoke 1)
        ∧ (lcs < 4 → (typ = 0 ∨ 4 < typ → fused .svn 3)
            ∧ (1 ≤ typ → typ ≤ 4 → (svn ≤ s.svnFloor typ → fused .svn 4)
              ∧ (s.svnFloor typ < svn → 32 ≤ s.svnRaises.get 0 typ → fused .svn 6)
              ∧ (s.svnFloor typ < svn → s.svnRaises.get 0 typ < 32 → ∃ t, exec .svn s = .next t ∧ done t ∧ t.svnFloor typ = svn
                  ∧ t.svnRaises.get 0 typ = s.svnRaises.get 0 typ + 1 ∧ t.mem = s.mem))
            ∧ (lcs = 0 → fused .revoke 1)
            ∧ (0 < lcs → (revoked.testBit key = true → fused .revoke 2)
              ∧ (revoked.testBit key = false → revoked ||| 2 ^ key = 15 → fused .revoke 5)
              ∧ (revoked.testBit key = false → revoked ||| 2 ^ key ≠ 15 → fused .revoke 0
                  ∧ ∃ t, exec .revoke s = .next t ∧ t.fld LCS_FSTAT LCS_FSTAT.REVOKED = revoked ||| 2 ^ key))))
    ∧ (s.vinLow = true → (∀ e ∈ scans, exec e.2 s = .next s) ∧ exec .idcode s = .next s ∧ exec .bypass s = .next s
        ∧ exec .tapReset s = .next s ∧ exec (.samplePreload pins pre) s = .next s)
    ∧ (s.vinLow = false →
        (∀ e ∈ scans, (lcs ≠ 2 → lcs ≠ 4 → s.prst = true → exec e.2 s = .next { s with scanHold := true, tapIr := e.1 })
          ∧ (s.scanHold = false → lcs = 2 ∨ lcs = 4 ∨ s.prst = false → exec e.2 s = .next { s with tapIr := 0xFF }))
        ∧ (s.scanHold = false →
            exec .idcode s = .next { s with tapIr := 1, out := .tdo 0xB7280A5F :: s.out }
            ∧ exec .bypass s = .next { s with tapIr := 0xFF } ∧ exec .tapReset s = .next { s with tapIr := 1 }
            ∧ (lcs ≠ 4 → exec (.samplePreload pins pre) s
                = .next { s with tapIr := 2, boundary := pre.toNat, out := .tdo pins.toNat :: s.out })
            ∧ (lcs = 4 → exec (.samplePreload pins pre) s = .next { s with tapIr := 0xFF }))
        ∧ (s.scanHold = true → s.prst = false → s.pwrLow = false → ∃ t, exec .tapReset s = .next t ∧ t.scanHold = false
            ∧ t.startStage = .begun ∧ t.fld HWK_SSTAT HWK_SSTAT.KIND = 0))

/-! Writes of CSRs (R2-R8, R18-R20, R481) -/

/-- From R2, R4 to R8, R18, R19, R391 and R481 for a write of the CSR range: nothing in reset or fallow; another size, a misaligned or an
unassigned address is a recoverable CSR-ACCESS, a block whose island does not run or behind a broken culvert ISLAND-DOWN, and a read there
is 0; a RW field takes the value, a RO field keeps its own, a 1 clears a W1C field, an S-class field waits for its COMMIT, an F-class
field of a running block is kept and FENCED_WRITE set. -/
def Obligations.CsrWritesFollowR2ToR8 : Prop :=
  ∀ (s : State) (m : BusMaster) (a : BitVec 32) (width : BitVec 5) (v : Word) (i : Fin 18),
    let off := a.toNat
    let fault (code : Nat) := s.fault code (busCode m) accCsr (Word.ofNat (0xF00000000000 + off))
    let refused (code : Nat) : Prop := exec (.csrRegisterWrite m a width v) s = .next (fault code) ∧ fltClass code = 2
      ∧ s.csrRead (busCode m) off width.toNat = (fault code, 0, false)
    let at_ (reg : Nat) : Prop := off = reg ∧ width = 8 ∧ s.blockRuns off = true ∧ s.blockCut (busCode m) off = false
    (s.inReset = true ∨ s.fallow = true → exec (.csrRegisterWrite m a width v) s = .next s)
    ∧ (s.inReset = false → s.fallow = false →
        (width ≠ 8 ∨ off % 8 ≠ 0 → refused 0x00)
        ∧ (width = 8 → off % 8 = 0 → findReg off = none → s.latWindow off = false → refused 0x00)
        ∧ (width = 8 → off % 8 = 0 → findReg off ≠ none → s.blockRuns off = false ∨ s.blockCut (busCode m) off = true → refused 0x01)
        ∧ (at_ FLT_CFG → ∃ t, exec (.csrRegisterWrite m a width v) s = .next t ∧ OnlyCsr s t
            ∧ t.rd FLT_CFG = (s.rd FLT_CFG &&& ~~~ 0x7FF) ||| (v &&& 0x7FF))
        ∧ (at_ SES_CNT → exec (.csrRegisterWrite m a width v) s = .next s)
        ∧ (at_ (CLK_ISTAT i.val) → ∃ t, exec (.csrRegisterWrite m a width v) s = .next t ∧ OnlyCsr s t
            ∧ t.rd (CLK_ISTAT i.val) = s.rd (CLK_ISTAT i.val) &&& ~~~ (v &&& 0x600))
        ∧ (at_ CIP_CFG → CIP_CFG.HARDEN.get v ≠ s.fld CIP_CFG CIP_CFG.HARDEN →
            ∃ t w, exec (.csrRegisterWrite m a width v) s = .next t ∧ t.fld CIP_CFG CIP_CFG.HARDEN = s.fld CIP_CFG CIP_CFG.HARDEN
              ∧ t.staged.find CIP_CFG = some w ∧ CIP_CFG.HARDEN.get w = CIP_CFG.HARDEN.get v ∧ t.fld CIP_STAT CIP_STAT.STAGED = 1)
        ∧ (at_ CMP_STAGE → s.fld CMP_STAT CMP_STAT.STOPPED = 0 → CMP_STAGE.SIZE.get v = 0 → s.fld CMP_STAGE CMP_STAGE.SIZE ≠ 0 →
            ∃ t, exec (.csrRegisterWrite m a width v) s = .next t ∧ OnlyCsr s t ∧ t.rd CMP_STAGE = s.rd CMP_STAGE
              ∧ t.fld CMP_STAT CMP_STAT.FENCED_WRITE = 1))

/-! The whole module -/

/-- What reset leaves: a cold start just begun (R399, R401) with nothing sent and no command waiting, no session, no live record and no
cached translation, every CSR at its reset value and memory in its canonical form with nothing listed. That memory reads 0 there, and
which stage the start stands at, are the model's choices (log entries 2 and 3), as are the reset values R399 does not give (log entry 4). -/
def Obligations.ResetIsAColdStartBegun : Prop :=
  State.reset.Inv ∧ State.reset.pending = [] ∧ State.reset.out = [] ∧ State.reset.startStage = .begun ∧ State.reset.starting = true
    ∧ State.reset.sessions = [] ∧ State.reset.live = [] ∧ State.reset.iotlb = [] ∧ State.reset.slots = [] ∧ State.reset.lanesIdle = true
    ∧ (∀ a, State.reset.rd a = csrReset a) ∧ (∀ a, memGet State.reset.mem a = 0)
    ∧ State.reset.fld HWK_SSTAT HWK_SSTAT.PHASE = 0 ∧ State.reset.fld SLU_STAT SLU_STAT.HOLDER = 2
    ∧ ∀ c p, c < 84 → (State.reset.core c).port p = if p = 0x8C then 0x10000 else 0

/-- Memory keeps its one canonical form (log entry 2), whatever a step does and in whatever state that has it. -/
def Obligations.EveryStepKeepsMemoryCanonical : Prop :=
  ∀ (s t : State), s.Inv → step s = .next t → t.Inv

/-- Every command with operands it can have is carried out, in every state: it answers a next state, and leaves the queue as it was. The
others are refused as ill-formed or carried out; none stops the module with a fault. -/
def Obligations.EveryCommandCompletesAndLeavesTheQueue : Prop :=
  ∀ (s : State) (i : Instr),
    (i.wf = true → ∃ t, exec i s = .next t ∧ t.pending = s.pending)
    ∧ (exec i s = .refused .illFormed ∨ ∃ t, exec i s = .next t ∧ t.pending = s.pending)
end

