-- ==== Sys2Proof/Laws/Bits.lean ====
section
/-!
SUPPORT. Fields of words, numbers by bytes.
-/

namespace Sys2Proof

theorem Fld.mask_getLsbD (f : Fld) (i : Nat) : f.mask.getLsbD i = (decide (i < 64) && (decide (f.lo ≤ i) && decide (i < f.lo + f.w))) := by
  unfold Fld.mask Word.ofNat
  rw [BitVec.getLsbD_ofNat]
  by_cases h1 : f.lo ≤ i
  · rw [Nat.testBit_shiftLeft, Nat.testBit_two_pow_sub_one]
    have h2 : decide (i - f.lo < f.w) = decide (i < f.lo + f.w) := by
      rw [decide_eq_decide]; omega
    simp [h1, h2]
  · rw [Nat.testBit_shiftLeft]
    simp [h1]

/-- A bit of a word with a field set. -/
theorem Fld.set_getLsbD (f : Fld) (x : Word) (v i : Nat) :
    (f.set x v).getLsbD i = (decide (i < 64) && if f.lo ≤ i ∧ i < f.lo + f.w then v.testBit (i - f.lo) else x.getLsbD i) := by
  unfold Fld.set Word.ofNat
  rw [BitVec.getLsbD_or, BitVec.getLsbD_and, BitVec.getLsbD_not, Fld.mask_getLsbD, BitVec.getLsbD_ofNat,
    Nat.testBit_shiftLeft, Nat.testBit_mod_two_pow]
  by_cases h : i < 64
  · by_cases h1 : f.lo ≤ i
    · by_cases h2 : i < f.lo + f.w
      · have h3 : i - f.lo < f.w := by omega
        simp [h, h1, h2, h3]
      · have h3 : ¬ (i - f.lo < f.w) := by omega
        simp [h, h1, h2, h3]
    · simp [h, h1]
  · have h4 : x.getLsbD i = false := BitVec.getLsbD_of_ge _ _ (by omega)
    simp [h]

/-- A bit of what a field holds. -/
theorem Fld.get_testBit (f : Fld) (x : Word) (i : Nat) :
    (f.get x).testBit i = (decide (i < f.w) && x.getLsbD (f.lo + i)) := by
  unfold Fld.get
  rw [Nat.testBit_mod_two_pow, Nat.testBit_shiftRight]
  rfl

/-- A field reads what was set, as far as it is wide. -/
theorem Fld.get_set (f : Fld) (x : Word) (v : Nat) (h : f.lo + f.w ≤ 64) : f.get (f.set x v) = v % 2 ^ f.w := by
  apply Nat.eq_of_testBit_eq
  intro i
  rw [Fld.get_testBit, Fld.set_getLsbD, Nat.testBit_mod_two_pow]
  by_cases h1 : i < f.w
  · have h2 : f.lo + i < 64 := by omega
    simp [h1, h2]
  · simp [h1]

/-- A field apart from the one set reads as before. -/
theorem Fld.get_set_apart (f g : Fld) (x : Word) (v : Nat) (h : f.lo + f.w ≤ g.lo ∨ g.lo + g.w ≤ f.lo) :
    f.get (g.set x v) = f.get x := by
  apply Nat.eq_of_testBit_eq
  intro i
  rw [Fld.get_testBit, Fld.get_testBit, Fld.set_getLsbD]
  by_cases h1 : i < f.w
  · by_cases h2 : f.lo + i < 64
    · have h3 : ¬ (g.lo ≤ f.lo + i ∧ f.lo + i < g.lo + g.w) := by omega
      simp [h1, h2, h3]
    · have h4 : x.getLsbD (f.lo + i) = false := BitVec.getLsbD_of_ge _ _ (by omega)
      simp [h2, h4]
  · simp [h1]

theorem Fld.get_lt (f : Fld) (x : Word) : f.get x < 2 ^ f.w := Nat.mod_lt _ (Nat.two_pow_pos _)

theorem leBytes_length (n x : Nat) : (leBytes n x).length = n := by
  induction n generalizing x with
  | zero => rfl
  | succ n ih => simp [leBytes, ih]

/-- Bytes and the number they spell. -/
theorem leNat_leBytes (n x : Nat) : leNat (leBytes n x) = x % 2 ^ (8 * n) := by
  induction n generalizing x with
  | zero => simp [leBytes, leNat, Nat.mod_one]
  | succ n ih =>
    have h : 2 ^ (8 * (n + 1)) = 256 * 2 ^ (8 * n) := by
      rw [Nat.mul_add, Nat.pow_add]; omega
    simp only [leBytes, leNat, ih, BitVec.toNat_ofNat, h]
    rw [Nat.mod_mul]

@[simp] theorem b2n_true : b2n true = 1 := rfl
@[simp] theorem b2n_false : b2n false = 0 := rfl
@[simp] theorem b2w_true : b2w true = 1 := rfl
@[simp] theorem b2w_false : b2w false = 0 := rfl

end Sys2Proof
end

