-- ==== Sys2Proof/Laws/State.lean ====
section
/-!
SUPPORT. The record of the state: what each basic update leaves alone and what it writes, one lemma for each field.
-/

namespace Sys2Proof.Machine
open Sys2Proof

/-! wr -/

@[simp] theorem State.wr_pending (s : State) (a : Nat) (v : Word) : (s.wr a v).pending = s.pending := rfl
@[simp] theorem State.wr_csr (s : State) (a : Nat) (v : Word) : (s.wr a v).csr = s.csr.put a v := rfl
@[simp] theorem State.wr_staged (s : State) (a : Nat) (v : Word) : (s.wr a v).staged = s.staged := rfl
@[simp] theorem State.wr_force (s : State) (a : Nat) (v : Word) : (s.wr a v).force = s.force := rfl
@[simp] theorem State.wr_mem (s : State) (a : Nat) (v : Word) : (s.wr a v).mem = s.mem := rfl
@[simp] theorem State.wr_dram (s : State) (a : Nat) (v : Word) : (s.wr a v).dram = s.dram := rfl
@[simp] theorem State.wr_resOld (s : State) (a : Nat) (v : Word) : (s.wr a v).resOld = s.resOld := rfl
@[simp] theorem State.wr_resPoison (s : State) (a : Nat) (v : Word) : (s.wr a v).resPoison = s.resPoison := rfl
@[simp] theorem State.wr_poison (s : State) (a : Nat) (v : Word) : (s.wr a v).poison = s.poison := rfl
@[simp] theorem State.wr_dramPoison (s : State) (a : Nat) (v : Word) : (s.wr a v).dramPoison = s.dramPoison := rfl
@[simp] theorem State.wr_cores (s : State) (a : Nat) (v : Word) : (s.wr a v).cores = s.cores := rfl
@[simp] theorem State.wr_groups (s : State) (a : Nat) (v : Word) : (s.wr a v).groups = s.groups := rfl
@[simp] theorem State.wr_chkRetired (s : State) (a : Nat) (v : Word) : (s.wr a v).chkRetired = s.chkRetired := rfl
@[simp] theorem State.wr_res (s : State) (a : Nat) (v : Word) : (s.wr a v).res = s.res := rfl
@[simp] theorem State.wr_resPlru (s : State) (a : Nat) (v : Word) : (s.wr a v).resPlru = s.resPlru := rfl
@[simp] theorem State.wr_resScrub (s : State) (a : Nat) (v : Word) : (s.wr a v).resScrub = s.resScrub := rfl
@[simp] theorem State.wr_inReset (s : State) (a : Nat) (v : Word) : (s.wr a v).inReset = s.inReset := rfl
@[simp] theorem State.wr_fallow (s : State) (a : Nat) (v : Word) : (s.wr a v).fallow = s.fallow := rfl
@[simp] theorem State.wr_lanesIdle (s : State) (a : Nat) (v : Word) : (s.wr a v).lanesIdle = s.lanesIdle := rfl
@[simp] theorem State.wr_fltWin (s : State) (a : Nat) (v : Word) : (s.wr a v).fltWin = s.fltWin := rfl
@[simp] theorem State.wr_noticed (s : State) (a : Nat) (v : Word) : (s.wr a v).noticed = s.noticed := rfl
@[simp] theorem State.wr_noticeHeld (s : State) (a : Nat) (v : Word) : (s.wr a v).noticeHeld = s.noticeHeld := rfl
@[simp] theorem State.wr_sprNeeds (s : State) (a : Nat) (v : Word) : (s.wr a v).sprNeeds = s.sprNeeds := rfl
@[simp] theorem State.wr_sprDeferred (s : State) (a : Nat) (v : Word) : (s.wr a v).sprDeferred = s.sprDeferred := rfl
@[simp] theorem State.wr_repair (s : State) (a : Nat) (v : Word) : (s.wr a v).repair = s.repair := rfl
@[simp] theorem State.wr_rowErrs (s : State) (a : Nat) (v : Word) : (s.wr a v).rowErrs = s.rowErrs := rfl
@[simp] theorem State.wr_rowsUsed (s : State) (a : Nat) (v : Word) : (s.wr a v).rowsUsed = s.rowsUsed := rfl
@[simp] theorem State.wr_scrubPos (s : State) (a : Nat) (v : Word) : (s.wr a v).scrubPos = s.scrubPos := rfl
@[simp] theorem State.wr_subst (s : State) (a : Nat) (v : Word) : (s.wr a v).subst = s.subst := rfl
@[simp] theorem State.wr_cisErrs (s : State) (a : Nat) (v : Word) : (s.wr a v).cisErrs = s.cisErrs := rfl
@[simp] theorem State.wr_cisEnd (s : State) (a : Nat) (v : Word) : (s.wr a v).cisEnd = s.cisEnd := rfl
@[simp] theorem State.wr_cisGrant (s : State) (a : Nat) (v : Word) : (s.wr a v).cisGrant = s.cisGrant := rfl
@[simp] theorem State.wr_wipeAt (s : State) (a : Nat) (v : Word) : (s.wr a v).wipeAt = s.wipeAt := rfl
@[simp] theorem State.wr_slots (s : State) (a : Nat) (v : Word) : (s.wr a v).slots = s.slots := rfl
@[simp] theorem State.wr_kik (s : State) (a : Nat) (v : Word) : (s.wr a v).kik = s.kik := rfl
@[simp] theorem State.wr_basins (s : State) (a : Nat) (v : Word) : (s.wr a v).basins = s.basins := rfl
@[simp] theorem State.wr_basinQueue (s : State) (a : Nat) (v : Word) : (s.wr a v).basinQueue = s.basinQueue := rfl
@[simp] theorem State.wr_flumeBuf (s : State) (a : Nat) (v : Word) : (s.wr a v).flumeBuf = s.flumeBuf := rfl
@[simp] theorem State.wr_links (s : State) (a : Nat) (v : Word) : (s.wr a v).links = s.links := rfl
@[simp] theorem State.wr_coeffs (s : State) (a : Nat) (v : Word) : (s.wr a v).coeffs = s.coeffs := rfl
@[simp] theorem State.wr_inbox (s : State) (a : Nat) (v : Word) : (s.wr a v).inbox = s.inbox := rfl
@[simp] theorem State.wr_live (s : State) (a : Nat) (v : Word) : (s.wr a v).live = s.live := rfl
@[simp] theorem State.wr_sessions (s : State) (a : Nat) (v : Word) : (s.wr a v).sessions = s.sessions := rfl
@[simp] theorem State.wr_sesImage (s : State) (a : Nat) (v : Word) : (s.wr a v).sesImage = s.sesImage := rfl
@[simp] theorem State.wr_altImage (s : State) (a : Nat) (v : Word) : (s.wr a v).altImage = s.altImage := rfl
@[simp] theorem State.wr_sesBusy (s : State) (a : Nat) (v : Word) : (s.wr a v).sesBusy = s.sesBusy := rfl
@[simp] theorem State.wr_sesAddr (s : State) (a : Nat) (v : Word) : (s.wr a v).sesAddr = s.sesAddr := rfl
@[simp] theorem State.wr_sesWait (s : State) (a : Nat) (v : Word) : (s.wr a v).sesWait = s.sesWait := rfl
@[simp] theorem State.wr_tailProd (s : State) (a : Nat) (v : Word) : (s.wr a v).tailProd = s.tailProd := rfl
@[simp] theorem State.wr_tailQueue (s : State) (a : Nat) (v : Word) : (s.wr a v).tailQueue = s.tailQueue := rfl
@[simp] theorem State.wr_tailCons (s : State) (a : Nat) (v : Word) : (s.wr a v).tailCons = s.tailCons := rfl
@[simp] theorem State.wr_coldDue (s : State) (a : Nat) (v : Word) : (s.wr a v).coldDue = s.coldDue := rfl
@[simp] theorem State.wr_warmDue (s : State) (a : Nat) (v : Word) : (s.wr a v).warmDue = s.warmDue := rfl
@[simp] theorem State.wr_upWait (s : State) (a : Nat) (v : Word) : (s.wr a v).upWait = s.upWait := rfl
@[simp] theorem State.wr_sesInit (s : State) (a : Nat) (v : Word) : (s.wr a v).sesInit = s.sesInit := rfl
@[simp] theorem State.wr_altInit (s : State) (a : Nat) (v : Word) : (s.wr a v).altInit = s.altInit := rfl
@[simp] theorem State.wr_stageQueue (s : State) (a : Nat) (v : Word) : (s.wr a v).stageQueue = s.stageQueue := rfl
@[simp] theorem State.wr_stageHeld (s : State) (a : Nat) (v : Word) : (s.wr a v).stageHeld = s.stageHeld := rfl
@[simp] theorem State.wr_stageData (s : State) (a : Nat) (v : Word) : (s.wr a v).stageData = s.stageData := rfl
@[simp] theorem State.wr_engines (s : State) (a : Nat) (v : Word) : (s.wr a v).engines = s.engines := rfl
@[simp] theorem State.wr_cmpSession (s : State) (a : Nat) (v : Word) : (s.wr a v).cmpSession = s.cmpSession := rfl
@[simp] theorem State.wr_cmpCore (s : State) (a : Nat) (v : Word) : (s.wr a v).cmpCore = s.cmpCore := rfl
@[simp] theorem State.wr_cmpCoreNext (s : State) (a : Nat) (v : Word) : (s.wr a v).cmpCoreNext = s.cmpCoreNext := rfl
@[simp] theorem State.wr_jobs (s : State) (a : Nat) (v : Word) : (s.wr a v).jobs = s.jobs := rfl
@[simp] theorem State.wr_jobGen (s : State) (a : Nat) (v : Word) : (s.wr a v).jobGen = s.jobGen := rfl
@[simp] theorem State.wr_xfers (s : State) (a : Nat) (v : Word) : (s.wr a v).xfers = s.xfers := rfl
@[simp] theorem State.wr_resendLate (s : State) (a : Nat) (v : Word) : (s.wr a v).resendLate = s.resendLate := rfl
@[simp] theorem State.wr_stalled (s : State) (a : Nat) (v : Word) : (s.wr a v).stalled = s.stalled := rfl
@[simp] theorem State.wr_deficits (s : State) (a : Nat) (v : Word) : (s.wr a v).deficits = s.deficits := rfl
@[simp] theorem State.wr_weightNew (s : State) (a : Nat) (v : Word) : (s.wr a v).weightNew = s.weightNew := rfl
@[simp] theorem State.wr_issueQueue (s : State) (a : Nat) (v : Word) : (s.wr a v).issueQueue = s.issueQueue := rfl
@[simp] theorem State.wr_iotlb (s : State) (a : Nat) (v : Word) : (s.wr a v).iotlb = s.iotlb := rfl
@[simp] theorem State.wr_quiescing (s : State) (a : Nat) (v : Word) : (s.wr a v).quiescing = s.quiescing := rfl
@[simp] theorem State.wr_altWait (s : State) (a : Nat) (v : Word) : (s.wr a v).altWait = s.altWait := rfl
@[simp] theorem State.wr_keyWait (s : State) (a : Nat) (v : Word) : (s.wr a v).keyWait = s.keyWait := rfl
@[simp] theorem State.wr_sluA (s : State) (a : Nat) (v : Word) : (s.wr a v).sluA = s.sluA := rfl
@[simp] theorem State.wr_sluB (s : State) (a : Nat) (v : Word) : (s.wr a v).sluB = s.sluB := rfl
@[simp] theorem State.wr_turnChange (s : State) (a : Nat) (v : Word) : (s.wr a v).turnChange = s.turnChange := rfl
@[simp] theorem State.wr_swapHc (s : State) (a : Nat) (v : Word) : (s.wr a v).swapHc = s.swapHc := rfl
@[simp] theorem State.wr_swapRetry (s : State) (a : Nat) (v : Word) : (s.wr a v).swapRetry = s.swapRetry := rfl
@[simp] theorem State.wr_clkChange (s : State) (a : Nat) (v : Word) : (s.wr a v).clkChange = s.clkChange := rfl
@[simp] theorem State.wr_clkFreq (s : State) (a : Nat) (v : Word) : (s.wr a v).clkFreq = s.clkFreq := rfl
@[simp] theorem State.wr_clkDiv (s : State) (a : Nat) (v : Word) : (s.wr a v).clkDiv = s.clkDiv := rfl
@[simp] theorem State.wr_clkWait (s : State) (a : Nat) (v : Word) : (s.wr a v).clkWait = s.clkWait := rfl
@[simp] theorem State.wr_staggerOn (s : State) (a : Nat) (v : Word) : (s.wr a v).staggerOn = s.staggerOn := rfl
@[simp] theorem State.wr_fastLow (s : State) (a : Nat) (v : Word) : (s.wr a v).fastLow = s.fastLow := rfl
@[simp] theorem State.wr_slowLow (s : State) (a : Nat) (v : Word) : (s.wr a v).slowLow = s.slowLow := rfl
@[simp] theorem State.wr_heatFloor (s : State) (a : Nat) (v : Word) : (s.wr a v).heatFloor = s.heatFloor := rfl
@[simp] theorem State.wr_culvertsBroken (s : State) (a : Nat) (v : Word) : (s.wr a v).culvertsBroken = s.culvertsBroken := rfl
@[simp] theorem State.wr_coreStore (s : State) (a : Nat) (v : Word) : (s.wr a v).coreStore = s.coreStore := rfl
@[simp] theorem State.wr_sluStore (s : State) (a : Nat) (v : Word) : (s.wr a v).sluStore = s.sluStore := rfl
@[simp] theorem State.wr_hwkStore (s : State) (a : Nat) (v : Word) : (s.wr a v).hwkStore = s.hwkStore := rfl
@[simp] theorem State.wr_stagedImages (s : State) (a : Nat) (v : Word) : (s.wr a v).stagedImages = s.stagedImages := rfl
@[simp] theorem State.wr_flumeStore (s : State) (a : Nat) (v : Word) : (s.wr a v).flumeStore = s.flumeStore := rfl
@[simp] theorem State.wr_oemHash (s : State) (a : Nat) (v : Word) : (s.wr a v).oemHash = s.oemHash := rfl
@[simp] theorem State.wr_svnRaises (s : State) (a : Nat) (v : Word) : (s.wr a v).svnRaises = s.svnRaises := rfl
@[simp] theorem State.wr_startStage (s : State) (a : Nat) (v : Word) : (s.wr a v).startStage = s.startStage := rfl
@[simp] theorem State.wr_imageIn (s : State) (a : Nat) (v : Word) : (s.wr a v).imageIn = s.imageIn := rfl
@[simp] theorem State.wr_loopDone (s : State) (a : Nat) (v : Word) : (s.wr a v).loopDone = s.loopDone := rfl
@[simp] theorem State.wr_loopFail (s : State) (a : Nat) (v : Word) : (s.wr a v).loopFail = s.loopFail := rfl
@[simp] theorem State.wr_fullRate (s : State) (a : Nat) (v : Word) : (s.wr a v).fullRate = s.fullRate := rfl
@[simp] theorem State.wr_trainBad (s : State) (a : Nat) (v : Word) : (s.wr a v).trainBad = s.trainBad := rfl
@[simp] theorem State.wr_rateDue (s : State) (a : Nat) (v : Word) : (s.wr a v).rateDue = s.rateDue := rfl
@[simp] theorem State.wr_fullLinks (s : State) (a : Nat) (v : Word) : (s.wr a v).fullLinks = s.fullLinks := rfl
@[simp] theorem State.wr_prst (s : State) (a : Nat) (v : Word) : (s.wr a v).prst = s.prst := rfl
@[simp] theorem State.wr_pwrLow (s : State) (a : Nat) (v : Word) : (s.wr a v).pwrLow = s.pwrLow := rfl
@[simp] theorem State.wr_vinLow (s : State) (a : Nat) (v : Word) : (s.wr a v).vinLow = s.vinLow := rfl
@[simp] theorem State.wr_tamper (s : State) (a : Nat) (v : Word) : (s.wr a v).tamper = s.tamper := rfl
@[simp] theorem State.wr_bypass (s : State) (a : Nat) (v : Word) : (s.wr a v).bypass = s.bypass := rfl
@[simp] theorem State.wr_badIslands (s : State) (a : Nat) (v : Word) : (s.wr a v).badIslands = s.badIslands := rfl
@[simp] theorem State.wr_scanHold (s : State) (a : Nat) (v : Word) : (s.wr a v).scanHold = s.scanHold := rfl
@[simp] theorem State.wr_tapIr (s : State) (a : Nat) (v : Word) : (s.wr a v).tapIr = s.tapIr := rfl
@[simp] theorem State.wr_boundary (s : State) (a : Nat) (v : Word) : (s.wr a v).boundary = s.boundary := rfl
@[simp] theorem State.wr_pings (s : State) (a : Nat) (v : Word) : (s.wr a v).pings = s.pings := rfl
@[simp] theorem State.wr_pingSum (s : State) (a : Nat) (v : Word) : (s.wr a v).pingSum = s.pingSum := rfl
@[simp] theorem State.wr_startBegan (s : State) (a : Nat) (v : Word) : (s.wr a v).startBegan = s.startBegan := rfl
@[simp] theorem State.wr_rotAt (s : State) (a : Nat) (v : Word) : (s.wr a v).rotAt = s.rotAt := rfl
@[simp] theorem State.wr_warned (s : State) (a : Nat) (v : Word) : (s.wr a v).warned = s.warned := rfl
@[simp] theorem State.wr_dieUp (s : State) (a : Nat) (v : Word) : (s.wr a v).dieUp = s.dieUp := rfl
@[simp] theorem State.wr_freeCtr (s : State) (a : Nat) (v : Word) : (s.wr a v).freeCtr = s.freeCtr := rfl
@[simp] theorem State.wr_out (s : State) (a : Nat) (v : Word) : (s.wr a v).out = s.out := rfl

/-! setCore -/

@[simp] theorem State.setCore_pending (s : State) (c : Nat) (k : Core) : (s.setCore c k).pending = s.pending := rfl
@[simp] theorem State.setCore_csr (s : State) (c : Nat) (k : Core) : (s.setCore c k).csr = s.csr := rfl
@[simp] theorem State.setCore_staged (s : State) (c : Nat) (k : Core) : (s.setCore c k).staged = s.staged := rfl
@[simp] theorem State.setCore_force (s : State) (c : Nat) (k : Core) : (s.setCore c k).force = s.force := rfl
@[simp] theorem State.setCore_mem (s : State) (c : Nat) (k : Core) : (s.setCore c k).mem = s.mem := rfl
@[simp] theorem State.setCore_dram (s : State) (c : Nat) (k : Core) : (s.setCore c k).dram = s.dram := rfl
@[simp] theorem State.setCore_resOld (s : State) (c : Nat) (k : Core) : (s.setCore c k).resOld = s.resOld := rfl
@[simp] theorem State.setCore_resPoison (s : State) (c : Nat) (k : Core) : (s.setCore c k).resPoison = s.resPoison := rfl
@[simp] theorem State.setCore_poison (s : State) (c : Nat) (k : Core) : (s.setCore c k).poison = s.poison := rfl
@[simp] theorem State.setCore_dramPoison (s : State) (c : Nat) (k : Core) : (s.setCore c k).dramPoison = s.dramPoison := rfl
@[simp] theorem State.setCore_cores (s : State) (c : Nat) (k : Core) : (s.setCore c k).cores = s.cores.put c k := rfl
@[simp] theorem State.setCore_groups (s : State) (c : Nat) (k : Core) : (s.setCore c k).groups = s.groups := rfl
@[simp] theorem State.setCore_chkRetired (s : State) (c : Nat) (k : Core) : (s.setCore c k).chkRetired = s.chkRetired := rfl
@[simp] theorem State.setCore_res (s : State) (c : Nat) (k : Core) : (s.setCore c k).res = s.res := rfl
@[simp] theorem State.setCore_resPlru (s : State) (c : Nat) (k : Core) : (s.setCore c k).resPlru = s.resPlru := rfl
@[simp] theorem State.setCore_resScrub (s : State) (c : Nat) (k : Core) : (s.setCore c k).resScrub = s.resScrub := rfl
@[simp] theorem State.setCore_inReset (s : State) (c : Nat) (k : Core) : (s.setCore c k).inReset = s.inReset := rfl
@[simp] theorem State.setCore_fallow (s : State) (c : Nat) (k : Core) : (s.setCore c k).fallow = s.fallow := rfl
@[simp] theorem State.setCore_lanesIdle (s : State) (c : Nat) (k : Core) : (s.setCore c k).lanesIdle = s.lanesIdle := rfl
@[simp] theorem State.setCore_fltWin (s : State) (c : Nat) (k : Core) : (s.setCore c k).fltWin = s.fltWin := rfl
@[simp] theorem State.setCore_noticed (s : State) (c : Nat) (k : Core) : (s.setCore c k).noticed = s.noticed := rfl
@[simp] theorem State.setCore_noticeHeld (s : State) (c : Nat) (k : Core) : (s.setCore c k).noticeHeld = s.noticeHeld := rfl
@[simp] theorem State.setCore_sprNeeds (s : State) (c : Nat) (k : Core) : (s.setCore c k).sprNeeds = s.sprNeeds := rfl
@[simp] theorem State.setCore_sprDeferred (s : State) (c : Nat) (k : Core) : (s.setCore c k).sprDeferred = s.sprDeferred := rfl
@[simp] theorem State.setCore_repair (s : State) (c : Nat) (k : Core) : (s.setCore c k).repair = s.repair := rfl
@[simp] theorem State.setCore_rowErrs (s : State) (c : Nat) (k : Core) : (s.setCore c k).rowErrs = s.rowErrs := rfl
@[simp] theorem State.setCore_rowsUsed (s : State) (c : Nat) (k : Core) : (s.setCore c k).rowsUsed = s.rowsUsed := rfl
@[simp] theorem State.setCore_scrubPos (s : State) (c : Nat) (k : Core) : (s.setCore c k).scrubPos = s.scrubPos := rfl
@[simp] theorem State.setCore_subst (s : State) (c : Nat) (k : Core) : (s.setCore c k).subst = s.subst := rfl
@[simp] theorem State.setCore_cisErrs (s : State) (c : Nat) (k : Core) : (s.setCore c k).cisErrs = s.cisErrs := rfl
@[simp] theorem State.setCore_cisEnd (s : State) (c : Nat) (k : Core) : (s.setCore c k).cisEnd = s.cisEnd := rfl
@[simp] theorem State.setCore_cisGrant (s : State) (c : Nat) (k : Core) : (s.setCore c k).cisGrant = s.cisGrant := rfl
@[simp] theorem State.setCore_wipeAt (s : State) (c : Nat) (k : Core) : (s.setCore c k).wipeAt = s.wipeAt := rfl
@[simp] theorem State.setCore_slots (s : State) (c : Nat) (k : Core) : (s.setCore c k).slots = s.slots := rfl
@[simp] theorem State.setCore_kik (s : State) (c : Nat) (k : Core) : (s.setCore c k).kik = s.kik := rfl
@[simp] theorem State.setCore_basins (s : State) (c : Nat) (k : Core) : (s.setCore c k).basins = s.basins := rfl
@[simp] theorem State.setCore_basinQueue (s : State) (c : Nat) (k : Core) : (s.setCore c k).basinQueue = s.basinQueue := rfl
@[simp] theorem State.setCore_flumeBuf (s : State) (c : Nat) (k : Core) : (s.setCore c k).flumeBuf = s.flumeBuf := rfl
@[simp] theorem State.setCore_links (s : State) (c : Nat) (k : Core) : (s.setCore c k).links = s.links := rfl
@[simp] theorem State.setCore_coeffs (s : State) (c : Nat) (k : Core) : (s.setCore c k).coeffs = s.coeffs := rfl
@[simp] theorem State.setCore_inbox (s : State) (c : Nat) (k : Core) : (s.setCore c k).inbox = s.inbox := rfl
@[simp] theorem State.setCore_live (s : State) (c : Nat) (k : Core) : (s.setCore c k).live = s.live := rfl
@[simp] theorem State.setCore_sessions (s : State) (c : Nat) (k : Core) : (s.setCore c k).sessions = s.sessions := rfl
@[simp] theorem State.setCore_sesImage (s : State) (c : Nat) (k : Core) : (s.setCore c k).sesImage = s.sesImage := rfl
@[simp] theorem State.setCore_altImage (s : State) (c : Nat) (k : Core) : (s.setCore c k).altImage = s.altImage := rfl
@[simp] theorem State.setCore_sesBusy (s : State) (c : Nat) (k : Core) : (s.setCore c k).sesBusy = s.sesBusy := rfl
@[simp] theorem State.setCore_sesAddr (s : State) (c : Nat) (k : Core) : (s.setCore c k).sesAddr = s.sesAddr := rfl
@[simp] theorem State.setCore_sesWait (s : State) (c : Nat) (k : Core) : (s.setCore c k).sesWait = s.sesWait := rfl
@[simp] theorem State.setCore_tailProd (s : State) (c : Nat) (k : Core) : (s.setCore c k).tailProd = s.tailProd := rfl
@[simp] theorem State.setCore_tailQueue (s : State) (c : Nat) (k : Core) : (s.setCore c k).tailQueue = s.tailQueue := rfl
@[simp] theorem State.setCore_tailCons (s : State) (c : Nat) (k : Core) : (s.setCore c k).tailCons = s.tailCons := rfl
@[simp] theorem State.setCore_coldDue (s : State) (c : Nat) (k : Core) : (s.setCore c k).coldDue = s.coldDue := rfl
@[simp] theorem State.setCore_warmDue (s : State) (c : Nat) (k : Core) : (s.setCore c k).warmDue = s.warmDue := rfl
@[simp] theorem State.setCore_upWait (s : State) (c : Nat) (k : Core) : (s.setCore c k).upWait = s.upWait := rfl
@[simp] theorem State.setCore_sesInit (s : State) (c : Nat) (k : Core) : (s.setCore c k).sesInit = s.sesInit := rfl
@[simp] theorem State.setCore_altInit (s : State) (c : Nat) (k : Core) : (s.setCore c k).altInit = s.altInit := rfl
@[simp] theorem State.setCore_stageQueue (s : State) (c : Nat) (k : Core) : (s.setCore c k).stageQueue = s.stageQueue := rfl
@[simp] theorem State.setCore_stageHeld (s : State) (c : Nat) (k : Core) : (s.setCore c k).stageHeld = s.stageHeld := rfl
@[simp] theorem State.setCore_stageData (s : State) (c : Nat) (k : Core) : (s.setCore c k).stageData = s.stageData := rfl
@[simp] theorem State.setCore_engines (s : State) (c : Nat) (k : Core) : (s.setCore c k).engines = s.engines := rfl
@[simp] theorem State.setCore_cmpSession (s : State) (c : Nat) (k : Core) : (s.setCore c k).cmpSession = s.cmpSession := rfl
@[simp] theorem State.setCore_cmpCore (s : State) (c : Nat) (k : Core) : (s.setCore c k).cmpCore = s.cmpCore := rfl
@[simp] theorem State.setCore_cmpCoreNext (s : State) (c : Nat) (k : Core) : (s.setCore c k).cmpCoreNext = s.cmpCoreNext := rfl
@[simp] theorem State.setCore_jobs (s : State) (c : Nat) (k : Core) : (s.setCore c k).jobs = s.jobs := rfl
@[simp] theorem State.setCore_jobGen (s : State) (c : Nat) (k : Core) : (s.setCore c k).jobGen = s.jobGen := rfl
@[simp] theorem State.setCore_xfers (s : State) (c : Nat) (k : Core) : (s.setCore c k).xfers = s.xfers := rfl
@[simp] theorem State.setCore_resendLate (s : State) (c : Nat) (k : Core) : (s.setCore c k).resendLate = s.resendLate := rfl
@[simp] theorem State.setCore_stalled (s : State) (c : Nat) (k : Core) : (s.setCore c k).stalled = s.stalled := rfl
@[simp] theorem State.setCore_deficits (s : State) (c : Nat) (k : Core) : (s.setCore c k).deficits = s.deficits := rfl
@[simp] theorem State.setCore_weightNew (s : State) (c : Nat) (k : Core) : (s.setCore c k).weightNew = s.weightNew := rfl
@[simp] theorem State.setCore_issueQueue (s : State) (c : Nat) (k : Core) : (s.setCore c k).issueQueue = s.issueQueue := rfl
@[simp] theorem State.setCore_iotlb (s : State) (c : Nat) (k : Core) : (s.setCore c k).iotlb = s.iotlb := rfl
@[simp] theorem State.setCore_quiescing (s : State) (c : Nat) (k : Core) : (s.setCore c k).quiescing = s.quiescing := rfl
@[simp] theorem State.setCore_altWait (s : State) (c : Nat) (k : Core) : (s.setCore c k).altWait = s.altWait := rfl
@[simp] theorem State.setCore_keyWait (s : State) (c : Nat) (k : Core) : (s.setCore c k).keyWait = s.keyWait := rfl
@[simp] theorem State.setCore_sluA (s : State) (c : Nat) (k : Core) : (s.setCore c k).sluA = s.sluA := rfl
@[simp] theorem State.setCore_sluB (s : State) (c : Nat) (k : Core) : (s.setCore c k).sluB = s.sluB := rfl
@[simp] theorem State.setCore_turnChange (s : State) (c : Nat) (k : Core) : (s.setCore c k).turnChange = s.turnChange := rfl
@[simp] theorem State.setCore_swapHc (s : State) (c : Nat) (k : Core) : (s.setCore c k).swapHc = s.swapHc := rfl
@[simp] theorem State.setCore_swapRetry (s : State) (c : Nat) (k : Core) : (s.setCore c k).swapRetry = s.swapRetry := rfl
@[simp] theorem State.setCore_clkChange (s : State) (c : Nat) (k : Core) : (s.setCore c k).clkChange = s.clkChange := rfl
@[simp] theorem State.setCore_clkFreq (s : State) (c : Nat) (k : Core) : (s.setCore c k).clkFreq = s.clkFreq := rfl
@[simp] theorem State.setCore_clkDiv (s : State) (c : Nat) (k : Core) : (s.setCore c k).clkDiv = s.clkDiv := rfl
@[simp] theorem State.setCore_clkWait (s : State) (c : Nat) (k : Core) : (s.setCore c k).clkWait = s.clkWait := rfl
@[simp] theorem State.setCore_staggerOn (s : State) (c : Nat) (k : Core) : (s.setCore c k).staggerOn = s.staggerOn := rfl
@[simp] theorem State.setCore_fastLow (s : State) (c : Nat) (k : Core) : (s.setCore c k).fastLow = s.fastLow := rfl
@[simp] theorem State.setCore_slowLow (s : State) (c : Nat) (k : Core) : (s.setCore c k).slowLow = s.slowLow := rfl
@[simp] theorem State.setCore_heatFloor (s : State) (c : Nat) (k : Core) : (s.setCore c k).heatFloor = s.heatFloor := rfl
@[simp] theorem State.setCore_culvertsBroken (s : State) (c : Nat) (k : Core) : (s.setCore c k).culvertsBroken = s.culvertsBroken := rfl
@[simp] theorem State.setCore_coreStore (s : State) (c : Nat) (k : Core) : (s.setCore c k).coreStore = s.coreStore := rfl
@[simp] theorem State.setCore_sluStore (s : State) (c : Nat) (k : Core) : (s.setCore c k).sluStore = s.sluStore := rfl
@[simp] theorem State.setCore_hwkStore (s : State) (c : Nat) (k : Core) : (s.setCore c k).hwkStore = s.hwkStore := rfl
@[simp] theorem State.setCore_stagedImages (s : State) (c : Nat) (k : Core) : (s.setCore c k).stagedImages = s.stagedImages := rfl
@[simp] theorem State.setCore_flumeStore (s : State) (c : Nat) (k : Core) : (s.setCore c k).flumeStore = s.flumeStore := rfl
@[simp] theorem State.setCore_oemHash (s : State) (c : Nat) (k : Core) : (s.setCore c k).oemHash = s.oemHash := rfl
@[simp] theorem State.setCore_svnRaises (s : State) (c : Nat) (k : Core) : (s.setCore c k).svnRaises = s.svnRaises := rfl
@[simp] theorem State.setCore_startStage (s : State) (c : Nat) (k : Core) : (s.setCore c k).startStage = s.startStage := rfl
@[simp] theorem State.setCore_imageIn (s : State) (c : Nat) (k : Core) : (s.setCore c k).imageIn = s.imageIn := rfl
@[simp] theorem State.setCore_loopDone (s : State) (c : Nat) (k : Core) : (s.setCore c k).loopDone = s.loopDone := rfl
@[simp] theorem State.setCore_loopFail (s : State) (c : Nat) (k : Core) : (s.setCore c k).loopFail = s.loopFail := rfl
@[simp] theorem State.setCore_fullRate (s : State) (c : Nat) (k : Core) : (s.setCore c k).fullRate = s.fullRate := rfl
@[simp] theorem State.setCore_trainBad (s : State) (c : Nat) (k : Core) : (s.setCore c k).trainBad = s.trainBad := rfl
@[simp] theorem State.setCore_rateDue (s : State) (c : Nat) (k : Core) : (s.setCore c k).rateDue = s.rateDue := rfl
@[simp] theorem State.setCore_fullLinks (s : State) (c : Nat) (k : Core) : (s.setCore c k).fullLinks = s.fullLinks := rfl
@[simp] theorem State.setCore_prst (s : State) (c : Nat) (k : Core) : (s.setCore c k).prst = s.prst := rfl
@[simp] theorem State.setCore_pwrLow (s : State) (c : Nat) (k : Core) : (s.setCore c k).pwrLow = s.pwrLow := rfl
@[simp] theorem State.setCore_vinLow (s : State) (c : Nat) (k : Core) : (s.setCore c k).vinLow = s.vinLow := rfl
@[simp] theorem State.setCore_tamper (s : State) (c : Nat) (k : Core) : (s.setCore c k).tamper = s.tamper := rfl
@[simp] theorem State.setCore_bypass (s : State) (c : Nat) (k : Core) : (s.setCore c k).bypass = s.bypass := rfl
@[simp] theorem State.setCore_badIslands (s : State) (c : Nat) (k : Core) : (s.setCore c k).badIslands = s.badIslands := rfl
@[simp] theorem State.setCore_scanHold (s : State) (c : Nat) (k : Core) : (s.setCore c k).scanHold = s.scanHold := rfl
@[simp] theorem State.setCore_tapIr (s : State) (c : Nat) (k : Core) : (s.setCore c k).tapIr = s.tapIr := rfl
@[simp] theorem State.setCore_boundary (s : State) (c : Nat) (k : Core) : (s.setCore c k).boundary = s.boundary := rfl
@[simp] theorem State.setCore_pings (s : State) (c : Nat) (k : Core) : (s.setCore c k).pings = s.pings := rfl
@[simp] theorem State.setCore_pingSum (s : State) (c : Nat) (k : Core) : (s.setCore c k).pingSum = s.pingSum := rfl
@[simp] theorem State.setCore_startBegan (s : State) (c : Nat) (k : Core) : (s.setCore c k).startBegan = s.startBegan := rfl
@[simp] theorem State.setCore_rotAt (s : State) (c : Nat) (k : Core) : (s.setCore c k).rotAt = s.rotAt := rfl
@[simp] theorem State.setCore_warned (s : State) (c : Nat) (k : Core) : (s.setCore c k).warned = s.warned := rfl
@[simp] theorem State.setCore_dieUp (s : State) (c : Nat) (k : Core) : (s.setCore c k).dieUp = s.dieUp := rfl
@[simp] theorem State.setCore_freeCtr (s : State) (c : Nat) (k : Core) : (s.setCore c k).freeCtr = s.freeCtr := rfl
@[simp] theorem State.setCore_out (s : State) (c : Nat) (k : Core) : (s.setCore c k).out = s.out := rfl

/-! setGroup -/

@[simp] theorem State.setGroup_pending (s : State) (g : Nat) (k : Group) : (s.setGroup g k).pending = s.pending := rfl
@[simp] theorem State.setGroup_csr (s : State) (g : Nat) (k : Group) : (s.setGroup g k).csr = s.csr := rfl
@[simp] theorem State.setGroup_staged (s : State) (g : Nat) (k : Group) : (s.setGroup g k).staged = s.staged := rfl
@[simp] theorem State.setGroup_force (s : State) (g : Nat) (k : Group) : (s.setGroup g k).force = s.force := rfl
@[simp] theorem State.setGroup_mem (s : State) (g : Nat) (k : Group) : (s.setGroup g k).mem = s.mem := rfl
@[simp] theorem State.setGroup_dram (s : State) (g : Nat) (k : Group) : (s.setGroup g k).dram = s.dram := rfl
@[simp] theorem State.setGroup_resOld (s : State) (g : Nat) (k : Group) : (s.setGroup g k).resOld = s.resOld := rfl
@[simp] theorem State.setGroup_resPoison (s : State) (g : Nat) (k : Group) : (s.setGroup g k).resPoison = s.resPoison := rfl
@[simp] theorem State.setGroup_poison (s : State) (g : Nat) (k : Group) : (s.setGroup g k).poison = s.poison := rfl
@[simp] theorem State.setGroup_dramPoison (s : State) (g : Nat) (k : Group) : (s.setGroup g k).dramPoison = s.dramPoison := rfl
@[simp] theorem State.setGroup_cores (s : State) (g : Nat) (k : Group) : (s.setGroup g k).cores = s.cores := rfl
@[simp] theorem State.setGroup_groups (s : State) (g : Nat) (k : Group) : (s.setGroup g k).groups = s.groups.put g k := rfl
@[simp] theorem State.setGroup_chkRetired (s : State) (g : Nat) (k : Group) : (s.setGroup g k).chkRetired = s.chkRetired := rfl
@[simp] theorem State.setGroup_res (s : State) (g : Nat) (k : Group) : (s.setGroup g k).res = s.res := rfl
@[simp] theorem State.setGroup_resPlru (s : State) (g : Nat) (k : Group) : (s.setGroup g k).resPlru = s.resPlru := rfl
@[simp] theorem State.setGroup_resScrub (s : State) (g : Nat) (k : Group) : (s.setGroup g k).resScrub = s.resScrub := rfl
@[simp] theorem State.setGroup_inReset (s : State) (g : Nat) (k : Group) : (s.setGroup g k).inReset = s.inReset := rfl
@[simp] theorem State.setGroup_fallow (s : State) (g : Nat) (k : Group) : (s.setGroup g k).fallow = s.fallow := rfl
@[simp] theorem State.setGroup_lanesIdle (s : State) (g : Nat) (k : Group) : (s.setGroup g k).lanesIdle = s.lanesIdle := rfl
@[simp] theorem State.setGroup_fltWin (s : State) (g : Nat) (k : Group) : (s.setGroup g k).fltWin = s.fltWin := rfl
@[simp] theorem State.setGroup_noticed (s : State) (g : Nat) (k : Group) : (s.setGroup g k).noticed = s.noticed := rfl
@[simp] theorem State.setGroup_noticeHeld (s : State) (g : Nat) (k : Group) : (s.setGroup g k).noticeHeld = s.noticeHeld := rfl
@[simp] theorem State.setGroup_sprNeeds (s : State) (g : Nat) (k : Group) : (s.setGroup g k).sprNeeds = s.sprNeeds := rfl
@[simp] theorem State.setGroup_sprDeferred (s : State) (g : Nat) (k : Group) : (s.setGroup g k).sprDeferred = s.sprDeferred := rfl
@[simp] theorem State.setGroup_repair (s : State) (g : Nat) (k : Group) : (s.setGroup g k).repair = s.repair := rfl
@[simp] theorem State.setGroup_rowErrs (s : State) (g : Nat) (k : Group) : (s.setGroup g k).rowErrs = s.rowErrs := rfl
@[simp] theorem State.setGroup_rowsUsed (s : State) (g : Nat) (k : Group) : (s.setGroup g k).rowsUsed = s.rowsUsed := rfl
@[simp] theorem State.setGroup_scrubPos (s : State) (g : Nat) (k : Group) : (s.setGroup g k).scrubPos = s.scrubPos := rfl
@[simp] theorem State.setGroup_subst (s : State) (g : Nat) (k : Group) : (s.setGroup g k).subst = s.subst := rfl
@[simp] theorem State.setGroup_cisErrs (s : State) (g : Nat) (k : Group) : (s.setGroup g k).cisErrs = s.cisErrs := rfl
@[simp] theorem State.setGroup_cisEnd (s : State) (g : Nat) (k : Group) : (s.setGroup g k).cisEnd = s.cisEnd := rfl
@[simp] theorem State.setGroup_cisGrant (s : State) (g : Nat) (k : Group) : (s.setGroup g k).cisGrant = s.cisGrant := rfl
@[simp] theorem State.setGroup_wipeAt (s : State) (g : Nat) (k : Group) : (s.setGroup g k).wipeAt = s.wipeAt := rfl
@[simp] theorem State.setGroup_slots (s : State) (g : Nat) (k : Group) : (s.setGroup g k).slots = s.slots := rfl
@[simp] theorem State.setGroup_kik (s : State) (g : Nat) (k : Group) : (s.setGroup g k).kik = s.kik := rfl
@[simp] theorem State.setGroup_basins (s : State) (g : Nat) (k : Group) : (s.setGroup g k).basins = s.basins := rfl
@[simp] theorem State.setGroup_basinQueue (s : State) (g : Nat) (k : Group) : (s.setGroup g k).basinQueue = s.basinQueue := rfl
@[simp] theorem State.setGroup_flumeBuf (s : State) (g : Nat) (k : Group) : (s.setGroup g k).flumeBuf = s.flumeBuf := rfl
@[simp] theorem State.setGroup_links (s : State) (g : Nat) (k : Group) : (s.setGroup g k).links = s.links := rfl
@[simp] theorem State.setGroup_coeffs (s : State) (g : Nat) (k : Group) : (s.setGroup g k).coeffs = s.coeffs := rfl
@[simp] theorem State.setGroup_inbox (s : State) (g : Nat) (k : Group) : (s.setGroup g k).inbox = s.inbox := rfl
@[simp] theorem State.setGroup_live (s : State) (g : Nat) (k : Group) : (s.setGroup g k).live = s.live := rfl
@[simp] theorem State.setGroup_sessions (s : State) (g : Nat) (k : Group) : (s.setGroup g k).sessions = s.sessions := rfl
@[simp] theorem State.setGroup_sesImage (s : State) (g : Nat) (k : Group) : (s.setGroup g k).sesImage = s.sesImage := rfl
@[simp] theorem State.setGroup_altImage (s : State) (g : Nat) (k : Group) : (s.setGroup g k).altImage = s.altImage := rfl
@[simp] theorem State.setGroup_sesBusy (s : State) (g : Nat) (k : Group) : (s.setGroup g k).sesBusy = s.sesBusy := rfl
@[simp] theorem State.setGroup_sesAddr (s : State) (g : Nat) (k : Group) : (s.setGroup g k).sesAddr = s.sesAddr := rfl
@[simp] theorem State.setGroup_sesWait (s : State) (g : Nat) (k : Group) : (s.setGroup g k).sesWait = s.sesWait := rfl
@[simp] theorem State.setGroup_tailProd (s : State) (g : Nat) (k : Group) : (s.setGroup g k).tailProd = s.tailProd := rfl
@[simp] theorem State.setGroup_tailQueue (s : State) (g : Nat) (k : Group) : (s.setGroup g k).tailQueue = s.tailQueue := rfl
@[simp] theorem State.setGroup_tailCons (s : State) (g : Nat) (k : Group) : (s.setGroup g k).tailCons = s.tailCons := rfl
@[simp] theorem State.setGroup_coldDue (s : State) (g : Nat) (k : Group) : (s.setGroup g k).coldDue = s.coldDue := rfl
@[simp] theorem State.setGroup_warmDue (s : State) (g : Nat) (k : Group) : (s.setGroup g k).warmDue = s.warmDue := rfl
@[simp] theorem State.setGroup_upWait (s : State) (g : Nat) (k : Group) : (s.setGroup g k).upWait = s.upWait := rfl
@[simp] theorem State.setGroup_sesInit (s : State) (g : Nat) (k : Group) : (s.setGroup g k).sesInit = s.sesInit := rfl
@[simp] theorem State.setGroup_altInit (s : State) (g : Nat) (k : Group) : (s.setGroup g k).altInit = s.altInit := rfl
@[simp] theorem State.setGroup_stageQueue (s : State) (g : Nat) (k : Group) : (s.setGroup g k).stageQueue = s.stageQueue := rfl
@[simp] theorem State.setGroup_stageHeld (s : State) (g : Nat) (k : Group) : (s.setGroup g k).stageHeld = s.stageHeld := rfl
@[simp] theorem State.setGroup_stageData (s : State) (g : Nat) (k : Group) : (s.setGroup g k).stageData = s.stageData := rfl
@[simp] theorem State.setGroup_engines (s : State) (g : Nat) (k : Group) : (s.setGroup g k).engines = s.engines := rfl
@[simp] theorem State.setGroup_cmpSession (s : State) (g : Nat) (k : Group) : (s.setGroup g k).cmpSession = s.cmpSession := rfl
@[simp] theorem State.setGroup_cmpCore (s : State) (g : Nat) (k : Group) : (s.setGroup g k).cmpCore = s.cmpCore := rfl
@[simp] theorem State.setGroup_cmpCoreNext (s : State) (g : Nat) (k : Group) : (s.setGroup g k).cmpCoreNext = s.cmpCoreNext := rfl
@[simp] theorem State.setGroup_jobs (s : State) (g : Nat) (k : Group) : (s.setGroup g k).jobs = s.jobs := rfl
@[simp] theorem State.setGroup_jobGen (s : State) (g : Nat) (k : Group) : (s.setGroup g k).jobGen = s.jobGen := rfl
@[simp] theorem State.setGroup_xfers (s : State) (g : Nat) (k : Group) : (s.setGroup g k).xfers = s.xfers := rfl
@[simp] theorem State.setGroup_resendLate (s : State) (g : Nat) (k : Group) : (s.setGroup g k).resendLate = s.resendLate := rfl
@[simp] theorem State.setGroup_stalled (s : State) (g : Nat) (k : Group) : (s.setGroup g k).stalled = s.stalled := rfl
@[simp] theorem State.setGroup_deficits (s : State) (g : Nat) (k : Group) : (s.setGroup g k).deficits = s.deficits := rfl
@[simp] theorem State.setGroup_weightNew (s : State) (g : Nat) (k : Group) : (s.setGroup g k).weightNew = s.weightNew := rfl
@[simp] theorem State.setGroup_issueQueue (s : State) (g : Nat) (k : Group) : (s.setGroup g k).issueQueue = s.issueQueue := rfl
@[simp] theorem State.setGroup_iotlb (s : State) (g : Nat) (k : Group) : (s.setGroup g k).iotlb = s.iotlb := rfl
@[simp] theorem State.setGroup_quiescing (s : State) (g : Nat) (k : Group) : (s.setGroup g k).quiescing = s.quiescing := rfl
@[simp] theorem State.setGroup_altWait (s : State) (g : Nat) (k : Group) : (s.setGroup g k).altWait = s.altWait := rfl
@[simp] theorem State.setGroup_keyWait (s : State) (g : Nat) (k : Group) : (s.setGroup g k).keyWait = s.keyWait := rfl
@[simp] theorem State.setGroup_sluA (s : State) (g : Nat) (k : Group) : (s.setGroup g k).sluA = s.sluA := rfl
@[simp] theorem State.setGroup_sluB (s : State) (g : Nat) (k : Group) : (s.setGroup g k).sluB = s.sluB := rfl
@[simp] theorem State.setGroup_turnChange (s : State) (g : Nat) (k : Group) : (s.setGroup g k).turnChange = s.turnChange := rfl
@[simp] theorem State.setGroup_swapHc (s : State) (g : Nat) (k : Group) : (s.setGroup g k).swapHc = s.swapHc := rfl
@[simp] theorem State.setGroup_swapRetry (s : State) (g : Nat) (k : Group) : (s.setGroup g k).swapRetry = s.swapRetry := rfl
@[simp] theorem State.setGroup_clkChange (s : State) (g : Nat) (k : Group) : (s.setGroup g k).clkChange = s.clkChange := rfl
@[simp] theorem State.setGroup_clkFreq (s : State) (g : Nat) (k : Group) : (s.setGroup g k).clkFreq = s.clkFreq := rfl
@[simp] theorem State.setGroup_clkDiv (s : State) (g : Nat) (k : Group) : (s.setGroup g k).clkDiv = s.clkDiv := rfl
@[simp] theorem State.setGroup_clkWait (s : State) (g : Nat) (k : Group) : (s.setGroup g k).clkWait = s.clkWait := rfl
@[simp] theorem State.setGroup_staggerOn (s : State) (g : Nat) (k : Group) : (s.setGroup g k).staggerOn = s.staggerOn := rfl
@[simp] theorem State.setGroup_fastLow (s : State) (g : Nat) (k : Group) : (s.setGroup g k).fastLow = s.fastLow := rfl
@[simp] theorem State.setGroup_slowLow (s : State) (g : Nat) (k : Group) : (s.setGroup g k).slowLow = s.slowLow := rfl
@[simp] theorem State.setGroup_heatFloor (s : State) (g : Nat) (k : Group) : (s.setGroup g k).heatFloor = s.heatFloor := rfl
@[simp] theorem State.setGroup_culvertsBroken (s : State) (g : Nat) (k : Group) : (s.setGroup g k).culvertsBroken = s.culvertsBroken := rfl
@[simp] theorem State.setGroup_coreStore (s : State) (g : Nat) (k : Group) : (s.setGroup g k).coreStore = s.coreStore := rfl
@[simp] theorem State.setGroup_sluStore (s : State) (g : Nat) (k : Group) : (s.setGroup g k).sluStore = s.sluStore := rfl
@[simp] theorem State.setGroup_hwkStore (s : State) (g : Nat) (k : Group) : (s.setGroup g k).hwkStore = s.hwkStore := rfl
@[simp] theorem State.setGroup_stagedImages (s : State) (g : Nat) (k : Group) : (s.setGroup g k).stagedImages = s.stagedImages := rfl
@[simp] theorem State.setGroup_flumeStore (s : State) (g : Nat) (k : Group) : (s.setGroup g k).flumeStore = s.flumeStore := rfl
@[simp] theorem State.setGroup_oemHash (s : State) (g : Nat) (k : Group) : (s.setGroup g k).oemHash = s.oemHash := rfl
@[simp] theorem State.setGroup_svnRaises (s : State) (g : Nat) (k : Group) : (s.setGroup g k).svnRaises = s.svnRaises := rfl
@[simp] theorem State.setGroup_startStage (s : State) (g : Nat) (k : Group) : (s.setGroup g k).startStage = s.startStage := rfl
@[simp] theorem State.setGroup_imageIn (s : State) (g : Nat) (k : Group) : (s.setGroup g k).imageIn = s.imageIn := rfl
@[simp] theorem State.setGroup_loopDone (s : State) (g : Nat) (k : Group) : (s.setGroup g k).loopDone = s.loopDone := rfl
@[simp] theorem State.setGroup_loopFail (s : State) (g : Nat) (k : Group) : (s.setGroup g k).loopFail = s.loopFail := rfl
@[simp] theorem State.setGroup_fullRate (s : State) (g : Nat) (k : Group) : (s.setGroup g k).fullRate = s.fullRate := rfl
@[simp] theorem State.setGroup_trainBad (s : State) (g : Nat) (k : Group) : (s.setGroup g k).trainBad = s.trainBad := rfl
@[simp] theorem State.setGroup_rateDue (s : State) (g : Nat) (k : Group) : (s.setGroup g k).rateDue = s.rateDue := rfl
@[simp] theorem State.setGroup_fullLinks (s : State) (g : Nat) (k : Group) : (s.setGroup g k).fullLinks = s.fullLinks := rfl
@[simp] theorem State.setGroup_prst (s : State) (g : Nat) (k : Group) : (s.setGroup g k).prst = s.prst := rfl
@[simp] theorem State.setGroup_pwrLow (s : State) (g : Nat) (k : Group) : (s.setGroup g k).pwrLow = s.pwrLow := rfl
@[simp] theorem State.setGroup_vinLow (s : State) (g : Nat) (k : Group) : (s.setGroup g k).vinLow = s.vinLow := rfl
@[simp] theorem State.setGroup_tamper (s : State) (g : Nat) (k : Group) : (s.setGroup g k).tamper = s.tamper := rfl
@[simp] theorem State.setGroup_bypass (s : State) (g : Nat) (k : Group) : (s.setGroup g k).bypass = s.bypass := rfl
@[simp] theorem State.setGroup_badIslands (s : State) (g : Nat) (k : Group) : (s.setGroup g k).badIslands = s.badIslands := rfl
@[simp] theorem State.setGroup_scanHold (s : State) (g : Nat) (k : Group) : (s.setGroup g k).scanHold = s.scanHold := rfl
@[simp] theorem State.setGroup_tapIr (s : State) (g : Nat) (k : Group) : (s.setGroup g k).tapIr = s.tapIr := rfl
@[simp] theorem State.setGroup_boundary (s : State) (g : Nat) (k : Group) : (s.setGroup g k).boundary = s.boundary := rfl
@[simp] theorem State.setGroup_pings (s : State) (g : Nat) (k : Group) : (s.setGroup g k).pings = s.pings := rfl
@[simp] theorem State.setGroup_pingSum (s : State) (g : Nat) (k : Group) : (s.setGroup g k).pingSum = s.pingSum := rfl
@[simp] theorem State.setGroup_startBegan (s : State) (g : Nat) (k : Group) : (s.setGroup g k).startBegan = s.startBegan := rfl
@[simp] theorem State.setGroup_rotAt (s : State) (g : Nat) (k : Group) : (s.setGroup g k).rotAt = s.rotAt := rfl
@[simp] theorem State.setGroup_warned (s : State) (g : Nat) (k : Group) : (s.setGroup g k).warned = s.warned := rfl
@[simp] theorem State.setGroup_dieUp (s : State) (g : Nat) (k : Group) : (s.setGroup g k).dieUp = s.dieUp := rfl
@[simp] theorem State.setGroup_freeCtr (s : State) (g : Nat) (k : Group) : (s.setGroup g k).freeCtr = s.freeCtr := rfl
@[simp] theorem State.setGroup_out (s : State) (g : Nat) (k : Group) : (s.setGroup g k).out = s.out := rfl

/-! drawn -/

@[simp] theorem State.drawn_pending (s : State) : (s.drawn).pending = s.pending := rfl
@[simp] theorem State.drawn_csr (s : State) : (s.drawn).csr = s.csr := rfl
@[simp] theorem State.drawn_staged (s : State) : (s.drawn).staged = s.staged := rfl
@[simp] theorem State.drawn_force (s : State) : (s.drawn).force = s.force := rfl
@[simp] theorem State.drawn_mem (s : State) : (s.drawn).mem = s.mem := rfl
@[simp] theorem State.drawn_dram (s : State) : (s.drawn).dram = s.dram := rfl
@[simp] theorem State.drawn_resOld (s : State) : (s.drawn).resOld = s.resOld := rfl
@[simp] theorem State.drawn_resPoison (s : State) : (s.drawn).resPoison = s.resPoison := rfl
@[simp] theorem State.drawn_poison (s : State) : (s.drawn).poison = s.poison := rfl
@[simp] theorem State.drawn_dramPoison (s : State) : (s.drawn).dramPoison = s.dramPoison := rfl
@[simp] theorem State.drawn_cores (s : State) : (s.drawn).cores = s.cores := rfl
@[simp] theorem State.drawn_groups (s : State) : (s.drawn).groups = s.groups := rfl
@[simp] theorem State.drawn_chkRetired (s : State) : (s.drawn).chkRetired = s.chkRetired := rfl
@[simp] theorem State.drawn_res (s : State) : (s.drawn).res = s.res := rfl
@[simp] theorem State.drawn_resPlru (s : State) : (s.drawn).resPlru = s.resPlru := rfl
@[simp] theorem State.drawn_resScrub (s : State) : (s.drawn).resScrub = s.resScrub := rfl
@[simp] theorem State.drawn_inReset (s : State) : (s.drawn).inReset = s.inReset := rfl
@[simp] theorem State.drawn_fallow (s : State) : (s.drawn).fallow = s.fallow := rfl
@[simp] theorem State.drawn_lanesIdle (s : State) : (s.drawn).lanesIdle = s.lanesIdle := rfl
@[simp] theorem State.drawn_fltWin (s : State) : (s.drawn).fltWin = s.fltWin := rfl
@[simp] theorem State.drawn_noticed (s : State) : (s.drawn).noticed = s.noticed := rfl
@[simp] theorem State.drawn_noticeHeld (s : State) : (s.drawn).noticeHeld = s.noticeHeld := rfl
@[simp] theorem State.drawn_sprNeeds (s : State) : (s.drawn).sprNeeds = s.sprNeeds := rfl
@[simp] theorem State.drawn_sprDeferred (s : State) : (s.drawn).sprDeferred = s.sprDeferred := rfl
@[simp] theorem State.drawn_repair (s : State) : (s.drawn).repair = s.repair := rfl
@[simp] theorem State.drawn_rowErrs (s : State) : (s.drawn).rowErrs = s.rowErrs := rfl
@[simp] theorem State.drawn_rowsUsed (s : State) : (s.drawn).rowsUsed = s.rowsUsed := rfl
@[simp] theorem State.drawn_scrubPos (s : State) : (s.drawn).scrubPos = s.scrubPos := rfl
@[simp] theorem State.drawn_subst (s : State) : (s.drawn).subst = s.subst := rfl
@[simp] theorem State.drawn_cisErrs (s : State) : (s.drawn).cisErrs = s.cisErrs := rfl
@[simp] theorem State.drawn_cisEnd (s : State) : (s.drawn).cisEnd = s.cisEnd := rfl
@[simp] theorem State.drawn_cisGrant (s : State) : (s.drawn).cisGrant = s.cisGrant := rfl
@[simp] theorem State.drawn_wipeAt (s : State) : (s.drawn).wipeAt = s.wipeAt := rfl
@[simp] theorem State.drawn_slots (s : State) : (s.drawn).slots = s.slots := rfl
@[simp] theorem State.drawn_kik (s : State) : (s.drawn).kik = s.kik := rfl
@[simp] theorem State.drawn_basins (s : State) : (s.drawn).basins = s.basins := rfl
@[simp] theorem State.drawn_basinQueue (s : State) : (s.drawn).basinQueue = s.basinQueue := rfl
@[simp] theorem State.drawn_flumeBuf (s : State) : (s.drawn).flumeBuf = s.flumeBuf := rfl
@[simp] theorem State.drawn_links (s : State) : (s.drawn).links = s.links := rfl
@[simp] theorem State.drawn_coeffs (s : State) : (s.drawn).coeffs = s.coeffs := rfl
@[simp] theorem State.drawn_inbox (s : State) : (s.drawn).inbox = s.inbox := rfl
@[simp] theorem State.drawn_live (s : State) : (s.drawn).live = s.live := rfl
@[simp] theorem State.drawn_sessions (s : State) : (s.drawn).sessions = s.sessions := rfl
@[simp] theorem State.drawn_sesImage (s : State) : (s.drawn).sesImage = s.sesImage := rfl
@[simp] theorem State.drawn_altImage (s : State) : (s.drawn).altImage = s.altImage := rfl
@[simp] theorem State.drawn_sesBusy (s : State) : (s.drawn).sesBusy = s.sesBusy := rfl
@[simp] theorem State.drawn_sesAddr (s : State) : (s.drawn).sesAddr = s.sesAddr := rfl
@[simp] theorem State.drawn_sesWait (s : State) : (s.drawn).sesWait = s.sesWait := rfl
@[simp] theorem State.drawn_tailProd (s : State) : (s.drawn).tailProd = s.tailProd := rfl
@[simp] theorem State.drawn_tailQueue (s : State) : (s.drawn).tailQueue = s.tailQueue := rfl
@[simp] theorem State.drawn_tailCons (s : State) : (s.drawn).tailCons = s.tailCons := rfl
@[simp] theorem State.drawn_coldDue (s : State) : (s.drawn).coldDue = s.coldDue := rfl
@[simp] theorem State.drawn_warmDue (s : State) : (s.drawn).warmDue = s.warmDue := rfl
@[simp] theorem State.drawn_upWait (s : State) : (s.drawn).upWait = s.upWait := rfl
@[simp] theorem State.drawn_sesInit (s : State) : (s.drawn).sesInit = s.sesInit := rfl
@[simp] theorem State.drawn_altInit (s : State) : (s.drawn).altInit = s.altInit := rfl
@[simp] theorem State.drawn_stageQueue (s : State) : (s.drawn).stageQueue = s.stageQueue := rfl
@[simp] theorem State.drawn_stageHeld (s : State) : (s.drawn).stageHeld = s.stageHeld := rfl
@[simp] theorem State.drawn_stageData (s : State) : (s.drawn).stageData = s.stageData := rfl
@[simp] theorem State.drawn_engines (s : State) : (s.drawn).engines = s.engines := rfl
@[simp] theorem State.drawn_cmpSession (s : State) : (s.drawn).cmpSession = s.cmpSession := rfl
@[simp] theorem State.drawn_cmpCore (s : State) : (s.drawn).cmpCore = s.cmpCore := rfl
@[simp] theorem State.drawn_cmpCoreNext (s : State) : (s.drawn).cmpCoreNext = s.cmpCoreNext := rfl
@[simp] theorem State.drawn_jobs (s : State) : (s.drawn).jobs = s.jobs := rfl
@[simp] theorem State.drawn_jobGen (s : State) : (s.drawn).jobGen = s.jobGen := rfl
@[simp] theorem State.drawn_xfers (s : State) : (s.drawn).xfers = s.xfers := rfl
@[simp] theorem State.drawn_resendLate (s : State) : (s.drawn).resendLate = s.resendLate := rfl
@[simp] theorem State.drawn_stalled (s : State) : (s.drawn).stalled = s.stalled := rfl
@[simp] theorem State.drawn_deficits (s : State) : (s.drawn).deficits = s.deficits := rfl
@[simp] theorem State.drawn_weightNew (s : State) : (s.drawn).weightNew = s.weightNew := rfl
@[simp] theorem State.drawn_issueQueue (s : State) : (s.drawn).issueQueue = s.issueQueue := rfl
@[simp] theorem State.drawn_iotlb (s : State) : (s.drawn).iotlb = s.iotlb := rfl
@[simp] theorem State.drawn_quiescing (s : State) : (s.drawn).quiescing = s.quiescing := rfl
@[simp] theorem State.drawn_altWait (s : State) : (s.drawn).altWait = s.altWait := rfl
@[simp] theorem State.drawn_keyWait (s : State) : (s.drawn).keyWait = s.keyWait := rfl
@[simp] theorem State.drawn_sluA (s : State) : (s.drawn).sluA = s.sluA := rfl
@[simp] theorem State.drawn_sluB (s : State) : (s.drawn).sluB = s.sluB := rfl
@[simp] theorem State.drawn_turnChange (s : State) : (s.drawn).turnChange = s.turnChange := rfl
@[simp] theorem State.drawn_swapHc (s : State) : (s.drawn).swapHc = s.swapHc := rfl
@[simp] theorem State.drawn_swapRetry (s : State) : (s.drawn).swapRetry = s.swapRetry := rfl
@[simp] theorem State.drawn_clkChange (s : State) : (s.drawn).clkChange = s.clkChange := rfl
@[simp] theorem State.drawn_clkFreq (s : State) : (s.drawn).clkFreq = s.clkFreq := rfl
@[simp] theorem State.drawn_clkDiv (s : State) : (s.drawn).clkDiv = s.clkDiv := rfl
@[simp] theorem State.drawn_clkWait (s : State) : (s.drawn).clkWait = s.clkWait := rfl
@[simp] theorem State.drawn_staggerOn (s : State) : (s.drawn).staggerOn = s.staggerOn := rfl
@[simp] theorem State.drawn_fastLow (s : State) : (s.drawn).fastLow = s.fastLow := rfl
@[simp] theorem State.drawn_slowLow (s : State) : (s.drawn).slowLow = s.slowLow := rfl
@[simp] theorem State.drawn_heatFloor (s : State) : (s.drawn).heatFloor = s.heatFloor := rfl
@[simp] theorem State.drawn_culvertsBroken (s : State) : (s.drawn).culvertsBroken = s.culvertsBroken := rfl
@[simp] theorem State.drawn_coreStore (s : State) : (s.drawn).coreStore = s.coreStore := rfl
@[simp] theorem State.drawn_sluStore (s : State) : (s.drawn).sluStore = s.sluStore := rfl
@[simp] theorem State.drawn_hwkStore (s : State) : (s.drawn).hwkStore = s.hwkStore := rfl
@[simp] theorem State.drawn_stagedImages (s : State) : (s.drawn).stagedImages = s.stagedImages := rfl
@[simp] theorem State.drawn_flumeStore (s : State) : (s.drawn).flumeStore = s.flumeStore := rfl
@[simp] theorem State.drawn_oemHash (s : State) : (s.drawn).oemHash = s.oemHash := rfl
@[simp] theorem State.drawn_svnRaises (s : State) : (s.drawn).svnRaises = s.svnRaises := rfl
@[simp] theorem State.drawn_startStage (s : State) : (s.drawn).startStage = s.startStage := rfl
@[simp] theorem State.drawn_imageIn (s : State) : (s.drawn).imageIn = s.imageIn := rfl
@[simp] theorem State.drawn_loopDone (s : State) : (s.drawn).loopDone = s.loopDone := rfl
@[simp] theorem State.drawn_loopFail (s : State) : (s.drawn).loopFail = s.loopFail := rfl
@[simp] theorem State.drawn_fullRate (s : State) : (s.drawn).fullRate = s.fullRate := rfl
@[simp] theorem State.drawn_trainBad (s : State) : (s.drawn).trainBad = s.trainBad := rfl
@[simp] theorem State.drawn_rateDue (s : State) : (s.drawn).rateDue = s.rateDue := rfl
@[simp] theorem State.drawn_fullLinks (s : State) : (s.drawn).fullLinks = s.fullLinks := rfl
@[simp] theorem State.drawn_prst (s : State) : (s.drawn).prst = s.prst := rfl
@[simp] theorem State.drawn_pwrLow (s : State) : (s.drawn).pwrLow = s.pwrLow := rfl
@[simp] theorem State.drawn_vinLow (s : State) : (s.drawn).vinLow = s.vinLow := rfl
@[simp] theorem State.drawn_tamper (s : State) : (s.drawn).tamper = s.tamper := rfl
@[simp] theorem State.drawn_bypass (s : State) : (s.drawn).bypass = s.bypass := rfl
@[simp] theorem State.drawn_badIslands (s : State) : (s.drawn).badIslands = s.badIslands := rfl
@[simp] theorem State.drawn_scanHold (s : State) : (s.drawn).scanHold = s.scanHold := rfl
@[simp] theorem State.drawn_tapIr (s : State) : (s.drawn).tapIr = s.tapIr := rfl
@[simp] theorem State.drawn_boundary (s : State) : (s.drawn).boundary = s.boundary := rfl
@[simp] theorem State.drawn_pings (s : State) : (s.drawn).pings = s.pings := rfl
@[simp] theorem State.drawn_pingSum (s : State) : (s.drawn).pingSum = s.pingSum := rfl
@[simp] theorem State.drawn_startBegan (s : State) : (s.drawn).startBegan = s.startBegan := rfl
@[simp] theorem State.drawn_rotAt (s : State) : (s.drawn).rotAt = s.rotAt := rfl
@[simp] theorem State.drawn_warned (s : State) : (s.drawn).warned = s.warned := rfl
@[simp] theorem State.drawn_dieUp (s : State) : (s.drawn).dieUp = s.dieUp := rfl
@[simp] theorem State.drawn_freeCtr (s : State) : (s.drawn).freeCtr = s.freeCtr + 1 := rfl
@[simp] theorem State.drawn_out (s : State) : (s.drawn).out = s.out := rfl

/-! send -/

@[simp] theorem State.send_pending (s : State) (o : Output) : (s.send o).pending = s.pending := rfl
@[simp] theorem State.send_csr (s : State) (o : Output) : (s.send o).csr = s.csr := rfl
@[simp] theorem State.send_staged (s : State) (o : Output) : (s.send o).staged = s.staged := rfl
@[simp] theorem State.send_force (s : State) (o : Output) : (s.send o).force = s.force := rfl
@[simp] theorem State.send_mem (s : State) (o : Output) : (s.send o).mem = s.mem := rfl
@[simp] theorem State.send_dram (s : State) (o : Output) : (s.send o).dram = s.dram := rfl
@[simp] theorem State.send_resOld (s : State) (o : Output) : (s.send o).resOld = s.resOld := rfl
@[simp] theorem State.send_resPoison (s : State) (o : Output) : (s.send o).resPoison = s.resPoison := rfl
@[simp] theorem State.send_poison (s : State) (o : Output) : (s.send o).poison = s.poison := rfl
@[simp] theorem State.send_dramPoison (s : State) (o : Output) : (s.send o).dramPoison = s.dramPoison := rfl
@[simp] theorem State.send_cores (s : State) (o : Output) : (s.send o).cores = s.cores := rfl
@[simp] theorem State.send_groups (s : State) (o : Output) : (s.send o).groups = s.groups := rfl
@[simp] theorem State.send_chkRetired (s : State) (o : Output) : (s.send o).chkRetired = s.chkRetired := rfl
@[simp] theorem State.send_res (s : State) (o : Output) : (s.send o).res = s.res := rfl
@[simp] theorem State.send_resPlru (s : State) (o : Output) : (s.send o).resPlru = s.resPlru := rfl
@[simp] theorem State.send_resScrub (s : State) (o : Output) : (s.send o).resScrub = s.resScrub := rfl
@[simp] theorem State.send_inReset (s : State) (o : Output) : (s.send o).inReset = s.inReset := rfl
@[simp] theorem State.send_fallow (s : State) (o : Output) : (s.send o).fallow = s.fallow := rfl
@[simp] theorem State.send_lanesIdle (s : State) (o : Output) : (s.send o).lanesIdle = s.lanesIdle := rfl
@[simp] theorem State.send_fltWin (s : State) (o : Output) : (s.send o).fltWin = s.fltWin := rfl
@[simp] theorem State.send_noticed (s : State) (o : Output) : (s.send o).noticed = s.noticed := rfl
@[simp] theorem State.send_noticeHeld (s : State) (o : Output) : (s.send o).noticeHeld = s.noticeHeld := rfl
@[simp] theorem State.send_sprNeeds (s : State) (o : Output) : (s.send o).sprNeeds = s.sprNeeds := rfl
@[simp] theorem State.send_sprDeferred (s : State) (o : Output) : (s.send o).sprDeferred = s.sprDeferred := rfl
@[simp] theorem State.send_repair (s : State) (o : Output) : (s.send o).repair = s.repair := rfl
@[simp] theorem State.send_rowErrs (s : State) (o : Output) : (s.send o).rowErrs = s.rowErrs := rfl
@[simp] theorem State.send_rowsUsed (s : State) (o : Output) : (s.send o).rowsUsed = s.rowsUsed := rfl
@[simp] theorem State.send_scrubPos (s : State) (o : Output) : (s.send o).scrubPos = s.scrubPos := rfl
@[simp] theorem State.send_subst (s : State) (o : Output) : (s.send o).subst = s.subst := rfl
@[simp] theorem State.send_cisErrs (s : State) (o : Output) : (s.send o).cisErrs = s.cisErrs := rfl
@[simp] theorem State.send_cisEnd (s : State) (o : Output) : (s.send o).cisEnd = s.cisEnd := rfl
@[simp] theorem State.send_cisGrant (s : State) (o : Output) : (s.send o).cisGrant = s.cisGrant := rfl
@[simp] theorem State.send_wipeAt (s : State) (o : Output) : (s.send o).wipeAt = s.wipeAt := rfl
@[simp] theorem State.send_slots (s : State) (o : Output) : (s.send o).slots = s.slots := rfl
@[simp] theorem State.send_kik (s : State) (o : Output) : (s.send o).kik = s.kik := rfl
@[simp] theorem State.send_basins (s : State) (o : Output) : (s.send o).basins = s.basins := rfl
@[simp] theorem State.send_basinQueue (s : State) (o : Output) : (s.send o).basinQueue = s.basinQueue := rfl
@[simp] theorem State.send_flumeBuf (s : State) (o : Output) : (s.send o).flumeBuf = s.flumeBuf := rfl
@[simp] theorem State.send_links (s : State) (o : Output) : (s.send o).links = s.links := rfl
@[simp] theorem State.send_coeffs (s : State) (o : Output) : (s.send o).coeffs = s.coeffs := rfl
@[simp] theorem State.send_inbox (s : State) (o : Output) : (s.send o).inbox = s.inbox := rfl
@[simp] theorem State.send_live (s : State) (o : Output) : (s.send o).live = s.live := rfl
@[simp] theorem State.send_sessions (s : State) (o : Output) : (s.send o).sessions = s.sessions := rfl
@[simp] theorem State.send_sesImage (s : State) (o : Output) : (s.send o).sesImage = s.sesImage := rfl
@[simp] theorem State.send_altImage (s : State) (o : Output) : (s.send o).altImage = s.altImage := rfl
@[simp] theorem State.send_sesBusy (s : State) (o : Output) : (s.send o).sesBusy = s.sesBusy := rfl
@[simp] theorem State.send_sesAddr (s : State) (o : Output) : (s.send o).sesAddr = s.sesAddr := rfl
@[simp] theorem State.send_sesWait (s : State) (o : Output) : (s.send o).sesWait = s.sesWait := rfl
@[simp] theorem State.send_tailProd (s : State) (o : Output) : (s.send o).tailProd = s.tailProd := rfl
@[simp] theorem State.send_tailQueue (s : State) (o : Output) : (s.send o).tailQueue = s.tailQueue := rfl
@[simp] theorem State.send_tailCons (s : State) (o : Output) : (s.send o).tailCons = s.tailCons := rfl
@[simp] theorem State.send_coldDue (s : State) (o : Output) : (s.send o).coldDue = s.coldDue := rfl
@[simp] theorem State.send_warmDue (s : State) (o : Output) : (s.send o).warmDue = s.warmDue := rfl
@[simp] theorem State.send_upWait (s : State) (o : Output) : (s.send o).upWait = s.upWait := rfl
@[simp] theorem State.send_sesInit (s : State) (o : Output) : (s.send o).sesInit = s.sesInit := rfl
@[simp] theorem State.send_altInit (s : State) (o : Output) : (s.send o).altInit = s.altInit := rfl
@[simp] theorem State.send_stageQueue (s : State) (o : Output) : (s.send o).stageQueue = s.stageQueue := rfl
@[simp] theorem State.send_stageHeld (s : State) (o : Output) : (s.send o).stageHeld = s.stageHeld := rfl
@[simp] theorem State.send_stageData (s : State) (o : Output) : (s.send o).stageData = s.stageData := rfl
@[simp] theorem State.send_engines (s : State) (o : Output) : (s.send o).engines = s.engines := rfl
@[simp] theorem State.send_cmpSession (s : State) (o : Output) : (s.send o).cmpSession = s.cmpSession := rfl
@[simp] theorem State.send_cmpCore (s : State) (o : Output) : (s.send o).cmpCore = s.cmpCore := rfl
@[simp] theorem State.send_cmpCoreNext (s : State) (o : Output) : (s.send o).cmpCoreNext = s.cmpCoreNext := rfl
@[simp] theorem State.send_jobs (s : State) (o : Output) : (s.send o).jobs = s.jobs := rfl
@[simp] theorem State.send_jobGen (s : State) (o : Output) : (s.send o).jobGen = s.jobGen := rfl
@[simp] theorem State.send_xfers (s : State) (o : Output) : (s.send o).xfers = s.xfers := rfl
@[simp] theorem State.send_resendLate (s : State) (o : Output) : (s.send o).resendLate = s.resendLate := rfl
@[simp] theorem State.send_stalled (s : State) (o : Output) : (s.send o).stalled = s.stalled := rfl
@[simp] theorem State.send_deficits (s : State) (o : Output) : (s.send o).deficits = s.deficits := rfl
@[simp] theorem State.send_weightNew (s : State) (o : Output) : (s.send o).weightNew = s.weightNew := rfl
@[simp] theorem State.send_issueQueue (s : State) (o : Output) : (s.send o).issueQueue = s.issueQueue := rfl
@[simp] theorem State.send_iotlb (s : State) (o : Output) : (s.send o).iotlb = s.iotlb := rfl
@[simp] theorem State.send_quiescing (s : State) (o : Output) : (s.send o).quiescing = s.quiescing := rfl
@[simp] theorem State.send_altWait (s : State) (o : Output) : (s.send o).altWait = s.altWait := rfl
@[simp] theorem State.send_keyWait (s : State) (o : Output) : (s.send o).keyWait = s.keyWait := rfl
@[simp] theorem State.send_sluA (s : State) (o : Output) : (s.send o).sluA = s.sluA := rfl
@[simp] theorem State.send_sluB (s : State) (o : Output) : (s.send o).sluB = s.sluB := rfl
@[simp] theorem State.send_turnChange (s : State) (o : Output) : (s.send o).turnChange = s.turnChange := rfl
@[simp] theorem State.send_swapHc (s : State) (o : Output) : (s.send o).swapHc = s.swapHc := rfl
@[simp] theorem State.send_swapRetry (s : State) (o : Output) : (s.send o).swapRetry = s.swapRetry := rfl
@[simp] theorem State.send_clkChange (s : State) (o : Output) : (s.send o).clkChange = s.clkChange := rfl
@[simp] theorem State.send_clkFreq (s : State) (o : Output) : (s.send o).clkFreq = s.clkFreq := rfl
@[simp] theorem State.send_clkDiv (s : State) (o : Output) : (s.send o).clkDiv = s.clkDiv := rfl
@[simp] theorem State.send_clkWait (s : State) (o : Output) : (s.send o).clkWait = s.clkWait := rfl
@[simp] theorem State.send_staggerOn (s : State) (o : Output) : (s.send o).staggerOn = s.staggerOn := rfl
@[simp] theorem State.send_fastLow (s : State) (o : Output) : (s.send o).fastLow = s.fastLow := rfl
@[simp] theorem State.send_slowLow (s : State) (o : Output) : (s.send o).slowLow = s.slowLow := rfl
@[simp] theorem State.send_heatFloor (s : State) (o : Output) : (s.send o).heatFloor = s.heatFloor := rfl
@[simp] theorem State.send_culvertsBroken (s : State) (o : Output) : (s.send o).culvertsBroken = s.culvertsBroken := rfl
@[simp] theorem State.send_coreStore (s : State) (o : Output) : (s.send o).coreStore = s.coreStore := rfl
@[simp] theorem State.send_sluStore (s : State) (o : Output) : (s.send o).sluStore = s.sluStore := rfl
@[simp] theorem State.send_hwkStore (s : State) (o : Output) : (s.send o).hwkStore = s.hwkStore := rfl
@[simp] theorem State.send_stagedImages (s : State) (o : Output) : (s.send o).stagedImages = s.stagedImages := rfl
@[simp] theorem State.send_flumeStore (s : State) (o : Output) : (s.send o).flumeStore = s.flumeStore := rfl
@[simp] theorem State.send_oemHash (s : State) (o : Output) : (s.send o).oemHash = s.oemHash := rfl
@[simp] theorem State.send_svnRaises (s : State) (o : Output) : (s.send o).svnRaises = s.svnRaises := rfl
@[simp] theorem State.send_startStage (s : State) (o : Output) : (s.send o).startStage = s.startStage := rfl
@[simp] theorem State.send_imageIn (s : State) (o : Output) : (s.send o).imageIn = s.imageIn := rfl
@[simp] theorem State.send_loopDone (s : State) (o : Output) : (s.send o).loopDone = s.loopDone := rfl
@[simp] theorem State.send_loopFail (s : State) (o : Output) : (s.send o).loopFail = s.loopFail := rfl
@[simp] theorem State.send_fullRate (s : State) (o : Output) : (s.send o).fullRate = s.fullRate := rfl
@[simp] theorem State.send_trainBad (s : State) (o : Output) : (s.send o).trainBad = s.trainBad := rfl
@[simp] theorem State.send_rateDue (s : State) (o : Output) : (s.send o).rateDue = s.rateDue := rfl
@[simp] theorem State.send_fullLinks (s : State) (o : Output) : (s.send o).fullLinks = s.fullLinks := rfl
@[simp] theorem State.send_prst (s : State) (o : Output) : (s.send o).prst = s.prst := rfl
@[simp] theorem State.send_pwrLow (s : State) (o : Output) : (s.send o).pwrLow = s.pwrLow := rfl
@[simp] theorem State.send_vinLow (s : State) (o : Output) : (s.send o).vinLow = s.vinLow := rfl
@[simp] theorem State.send_tamper (s : State) (o : Output) : (s.send o).tamper = s.tamper := rfl
@[simp] theorem State.send_bypass (s : State) (o : Output) : (s.send o).bypass = s.bypass := rfl
@[simp] theorem State.send_badIslands (s : State) (o : Output) : (s.send o).badIslands = s.badIslands := rfl
@[simp] theorem State.send_scanHold (s : State) (o : Output) : (s.send o).scanHold = s.scanHold := rfl
@[simp] theorem State.send_tapIr (s : State) (o : Output) : (s.send o).tapIr = s.tapIr := rfl
@[simp] theorem State.send_boundary (s : State) (o : Output) : (s.send o).boundary = s.boundary := rfl
@[simp] theorem State.send_pings (s : State) (o : Output) : (s.send o).pings = s.pings := rfl
@[simp] theorem State.send_pingSum (s : State) (o : Output) : (s.send o).pingSum = s.pingSum := rfl
@[simp] theorem State.send_startBegan (s : State) (o : Output) : (s.send o).startBegan = s.startBegan := rfl
@[simp] theorem State.send_rotAt (s : State) (o : Output) : (s.send o).rotAt = s.rotAt := rfl
@[simp] theorem State.send_warned (s : State) (o : Output) : (s.send o).warned = s.warned := rfl
@[simp] theorem State.send_dieUp (s : State) (o : Output) : (s.send o).dieUp = s.dieUp := rfl
@[simp] theorem State.send_freeCtr (s : State) (o : Output) : (s.send o).freeCtr = s.freeCtr := rfl
@[simp] theorem State.send_out (s : State) (o : Output) : (s.send o).out = o :: s.out := rfl

end Sys2Proof.Machine
end

