-- ==== Sys2Proof/Laws/Table.lean ====
section
/-!
SUPPORT. Sparse tables: reading after writing, and the rising order of keys.
-/

namespace Sys2Proof

variable {α : Type}

@[simp] theorem Table.find_nil (n : Nat) : Table.find ([] : Table α) n = none := rfl

/-- A key reads what was put there. -/
@[simp] theorem Table.find_put_self (t : Table α) (n : Nat) (v : α) : (t.put n v).find n = some v := by
  induction t with
  | nil => simp [Table.put, Table.find]
  | cons e t ih =>
    obtain ⟨k, w⟩ := e
    simp only [Table.put]
    split
    · simp [Table.find]
    · split
      · simp [Table.find]
      · rename_i h1 h2
        have h3 : ¬ k = n := fun h => h2 h.symm
        simp [Table.find, h3, ih]

/-- Another key reads as before. -/
theorem Table.find_put_ne (t : Table α) (n m : Nat) (v : α) (h : m ≠ n) : (t.put n v).find m = t.find m := by
  induction t with
  | nil => simp [Table.put, Table.find, h.symm]
  | cons e t ih =>
    obtain ⟨k, w⟩ := e
    simp only [Table.put]
    split
    · simp [Table.find, h.symm]
    · split
      · rename_i h1 h2
        subst h2
        simp [Table.find, h.symm]
      · simp [Table.find, ih]

@[simp] theorem Table.get_put_self (t : Table α) (d : α) (n : Nat) (v : α) : (t.put n v).get d n = v := by
  simp [Table.get]

theorem Table.get_put_ne (t : Table α) (d : α) (n m : Nat) (v : α) (h : m ≠ n) : (t.put n v).get d m = t.get d m := by
  simp [Table.get, Table.find_put_ne _ _ _ _ h]

/-- The second of two writes at one key stands. -/
@[simp] theorem Table.put_put (t : Table α) (n : Nat) (v w : α) : (t.put n v).put n w = t.put n w := by
  induction t with
  | nil => simp [Table.put]
  | cons e t ih =>
    obtain ⟨k, x⟩ := e
    simp only [Table.put]
    split
    · simp [Table.put]
    · split
      · simp [Table.put]
      · rename_i h1 h2
        simp [Table.put, h1, h2, ih]

/-- Writes at two keys commute. -/
theorem Table.put_comm (t : Table α) (n m : Nat) (v w : α) (h : n ≠ m) :
    (t.put n v).put m w = (t.put m w).put n v := by
  induction t with
  | nil =>
    rcases Nat.lt_or_gt_of_ne h with h1 | h1
    · have h2 : ¬ m < n := by omega
      have h3 : ¬ m = n := by omega
      simp [Table.put, h1, h2, h3]
    · have h2 : ¬ n < m := by omega
      simp [Table.put, h1, h2, h]
  | cons e t ih =>
    obtain ⟨k, x⟩ := e
    rcases Nat.lt_trichotomy n k with h1 | h1 | h1 <;> rcases Nat.lt_trichotomy m k with h2 | h2 | h2 <;>
      rcases Nat.lt_or_gt_of_ne h with h3 | h3 <;>
      simp_all [Table.put, Nat.lt_asymm, Nat.ne_of_gt, Nat.ne_of_lt] <;> omega

/-- Every key of a table lies above a bound. -/
def Table.above (b : Nat) (t : Table α) : Prop := ∀ e ∈ t, b < e.1

theorem Table.sorted_cons (k : Nat) (v : α) (t : Table α) :
    Table.sorted ((k, v) :: t) = true ↔ Table.above k t ∧ Table.sorted t = true := by
  induction t generalizing k v with
  | nil => simp [Table.sorted, Table.above]
  | cons e t ih =>
    obtain ⟨j, w⟩ := e
    rw [Table.sorted, Bool.and_eq_true, decide_eq_true_eq]
    constructor
    · rintro ⟨h1, h2⟩
      have h3 := (ih j w).mp h2
      refine ⟨?_, h2⟩
      intro e he
      rcases List.mem_cons.mp he with rfl | he
      · exact h1
      · exact Nat.lt_trans h1 (h3.1 e he)
    · rintro ⟨h1, h2⟩
      exact ⟨h1 (j, w) (List.mem_cons_self ..), h2⟩

theorem Table.mem_put (t : Table α) (n : Nat) (v : α) (e : Nat × α) (h : e ∈ t.put n v) : e = (n, v) ∨ e ∈ t := by
  induction t with
  | nil => simpa [Table.put] using h
  | cons f t ih =>
    obtain ⟨k, w⟩ := f
    simp only [Table.put] at h
    split at h
    · rcases List.mem_cons.mp h with h | h
      · exact .inl h
      · exact .inr h
    · split at h
      · rcases List.mem_cons.mp h with h | h
        · exact .inl h
        · exact .inr (List.mem_cons_of_mem _ h)
      · rcases List.mem_cons.mp h with h | h
        · exact .inr (by rw [h]; exact List.mem_cons_self ..)
        · rcases ih h with h | h
          · exact .inl h
          · exact .inr (List.mem_cons_of_mem _ h)

/-- Putting an entry keeps the keys rising. -/
theorem Table.sorted_put (t : Table α) (n : Nat) (v : α) (h : Table.sorted t = true) : Table.sorted (t.put n v) = true := by
  induction t with
  | nil => simp [Table.put, Table.sorted]
  | cons e t ih =>
    obtain ⟨k, w⟩ := e
    have hk := (Table.sorted_cons k w t).mp h
    simp only [Table.put]
    split
    · rename_i h1
      refine (Table.sorted_cons n v _).mpr ⟨?_, h⟩
      intro e he
      rcases List.mem_cons.mp he with rfl | he
      · exact h1
      · exact Nat.lt_trans h1 (hk.1 e he)
    · split
      · rename_i h1 h2
        subst h2
        exact (Table.sorted_cons n v t).mpr ⟨hk.1, hk.2⟩
      · rename_i h1 h2
        refine (Table.sorted_cons k w _).mpr ⟨?_, ih hk.2⟩
        intro e he
        rcases Table.mem_put t n v e he with rfl | he
        · show k < n
          omega
        · exact hk.1 e he

/-- Taking entries out keeps the keys rising. -/
theorem Table.sorted_filter (t : Table α) (p : Nat × α → Bool) (h : Table.sorted t = true) :
    Table.sorted (t.filter p : Table α) = true := by
  induction t with
  | nil => rfl
  | cons e t ih =>
    obtain ⟨k, w⟩ := e
    have hk := (Table.sorted_cons k w t).mp h
    by_cases hp : p (k, w)
    · rw [List.filter_cons_of_pos hp]
      exact (Table.sorted_cons k w _).mpr ⟨fun e he => hk.1 e (List.mem_filter.mp he).1, ih hk.2⟩
    · rw [List.filter_cons_of_neg hp]
      exact ih hk.2

/-- The entries of a key gone, it reads as unlisted. -/
@[simp] theorem Table.find_erase_self (t : Table α) (n : Nat) : (t.erase n).find n = none := by
  induction t with
  | nil => rfl
  | cons e t ih =>
    obtain ⟨k, w⟩ := e
    by_cases h : k = n
    · subst h
      simpa [Table.erase, Table.find] using ih
    · simp only [Table.erase] at ih
      simp [Table.erase, Table.find, h, ih]

theorem Table.find_erase_ne (t : Table α) (n m : Nat) (h : m ≠ n) : (t.erase n).find m = t.find m := by
  induction t with
  | nil => rfl
  | cons e t ih =>
    obtain ⟨k, w⟩ := e
    simp only [Table.erase] at ih
    by_cases h1 : k = n
    · subst h1
      simp [Table.erase, Table.find, h.symm, ih]
    · have h3 : ((k, w) :: t : Table α).filter (fun e => e.1 != n) = (k, w) :: t.filter (fun e => e.1 != n) := by simp [h1]
      simp only [Table.erase, h3, Table.find, ih]

end Sys2Proof
end

