-- ==== Sys2Proof/Laws/Ops.lean ====
section
/-!
SUPPORT. The named operations: what reading gives after each write, of CSRs, cores, groups, ports and memory, and the canonical
form of memory.
-/

namespace Sys2Proof.Machine
open Sys2Proof

/-! CSRs -/

@[simp] theorem State.rd_wr_self (s : State) (a : Nat) (v : Word) : (s.wr a v).rd a = v := by simp [State.rd]

theorem State.rd_wr_ne (s : State) (a b : Nat) (v : Word) (h : b ≠ a) : (s.wr a v).rd b = s.rd b := by
  simp [State.rd, Table.find_put_ne _ _ _ _ h]

@[simp] theorem State.rd_setCore (s : State) (c : Nat) (k : Core) (a : Nat) : (s.setCore c k).rd a = s.rd a := rfl
@[simp] theorem State.rd_setGroup (s : State) (g : Nat) (k : Group) (a : Nat) : (s.setGroup g k).rd a = s.rd a := rfl
@[simp] theorem State.rd_drawn (s : State) (a : Nat) : s.drawn.rd a = s.rd a := rfl
@[simp] theorem State.rd_send (s : State) (o : Output) (a : Nat) : (s.send o).rd a = s.rd a := rfl
@[simp] theorem State.fld_setCore (s : State) (c : Nat) (k : Core) (a : Nat) (f : Fld) : (s.setCore c k).fld a f = s.fld a f := rfl
@[simp] theorem State.fld_setGroup (s : State) (g : Nat) (k : Group) (a : Nat) (f : Fld) : (s.setGroup g k).fld a f = s.fld a f := rfl
@[simp] theorem State.fld_drawn (s : State) (a : Nat) (f : Fld) : s.drawn.fld a f = s.fld a f := rfl
@[simp] theorem State.fld_send (s : State) (o : Output) (a : Nat) (f : Fld) : (s.send o).fld a f = s.fld a f := rfl
@[simp] theorem State.flag_setCore (s : State) (c : Nat) (k : Core) (a : Nat) (f : Fld) : (s.setCore c k).flag a f = s.flag a f := rfl
@[simp] theorem State.role_setCore (s : State) (c : Nat) (k : Core) (d : Nat) : (s.setCore c k).role d = s.role d := rfl
@[simp] theorem State.groupOf_setCore (s : State) (c : Nat) (k : Core) (d : Nat) : (s.setCore c k).groupOf d = s.groupOf d := rfl
@[simp] theorem State.islandRuns_setCore (s : State) (c : Nat) (k : Core) (i : Nat) :
    (s.setCore c k).islandRuns i = s.islandRuns i := rfl

/-- A field reads what it was set to, as far as it is wide. -/
theorem State.fld_setF (s : State) (a : Nat) (f : Fld) (v : Nat) (h : f.lo + f.w ≤ 64) :
    (s.setF a f v).fld a f = v % 2 ^ f.w := by
  simp [State.fld, State.setF, Fld.get_set _ _ _ h]

/-- Another field of the same register reads as before. -/
theorem State.fld_setF_apart (s : State) (a : Nat) (f g : Fld) (v : Nat) (h : f.lo + f.w ≤ g.lo ∨ g.lo + g.w ≤ f.lo) :
    (s.setF a g v).fld a f = s.fld a f := by
  simp [State.fld, State.setF, Fld.get_set_apart _ _ _ _ h]

/-- A field of another register reads as before. -/
theorem State.fld_setF_ne (s : State) (a b : Nat) (f g : Fld) (v : Nat) (h : b ≠ a) : (s.setF a g v).fld b f = s.fld b f := by
  simp [State.fld, State.setF, State.rd_wr_ne _ _ _ _ h]

theorem State.fld_wr_ne (s : State) (a b : Nat) (f : Fld) (v : Word) (h : b ≠ a) : (s.wr a v).fld b f = s.fld b f := by
  simp [State.fld, State.rd_wr_ne _ _ _ _ h]

@[simp] theorem State.fld_wr_self (s : State) (a : Nat) (f : Fld) (v : Word) : (s.wr a v).fld a f = f.get v := by
  simp [State.fld]

/-! Cores, groups and ports -/

@[simp] theorem State.core_setCore_self (s : State) (c : Nat) (k : Core) : (s.setCore c k).core c = k := by simp [State.core]

theorem State.core_setCore_ne (s : State) (c d : Nat) (k : Core) (h : d ≠ c) : (s.setCore c k).core d = s.core d := by
  simp [State.core, Table.get_put_ne _ _ _ _ _ h]

@[simp] theorem State.core_wr (s : State) (a : Nat) (v : Word) (c : Nat) : (s.wr a v).core c = s.core c := rfl
@[simp] theorem State.core_setGroup (s : State) (g : Nat) (k : Group) (c : Nat) : (s.setGroup g k).core c = s.core c := rfl
@[simp] theorem State.core_drawn (s : State) (c : Nat) : s.drawn.core c = s.core c := rfl
@[simp] theorem State.core_send (s : State) (o : Output) (c : Nat) : (s.send o).core c = s.core c := rfl
@[simp] theorem State.group_setGroup_self (s : State) (g : Nat) (k : Group) : (s.setGroup g k).group g = k := by simp [State.group]
@[simp] theorem State.group_setCore (s : State) (c : Nat) (k : Core) (g : Nat) : (s.setCore c k).group g = s.group g := rfl
@[simp] theorem State.group_wr (s : State) (a : Nat) (v : Word) (g : Nat) : (s.wr a v).group g = s.group g := rfl

/-- The second of two changes of one core stands. -/
@[simp] theorem State.setCore_setCore (s : State) (c : Nat) (k j : Core) : (s.setCore c k).setCore c j = s.setCore c j := by
  simp [State.setCore]

@[simp] theorem State.core_modCore_self (s : State) (c : Nat) (f : Core → Core) : (s.modCore c f).core c = f (s.core c) := by
  simp [State.modCore]

theorem State.core_modCore_ne (s : State) (c d : Nat) (f : Core → Core) (h : d ≠ c) : (s.modCore c f).core d = s.core d := by
  simp [State.modCore, State.core_setCore_ne _ _ _ _ h]

@[simp] theorem State.modCore_modCore (s : State) (c : Nat) (f g : Core → Core) :
    (s.modCore c f).modCore c g = s.modCore c (fun k => g (f k)) := by
  simp [State.modCore]

@[simp] theorem Core.port_setPort_self (k : Core) (p : Nat) (v : Word) : (k.setPort p v).port p = v := by
  simp [Core.port, Core.setPort]

theorem Core.port_setPort_ne (k : Core) (p q : Nat) (v : Word) (h : q ≠ p) : (k.setPort p v).port q = k.port q := by
  simp [Core.port, Core.setPort, Table.find_put_ne _ _ _ _ h]

@[simp] theorem Core.setPorts_nil (k : Core) : k.setPorts [] = k := rfl
@[simp] theorem Core.setPorts_cons (k : Core) (e : Nat × Word) (l : List (Nat × Word)) :
    k.setPorts (e :: l) = (k.setPort e.1 e.2).setPorts l := rfl

/-- Ports that none of the writes names read as before. -/
theorem Core.port_setPorts_ne (k : Core) (l : List (Nat × Word)) (q : Nat) (h : ∀ e ∈ l, e.1 ≠ q) :
    (k.setPorts l).port q = k.port q := by
  induction l generalizing k with
  | nil => rfl
  | cons e l ih =>
    rw [Core.setPorts_cons, ih _ (fun x hx => h x (List.mem_cons_of_mem _ hx)),
      Core.port_setPort_ne _ _ _ _ (h e (List.mem_cons_self ..)).symm]

/-! Memory -/

/-- The byte stored is read back. -/
@[simp] theorem memGet_memPut_self (m : List Host.Cell) (a : Nat) (b : Byte) : memGet (memPut m a b) a = b := by
  unfold memGet memPut
  split
  · rename_i h
    have : Table.find (Table.erase m a) a = none := Table.find_erase_self m a
    simp [Table.get, this, h]
  · exact Table.get_put_self (α := Byte) m 0 a b

/-- Every other byte reads as before. -/
theorem memGet_memPut_ne (m : List Host.Cell) (a x : Nat) (b : Byte) (h : x ≠ a) : memGet (memPut m a b) x = memGet m x := by
  unfold memGet memPut
  split
  · have : Table.find (Table.erase m a) x = Table.find m x := Table.find_erase_ne m a x h
    simp [Table.get, this]
  · exact Table.get_put_ne (α := Byte) m 0 a x b h

/-- Bytes outside those stored read as before. -/
theorem memGet_memPutList_out (m : List Host.Cell) (a x : Nat) (l : List Byte) (h : x < a ∨ a + l.length ≤ x) :
    memGet (memPutList m a l) x = memGet m x := by
  induction l generalizing m a with
  | nil => rfl
  | cons b t ih =>
    simp only [List.length_cons] at h
    rw [memPutList, ih (memPut m a b) (a + 1) (by omega), memGet_memPut_ne _ _ _ _ (by omega)]

/-- The bytes stored are read back. -/
theorem memGet_memPutList_in (m : List Host.Cell) (a : Nat) (l : List Byte) (i : Nat) (h : i < l.length) :
    memGet (memPutList m a l) (a + i) = l[i] := by
  induction l generalizing m a i with
  | nil => simp at h
  | cons b t ih =>
    rw [memPutList]
    cases i with
    | zero => rw [Nat.add_zero, memGet_memPutList_out _ _ _ _ (by omega)]; simp
    | succ i =>
      simp only [List.length_cons] at h
      have := ih (memPut m a b) (a + 1) i (by omega)
      rw [show a + (i + 1) = a + 1 + i by omega, this]
      simp

/-- The canonical form: rising addresses, no zero byte listed. -/
theorem Memory.wf_iff (m : List Host.Cell) :
    Memory.wf m = true ↔ Table.sorted (α := Byte) m = true ∧ ∀ c ∈ m, c.2 ≠ 0 := by
  induction m with
  | nil => simp [Memory.wf, Table.sorted]
  | cons c t ih =>
    obtain ⟨a, b⟩ := c
    cases t with
    | nil => simp [Memory.wf, Table.sorted]
    | cons d t =>
      obtain ⟨a', b'⟩ := d
      rw [Memory.wf, Bool.and_eq_true, Bool.and_eq_true, ih, Table.sorted, Bool.and_eq_true]
      simp only [bne_iff_ne, ne_eq, decide_eq_true_eq, List.mem_cons, forall_eq_or_imp]
      tauto

/-- Storing a byte keeps the canonical form. -/
theorem Memory.wf_memPut (m : List Host.Cell) (a : Nat) (b : Byte) (h : Memory.wf m = true) :
    Memory.wf (memPut m a b) = true := by
  obtain ⟨h1, h2⟩ := (Memory.wf_iff m).mp h
  unfold memPut
  split
  · exact (Memory.wf_iff _).mpr ⟨Table.sorted_filter _ _ h1, fun c hc => h2 c (List.mem_filter.mp hc).1⟩
  · rename_i h3
    refine (Memory.wf_iff _).mpr ⟨Table.sorted_put _ _ _ h1, fun c hc => ?_⟩
    rcases Table.mem_put _ _ _ _ hc with rfl | hc
    · exact h3
    · exact h2 c hc

/-- Storing bytes keeps the canonical form. -/
theorem Memory.wf_memPutList (m : List Host.Cell) (a : Nat) (l : List Byte) (h : Memory.wf m = true) :
    Memory.wf (memPutList m a l) = true := by
  induction l generalizing m a with
  | nil => exact h
  | cons b t ih => exact ih _ _ (Memory.wf_memPut m a b h)

/-- Zeroing a range keeps the canonical form. -/
theorem Memory.wf_memErase (m : List Host.Cell) (a n : Nat) (h : Memory.wf m = true) : Memory.wf (memErase m a n) = true := by
  obtain ⟨h1, h2⟩ := (Memory.wf_iff m).mp h
  exact (Memory.wf_iff _).mpr ⟨Table.sorted_filter _ _ h1, fun c hc => h2 c (List.mem_filter.mp hc).1⟩

/-- Putting back a list of bytes keeps the canonical form. -/
theorem Memory.wf_foldl (m : List Host.Cell) (l : List (Nat × Byte)) (h : Memory.wf m = true) :
    Memory.wf (l.foldl (fun m e => memPut m e.1 e.2) m) = true := by
  induction l generalizing m with
  | nil => exact h
  | cons e t ih => exact ih _ (Memory.wf_memPut _ _ _ h)

/-- The memory at reset has the canonical form. -/
theorem Memory.wf_reset : Memory.wf State.reset.mem = true := rfl

end Sys2Proof.Machine
end

