-- ==== Sys2Proof/Laws/Core.lean ====
section
/-!
SUPPORT. The fixed-latency units: what a trigger comes to.
-/

namespace Sys2Proof.Machine
open Sys2Proof Csr

theorem Core.setPorts_time (l : List (Nat × Word)) (k : Core) : (k.setPorts l).cc = k.cc ∧ (k.setPorts l).dist = k.dist := by
  induction l generalizing k with
  | nil => exact ⟨rfl, rfl⟩
  | cons e l ih => rw [Core.setPorts_cons]; exact ih _

theorem Core.result_time (k : Core) (p : Nat) (v : Word) (a : Option Nat) :
    (k.result p v a).cc = k.cc ∧ (k.result p v a).dist = k.dist := by
  unfold Core.result
  dsimp only
  split <;> exact ⟨rfl, rfl⟩

theorem Core.results_time (l : List (Nat × Word)) (a : Option Nat) (k : Core) :
    (l.foldl (fun k w => k.result w.1 w.2 a) k).cc = k.cc ∧ (l.foldl (fun k w => k.result w.1 w.2 a) k).dist = k.dist := by
  induction l generalizing k with
  | nil => exact ⟨rfl, rfl⟩
  | cons e l ih =>
    rw [List.foldl_cons, (ih _).1, (ih _).2]
    exact Core.result_time k e.1 e.2 a

theorem Core.complete_cc (k : Core) (o : Op) : (k.complete o).cc = k.cc ∧ (k.complete o).dist = k.dist := by
  unfold Core.complete Core.accrue
  by_cases h1 : o.flags = 0 <;> simp only [h1, if_true, if_false] <;> split <;> first
    | exact ⟨rfl, rfl⟩
    | (split <;> first | exact ⟨rfl, rfl⟩ | exact Core.results_time _ _ _)

theorem Core.reveal_time (k : Core) (n : Nat) : (k.reveal n).cc = k.cc ∧ (k.reveal n).dist = k.dist := by
  have h (l : List (Nat × List (Nat × Word))) (k : Core) :
      (l.foldl (fun k e => k.setPorts e.2) k).cc = k.cc ∧ (l.foldl (fun k e => k.setPorts e.2) k).dist = k.dist := by
    induction l generalizing k with
    | nil => exact ⟨rfl, rfl⟩
    | cons e l ih => rw [List.foldl_cons, (ih _).1, (ih _).2]; exact Core.setPorts_time _ _
  exact h _ _

/-- Completing operations takes no time. -/
theorem Core.settle_clock (k : Core) (n : Nat) : (k.settle n).cc = k.cc ∧ (k.settle n).dist = k.dist := by
  have h (l : List Op) (k : Core) : (l.foldl Core.complete k).cc = k.cc ∧ (l.foldl Core.complete k).dist = k.dist := by
    induction l generalizing k with
    | nil => exact ⟨rfl, rfl⟩
    | cons o l ih =>
      have := Core.complete_cc k o
      rw [List.foldl_cons, (ih _).1, (ih _).2]
      exact this
  unfold Core.settle
  rw [(Core.reveal_time _ _).1, (Core.reveal_time _ _).2]
  exact h _ _

theorem State.clock_setCore (s : State) (c : Nat) (k : Core) (h : k.cc = (s.core c).cc) : (s.setCore c k).clock c = s.clock c := by
  simp [State.clock, h]

theorem State.distance_setCore (s : State) (c : Nat) (k : Core) (h : k.dist = (s.core c).dist) :
    (s.setCore c k).distance c = s.distance c := by
  have hg : (s.setCore c k).groupOf c = s.groupOf c := rfl
  simp [State.distance, hg, h]

@[simp] theorem State.atBundle_core (s : State) (c : Nat) : (s.atBundle c).core c = s.settled c := by
  simp [State.atBundle, State.modCore, State.settled]

/-- A fixed-latency trigger on a core that may start it: its operation is in flight. -/
theorem State.trigFixed_go (s : State) (c p : Nat) (b : Word) (f : Fixed) (hr : s.ready c) (hu : unitThere c p)
    (hf : (s.settled c).fixed p b = some f) (hd : (s.settled c).divTraps p b = false) :
    s.trigFixed c p b = s.withOp c f.path p f.lat f.writes f.flags f.trap := by
  have hp : (portInfo (decide (80 ≤ c)) p).isNone = false := by
    unfold unitThere at hu
    cases h : portInfo (decide (80 ≤ c)) p with
    | none => simp [h] at hu
    | some _ => rfl
  have hc : (s.atBundle c).clock c = s.clock c := State.clock_setCore s c _ (Core.settle_clock _ _).1
  have hx : (s.atBundle c).distance c = s.distance c := State.distance_setCore s c _ (Core.settle_clock _ _).2
  have e : s.trigFixed c p b = if (s.atBundle c).boundaryClear c then
      if (portInfo (decide (80 ≤ c)) p).isNone then (s.atBundle c).raise c (plainExc 0x10 1 0)
      else if ((s.atBundle c).core c).divTraps p b then (s.atBundle c).raise c (plainExc 0x31 0 0)
      else (s.atBundle c).setCore c (((s.atBundle c).core c).startFixed p b ((s.atBundle c).clock c) ((s.atBundle c).distance c)
        (((s.atBundle c).core c).port 0x88))
    else s.atBundle c := rfl
  unfold State.ready at hr
  rw [e, hc, hx]
  simp only [hr, hp, State.atBundle_core, hd, Core.startFixed, hf, if_true, if_false, Bool.false_eq_true, State.withOp]
  simp [State.atBundle, State.modCore]

end Sys2Proof.Machine
end

