-- ==== Sys2Proof/Laws/PerInstr.lean ====
section
/-!
SUPPORT. One lemma per command about its syntax: which commands have an operand that can be out of range. Every other command is well
formed whatever its operands are, since their types hold exactly what the spec lets them be.
-/

namespace Sys2Proof.Laws.Wf

/-- The commands with an operand that the check looks at. -/
def Checked (i : Instr) : Prop :=
  (∃ code a b c, i = .faultEvent code a b c) ∨ (∃ code a, i = .startFail code a) ∨ (∃ n m, i = .frameWork n m)
  ∨ (∃ c l, i = .lateralWrite c l) ∨ (∃ op f, i = .headraceBadOp op f) ∨ ∃ m a w v, i = .csrRegisterWrite m a w v

/-- A command is well formed, or it is one whose operands are checked. -/
def Statement (i : Instr) : Prop := i.wf = true ∨ Checked i

theorem bundleIssue (c : CoreId) : Statement (.bundleIssue c) := Or.inl rfl
theorem branch (c : CoreId) (v : Word) (imm : Bool) : Statement (.branch c v imm) := Or.inl rfl
theorem trapReturn (c : CoreId) : Statement (.trapReturn c) := Or.inl rfl
theorem repeatPrefix (c : CoreId) (v : Word) : Statement (.repeatPrefix c v) := Or.inl rfl
theorem aluAddSub (c : CoreId) (u : Fin 4) (sub : Bool) (b : Word) : Statement (.aluAddSub c u sub b) := Or.inl rfl
theorem aluAddSubO (c : CoreId) (u : Fin 4) (sub : Bool) (b : Word) : Statement (.aluAddSubO c u sub b) := Or.inl rfl
theorem aluBitwise (c : CoreId) (u : Fin 4) (op : AluBit) (b : Word) : Statement (.aluBitwise c u op b) := Or.inl rfl
theorem aluMinMax (c : CoreId) (u : Fin 4) (op : AluMin) (b : Word) : Statement (.aluMinMax c u op b) := Or.inl rfl
theorem aluMov (c : CoreId) (u : Fin 4) (b : Word) : Statement (.aluMov c u b) := Or.inl rfl
theorem shShift (c : CoreId) (op : ShOp) (b : Word) : Statement (.shShift c op b) := Or.inl rfl
theorem shExtract (c : CoreId) (signed : Bool) (b : Word) : Statement (.shExtract c signed b) := Or.inl rfl
theorem shInsert (c : CoreId) (b : Word) : Statement (.shInsert c b) := Or.inl rfl
theorem shCount (c : CoreId) (op : ShCount) (b : Word) : Statement (.shCount c op b) := Or.inl rfl
theorem cmpCompare (c : CoreId) (op : CmpOp) (b : Word) : Statement (.cmpCompare c op b) := Or.inl rfl
theorem mul (c : CoreId) (op : MulOp) (b : Word) : Statement (.mul c op b) := Or.inl rfl
theorem mulO (c : CoreId) (b : Word) : Statement (.mulO c b) := Or.inl rfl
theorem divS (c : CoreId) (b : Word) : Statement (.divS c b) := Or.inl rfl
theorem divU (c : CoreId) (b : Word) : Statement (.divU c b) := Or.inl rfl
theorem fpAddSub (c : CoreId) (u : Fin 2) (f : Fmt) (sub : Bool) (b : Word) : Statement (.fpAddSub c u f sub b) := Or.inl rfl
theorem fpMul (c : CoreId) (u : Fin 2) (f : Fmt) (b : Word) : Statement (.fpMul c u f b) := Or.inl rfl
theorem fpFma (c : CoreId) (u : Fin 2) (f : Fmt) (neg : Bool) (b : Word) : Statement (.fpFma c u f neg b) := Or.inl rfl
theorem fpDiv (c : CoreId) (u : Fin 2) (f : Fmt) (b : Word) : Statement (.fpDiv c u f b) := Or.inl rfl
theorem fpSqrt (c : CoreId) (u : Fin 2) (f : Fmt) (b : Word) : Statement (.fpSqrt c u f b) := Or.inl rfl
theorem fpMinMax (c : CoreId) (u : Fin 2) (f : Fmt) (mx : Bool) (b : Word) : Statement (.fpMinMax c u f mx b) := Or.inl rfl
theorem fpCompare (c : CoreId) (u : Fin 2) (f : Fmt) (op : FpCmp) (b : Word) : Statement (.fpCompare c u f op b) := Or.inl rfl
theorem fpCvti (c : CoreId) (u : Fin 2) (f : Fmt) (b : Word) : Statement (.fpCvti c u f b) := Or.inl rfl
theorem fpCvtf (c : CoreId) (u : Fin 2) (f : Fmt) (b : Word) : Statement (.fpCvtf c u f b) := Or.inl rfl
theorem fpCvtx (c : CoreId) (u : Fin 2) (f : Fmt) (b : Word) : Statement (.fpCvtx c u f b) := Or.inl rfl
theorem decAddSub (c : CoreId) (sub : Bool) (b : Word) : Statement (.decAddSub c sub b) := Or.inl rfl
theorem decChk (c : CoreId) (b : Word) : Statement (.decChk c b) := Or.inl rfl
theorem operationComplete (c : CoreId) : Statement (.operationComplete c) := Or.inl rfl
theorem completionTrap (c : CoreId) : Statement (.completionTrap c) := Or.inl rfl
theorem lsuLoad (c : CoreId) (u : Fin 2) (op : LdOp) (b : Word) : Statement (.lsuLoad c u op b) := Or.inl rfl
theorem lsuStore (c : CoreId) (u : Fin 2) (op : StOp) (b : Word) : Statement (.lsuStore c u op b) := Or.inl rfl
theorem storePerformed (c : CoreId) : Statement (.storePerformed c) := Or.inl rfl
theorem loadDataArrival (c : CoreId) (p : BitVec 12) : Statement (.loadDataArrival c p) := Or.inl rfl
theorem issueStallEnd (c : CoreId) (n : BitVec 16) : Statement (.issueStallEnd c n) := Or.inl rfl
theorem atomCas64 (c : CoreId) (b : Word) : Statement (.atomCas64 c b) := Or.inl rfl
theorem atomSwp64 (c : CoreId) (b : Word) : Statement (.atomSwp64 c b) := Or.inl rfl
theorem atomAdd64 (c : CoreId) (b : Word) : Statement (.atomAdd64 c b) := Or.inl rfl
theorem atomAnd64 (c : CoreId) (b : Word) : Statement (.atomAnd64 c b) := Or.inl rfl
theorem atomOr64 (c : CoreId) (b : Word) : Statement (.atomOr64 c b) := Or.inl rfl
theorem atomCas128 (c : CoreId) (b : Word) : Statement (.atomCas128 c b) := Or.inl rfl
theorem atomFence (c : CoreId) (b : Word) : Statement (.atomFence c b) := Or.inl rfl
theorem fenceComplete (c : CoreId) : Statement (.fenceComplete c) := Or.inl rfl
theorem xltProbeR (c : CoreId) (b : Word) : Statement (.xltProbeR c b) := Or.inl rfl
theorem xltProbeW (c : CoreId) (b : Word) : Statement (.xltProbeW c b) := Or.inl rfl
theorem xltInvVa (c : CoreId) (b : Word) : Statement (.xltInvVa c b) := Or.inl rfl
theorem xltInvCtx (c : CoreId) (b : Word) : Statement (.xltInvCtx c b) := Or.inl rfl
theorem xltInvAll (c : CoreId) (b : Word) : Statement (.xltInvAll c b) := Or.inl rfl
theorem invalidationComplete (c : CoreId) : Statement (.invalidationComplete c) := Or.inl rfl
theorem tableWalk (c : CoreId) (fails : BitVec 7) (e : Ecc) (second : Bool) : Statement (.tableWalk c fails e second)
    := Or.inl rfl
theorem reachWrite (c : Fin 80) (r : ReachReg) (v : Word) : Statement (.reachWrite c r v) := Or.inl rfl
theorem cmClean (c : CoreId) (b : Word) : Statement (.cmClean c b) := Or.inl rfl
theorem cmFlush (c : CoreId) (b : Word) : Statement (.cmFlush c b) := Or.inl rfl
theorem cmInv (c : CoreId) (b : Word) : Statement (.cmInv c b) := Or.inl rfl
theorem cmZero (c : CoreId) (b : Word) : Statement (.cmZero c b) := Or.inl rfl
theorem cmPref (c : CoreId) (b : Word) : Statement (.cmPref c b) := Or.inl rfl
theorem cmIinv (c : CoreId) (b : Word) : Statement (.cmIinv c b) := Or.inl rfl
theorem maintenanceComplete (c : CoreId) (pa : BitVec 39) : Statement (.maintenanceComplete c pa) := Or.inl rfl
theorem fillReturn (c : Fin 80) (pa : BitVec 39) (icache l2only : Bool) (e : Ecc) (subs : BitVec 4) : Statement (.fillReturn c pa icache l2only e subs)
    := Or.inl rfl
theorem l2PatrolScrub (c : Fin 80) (e : Ecc) (subs : BitVec 4) : Statement (.l2PatrolScrub c e subs) := Or.inl rfl
theorem reservoirPatrolScrub (slice : Fin 16) (e : Ecc) (subs : BitVec 4) : Statement (.reservoirPatrolScrub slice e subs)
    := Or.inl rfl
theorem brCall (c : CoreId) (b : Word) (imm : Bool) : Statement (.brCall c b imm) := Or.inl rfl
theorem brRel (c : CoreId) (b : Word) (imm : Bool) : Statement (.brRel c b imm) := Or.inl rfl
theorem brCallrel (c : CoreId) (b : Word) (imm : Bool) : Statement (.brCallrel c b imm) := Or.inl rfl
theorem cipEnc (c : CoreId) (b : Word) (x : KeyRead) : Statement (.cipEnc c b x) := Or.inl rfl
theorem cipDec (c : CoreId) (b : Word) (x : KeyRead) : Statement (.cipDec c b x) := Or.inl rfl
theorem cipGmul (c : CoreId) (b : Word) : Statement (.cipGmul c b) := Or.inl rfl
theorem cmxSubmit (c : CoreId) (b : Word) : Statement (.cmxSubmit c b) := Or.inl rfl
theorem cmxResume (c : CoreId) (b : Word) : Statement (.cmxResume c b) := Or.inl rfl
theorem cmxStatus (c : CoreId) (b : Word) : Statement (.cmxStatus c b) := Or.inl rfl
theorem bellRing (c : CoreId) (b : Word) : Statement (.bellRing c b) := Or.inl rfl
theorem latFence (c : CoreId) : Statement (.latFence c) := Or.inl rfl
theorem lateralWrite (c : CoreId) (l : List (BitVec 8 × Word)) : Statement (.lateralWrite c l)
    := Or.inr (.inr (.inr (.inr (.inl ⟨_, _, rfl⟩))))
theorem lateralRead (c : CoreId) (v : Word) : Statement (.lateralRead c v) := Or.inl rfl
theorem lateralReadTimeout (c : CoreId) : Statement (.lateralReadTimeout c) := Or.inl rfl
theorem ipi (c : CoreId) (v : Word) : Statement (.ipi c v) := Or.inl rfl
theorem interruptLineSet (c : CoreId) (line : Fin 64) : Statement (.interruptLineSet c line) := Or.inl rfl
theorem timerExpiry (c : CoreId) (n : Fin 2) : Statement (.timerExpiry c n) := Or.inl rfl
theorem trapEntry (c : CoreId) : Statement (.trapEntry c) := Or.inl rfl
theorem asyncMachineCheck (c : CoreId) : Statement (.asyncMachineCheck c) := Or.inl rfl
theorem microTrap (u : StoreUnit) (mpc : BitVec 16) (cserr nest : Bool) : Statement (.microTrap u mpc cserr nest) := Or.inl rfl
theorem cstoreWordRestore (u : StoreUnit) (ok : Bool) : Statement (.cstoreWordRestore u ok) := Or.inl rfl
theorem cpatchWrite (c : Fin 80) (e : Fin 8) (v : Word) : Statement (.cpatchWrite c e v) := Or.inl rfl
theorem spatchWrite (e : Fin 16) (v : Word) : Statement (.spatchWrite e v) := Or.inl rfl
theorem cstLoad : Statement .cstLoad := Or.inl rfl
theorem intervalClose (g : Fin 36) (i : Fin 3) : Statement (.intervalClose g i) := Or.inl rfl
theorem signatureCompare (g : Fin 36) : Statement (.signatureCompare g) := Or.inl rfl
theorem confirmation (g : Fin 36) : Statement (.confirmation g) := Or.inl rfl
theorem outvotedMemberRefresh (g : Fin 36) : Statement (.outvotedMemberRefresh g) := Or.inl rfl
theorem delayRegisterParityError (g : Fin 36) (n : Fin 64) : Statement (.delayRegisterParityError g n) := Or.inl rfl
theorem boundaryOperation (g : Fin 36) (die : Option Word) : Statement (.boundaryOperation g die) := Or.inl rfl
theorem checkerFault (k : Fin 40) : Statement (.checkerFault k) := Or.inl rfl
theorem memberHalt (c : Fin 80) : Statement (.memberHalt c) := Or.inl rfl
theorem signatureTimeout (g : Fin 36) (i : Fin 3) : Statement (.signatureTimeout g i) := Or.inl rfl
theorem spareJoin (g : Fin 36) (bad : Fin 3) : Statement (.spareJoin g bad) := Or.inl rfl
theorem mergeTwin (bad : Fin 3) : Statement (.mergeTwin bad) := Or.inl rfl
theorem mergeTriad (bad : Fin 3) : Statement (.mergeTriad bad) := Or.inl rfl
theorem twnSplit : Statement .twnSplit := Or.inl rfl
theorem twnPark : Statement .twnPark := Or.inl rfl
theorem twnStop : Statement .twnStop := Or.inl rfl
theorem twnStart : Statement .twnStart := Or.inl rfl
theorem twnBadOp : Statement .twnBadOp := Or.inl rfl
theorem cacCleanAll (c : Fin 80) : Statement (.cacCleanAll c) := Or.inl rfl
theorem cacFlushAll (c : Fin 80) : Statement (.cacFlushAll c) := Or.inl rfl
theorem cacBadOp (c : Fin 80) : Statement (.cacBadOp c) := Or.inl rfl
theorem reservoirCleanAll : Statement .reservoirCleanAll := Or.inl rfl
theorem reservoirFlushAll : Statement .reservoirFlushAll := Or.inl rfl
theorem dramRead (master : BitVec 10) (pa : BitVec 39) (pins : BitVec 144) (wide : Ecc) (dma : Bool) : Statement (.dramRead master pa pins wide dma)
    := Or.inl rfl
theorem dramRefresh (stack : Fin 8) (ch : Fin 17) : Statement (.dramRefresh stack ch) := Or.inl rfl
theorem dramScrub (stack : Fin 8) (e other : Ecc) : Statement (.dramScrub stack e other) := Or.inl rfl
theorem rowSparing (stack : Fin 8) (ch bank : Fin 16) (row : BitVec 17) (met : List (BitVec 5 × Ecc)) : Statement (.rowSparing stack ch bank row met)
    := Or.inl rfl
theorem drmSubstitute (stack : Fin 8) : Statement (.drmSubstitute stack) := Or.inl rfl
theorem channelCopyComplete (stack : Fin 8) (met : List (BitVec 26 × Ecc)) : Statement (.channelCopyComplete stack met)
    := Or.inl rfl
theorem spareChannelFailure (stack : Fin 8) : Statement (.spareChannelFailure stack) := Or.inl rfl
theorem drmCommit : Statement .drmCommit := Or.inl rfl
theorem ledgerWrite (b mirror : Bool) (i : BitVec 22) (data : BitVec 512) : Statement (.ledgerWrite b mirror i data) := Or.inl rfl
theorem ledgerRead (b : Bool) (i : BitVec 22) (e1 e2 : Ecc) : Statement (.ledgerRead b i e1 e2) := Or.inl rfl
theorem cisBankAccess (bank : Fin 16) (req : BitVec 13) (off : BitVec 23) (e : Ecc) : Statement (.cisBankAccess bank req off e)
    := Or.inl rfl
theorem cisStop (b : Fin 16) (v : Bool) : Statement (.cisStop b v) := Or.inl rfl
theorem cisBankStopped (b : Fin 16) : Statement (.cisBankStopped b) := Or.inl rfl
theorem cisPower (b : Fin 16) (mask : BitVec 13) (p : BitVec 2) : Statement (.cisPower b mask p) := Or.inl rfl
theorem cisWipe (b : Fin 16) : Statement (.cisWipe b) := Or.inl rfl
theorem cisClearComplete (b : Fin 16) : Statement (.cisClearComplete b) := Or.inl rfl
theorem cisPatrol (b : Fin 16) (off : BitVec 23) (e : Ecc) : Statement (.cisPatrol b off e) := Or.inl rfl
theorem strongroomWipe (cause : Fin 3) : Statement (.strongroomWipe cause) := Or.inl rfl
theorem strongroomWipeEnd (zero : Bool) : Statement (.strongroomWipeEnd zero) := Or.inl rfl
theorem linkEnable (l : BitVec 8) : Statement (.linkEnable l) := Or.inl rfl
theorem linkDisable (l : BitVec 8) : Statement (.linkDisable l) := Or.inl rfl
theorem linkRetrain (l : BitVec 8) : Statement (.linkRetrain l) := Or.inl rfl
theorem linkMove (l : BitVec 8) : Statement (.linkMove l) := Or.inl rfl
theorem autonegComplete (l : BitVec 8) : Statement (.autonegComplete l) := Or.inl rfl
theorem trainingComplete (l : BitVec 8) : Statement (.trainingComplete l) := Or.inl rfl
theorem trainingFailure (l : BitVec 8) : Statement (.trainingFailure l) := Or.inl rfl
theorem lockHeld (l : BitVec 8) : Statement (.lockHeld l) := Or.inl rfl
theorem lockTimeout (l : BitVec 8) : Statement (.lockTimeout l) := Or.inl rfl
theorem initTimeout (l : BitVec 8) : Statement (.initTimeout l) := Or.inl rfl
theorem retrainIdleEnd (l : BitVec 8) : Statement (.retrainIdleEnd l) := Or.inl rfl
theorem lossOfLock (l : BitVec 8) : Statement (.lossOfLock l) := Or.inl rfl
theorem liveTimeout (l : BitVec 8) : Statement (.liveTimeout l) := Or.inl rfl
theorem replayTimeout (l : BitVec 8) : Statement (.replayTimeout l) := Or.inl rfl
theorem dataFrameRx (l : BitVec 8) (p : List Byte) (err recent : Bool) (corr uncorr : BitVec 16) : Statement (.dataFrameRx l p err recent corr uncorr)
    := Or.inl rfl
theorem ackFrameRx (l : BitVec 8) (p : List Byte) (recent : Bool) : Statement (.ackFrameRx l p recent) := Or.inl rfl
theorem nakFrameRx (l : BitVec 8) (p : List Byte) (recent during : Bool) : Statement (.nakFrameRx l p recent during) := Or.inl rfl
theorem holdFrameRx (l : BitVec 8) (p : List Byte) (recent : Bool) : Statement (.holdFrameRx l p recent) := Or.inl rfl
theorem initFrameRx (l : BitVec 8) (p : List Byte) (recent : Bool) : Statement (.initFrameRx l p recent) := Or.inl rfl
theorem moveFrameRx (l : BitVec 8) (p : List Byte) (recent : Bool) : Statement (.moveFrameRx l p recent) := Or.inl rfl
theorem spareLaneLocked (l : BitVec 8) : Statement (.spareLaneLocked l) := Or.inl rfl
theorem moveTimeout (l : BitVec 8) : Statement (.moveTimeout l) := Or.inl rfl
theorem creditReturn (l : BitVec 8) (cls : BitVec 2) (cred : BitVec 10) : Statement (.creditReturn l cls cred) := Or.inl rfl
theorem keepaliveTx (l : BitVec 8) : Statement (.keepaliveTx l) := Or.inl rfl
theorem initTx (l : BitVec 8) : Statement (.initTx l) := Or.inl rfl
theorem frameWork (l : BitVec 8) (m : List Byte) : Statement (.frameWork l m) := Or.inr (.inr (.inr (.inl ⟨_, _, rfl⟩)))
theorem sesOpen : Statement .sesOpen := Or.inl rfl
theorem sesClose : Statement .sesClose := Or.inl rfl
theorem sesCloseForce : Statement .sesCloseForce := Or.inl rfl
theorem sesPaths : Statement .sesPaths := Or.inl rfl
theorem sesRead : Statement .sesRead := Or.inl rfl
theorem sesBadOp : Statement .sesBadOp := Or.inl rfl
theorem sesCtxbaseInit : Statement .sesCtxbaseInit := Or.inl rfl
theorem sesStop : Statement .sesStop := Or.inl rfl
theorem openRetry (n : BitVec 18) : Statement (.openRetry n) := Or.inl rfl
theorem openTimeout (n : BitVec 18) : Statement (.openTimeout n) := Or.inl rfl
theorem openAckRx : Statement .openAckRx := Or.inl rfl
theorem resetRx : Statement .resetRx := Or.inl rfl
theorem resetAckRx : Statement .resetAckRx := Or.inl rfl
theorem closeRetry (n : BitVec 18) (last : Bool) : Statement (.closeRetry n last) := Or.inl rfl
theorem tackRx : Statement .tackRx := Or.inl rfl
theorem rdataRx : Statement .rdataRx := Or.inl rfl
theorem tendRx : Statement .tendRx := Or.inl rfl
theorem attnRx : Statement .attnRx := Or.inl rfl
theorem doorbellRecord (n : BitVec 18) : Statement (.doorbellRecord n) := Or.inl rfl
theorem drrRound : Statement .drrRound := Or.inl rfl
theorem transactionIssue (i : BitVec 22) : Statement (.transactionIssue i) := Or.inl rfl
theorem tailraceWrite : Statement .tailraceWrite := Or.inl rfl
theorem consumerIndexPoll (n : BitVec 18) : Statement (.consumerIndexPoll n) := Or.inl rfl
theorem floorTimeout (n : BitVec 18) : Statement (.floorTimeout n) := Or.inl rfl
theorem pathEvaluation (stalls clears : List (BitVec 8)) : Statement (.pathEvaluation stalls clears) := Or.inl rfl
theorem pathRevert (n : BitVec 18) (j : Fin 4) : Statement (.pathRevert n j) := Or.inl rfl
theorem nopathTimeout (n : BitVec 18) : Statement (.nopathTimeout n) := Or.inl rfl
theorem sluiceInput (n : BitVec 16) : Statement (.sluiceInput n) := Or.inl rfl
theorem checkGateOutput (b : Bool) (oseq : Word) : Statement (.checkGateOutput b oseq) := Or.inl rfl
theorem leaseRenewal (b : Bool) : Statement (.leaseRenewal b) := Or.inl rfl
theorem heartbeatCheck (ar as br bs : BitVec 16) : Statement (.heartbeatCheck ar as br bs) := Or.inl rfl
theorem leaseExpiry : Statement .leaseExpiry := Or.inl rfl
theorem quietPeriodEnd : Statement .quietPeriodEnd := Or.inl rfl
theorem sluSwap : Statement .sluSwap := Or.inl rfl
theorem scheduledSwap : Statement .scheduledSwap := Or.inl rfl
theorem sluRejoin (bistOk : Bool) : Statement (.sluRejoin bistOk) := Or.inl rfl
theorem sluBadOp : Statement .sluBadOp := Or.inl rfl
theorem sluCommit : Statement .sluCommit := Or.inl rfl
theorem lgrRd (e1 e2 : Ecc) : Statement (.lgrRd e1 e2) := Or.inl rfl
theorem altCreate : Statement .altCreate := Or.inl rfl
theorem altQuiesce : Statement .altQuiesce := Or.inl rfl
theorem allotmentQuiesced (a : BitVec 12) : Statement (.allotmentQuiesced a) := Or.inl rfl
theorem altResume : Statement .altResume := Or.inl rfl
theorem altDestroy : Statement .altDestroy := Or.inl rfl
theorem altIoinvVa : Statement .altIoinvVa := Or.inl rfl
theorem altIoinvAllot : Statement .altIoinvAllot := Or.inl rfl
theorem altIoinvAll : Statement .altIoinvAll := Or.inl rfl
theorem altBadOp : Statement .altBadOp := Or.inl rfl
theorem altCtxbaseInit : Statement .altCtxbaseInit := Or.inl rfl
theorem ioTranslation (a : BitVec 12) (va : Word) (master : BitVec 10) (k : AccKind) (fails : BitVec 7) : Statement (.ioTranslation a va master k fails)
    := Or.inl rfl
theorem cipLoad (e : Ecc) : Statement (.cipLoad e) := Or.inl rfl
theorem cipClear : Statement .cipClear := Or.inl rfl
theorem cipInfo (e : Ecc) : Statement (.cipInfo e) := Or.inl rfl
theorem cipCommit : Statement .cipCommit := Or.inl rfl
theorem flumeCipEnc (l : Fin 288) (w0 w1 w2 w3 : Word) (fill : List (BitVec 16 × Byte)) (x : KeyRead) : Statement (.flumeCipEnc l w0 w1 w2 w3 fill x)
    := Or.inl rfl
theorem flumeCipDec (l : Fin 288) (w0 w1 w2 w3 : Word) (fill : List (BitVec 16 × Byte)) (x : KeyRead) : Statement (.flumeCipDec l w0 w1 w2 w3 fill x)
    := Or.inl rfl
theorem flumeCipGmul (l : Fin 288) (w0 w1 w2 w3 : Word) (fill : List (BitVec 16 × Byte)) : Statement (.flumeCipGmul l w0 w1 w2 w3 fill)
    := Or.inl rfl
theorem flumeCipBadOp (op : Fin 11) (l : Fin 288) (w0 w1 w2 w3 : Word) : Statement (.flumeCipBadOp op l w0 w1 w2 w3) := Or.inl rfl
theorem bwrite (l : Fin 288) (w0 w1 w2 w3 : Word) (fill : List (BitVec 16 × Byte)) : Statement (.bwrite l w0 w1 w2 w3 fill)
    := Or.inl rfl
theorem bclose (l : Fin 288) (w0 w1 w2 w3 : Word) (fill : List (BitVec 16 × Byte)) : Statement (.bclose l w0 w1 w2 w3 fill)
    := Or.inl rfl
theorem basinReservation : Statement .basinReservation := Or.inl rfl
theorem basinReleaseComplete (i : BitVec 22) : Statement (.basinReleaseComplete i) := Or.inl rfl
theorem basinWipeComplete (i : BitVec 22) : Statement (.basinWipeComplete i) := Or.inl rfl
theorem compressionJobStart : Statement .compressionJobStart := Or.inl rfl
theorem compressionJobEnd (n : Fin 72) : Statement (.compressionJobEnd n) := Or.inl rfl
theorem squeezeStaging : Statement .squeezeStaging := Or.inl rfl
theorem engineFault (n : Fin 72) : Statement (.engineFault n) := Or.inl rfl
theorem clkGo (i : Fin 18) : Statement (.clkGo i) := Or.inl rfl
theorem staggerWaitEnd : Statement .staggerWaitEnd := Or.inl rfl
theorem dividerStep (i : Fin 17) : Statement (.dividerStep i) := Or.inl rfl
theorem pllLock (i : Fin 17) (ok : Bool) : Statement (.pllLock i ok) := Or.inl rfl
theorem wakeComplete (i : Fin 17) : Statement (.wakeComplete i) := Or.inl rfl
theorem drainComplete (i : Fin 17) : Statement (.drainComplete i) := Or.inl rfl
theorem drainTimeout (i : Fin 17) (far : Fin 18) : Statement (.drainTimeout i far) := Or.inl rfl
theorem referenceLoss : Statement .referenceLoss := Or.inl rfl
theorem referenceReturn : Statement .referenceReturn := Or.inl rfl
theorem holdoverExpiry : Statement .holdoverExpiry := Or.inl rfl
theorem pllLockLoss (i : Fin 17) : Statement (.pllLockLoss i) := Or.inl rfl
theorem culvertTransfer (a b : Fin 18) (errs : Fin 5) : Statement (.culvertTransfer a b errs) := Or.inl rfl
theorem fastLoopWindow (p : BitVec 12) : Statement (.fastLoopWindow p) := Or.inl rfl
theorem slowLoopEvaluation (p : BitVec 12) : Statement (.slowLoopEvaluation p) := Or.inl rfl
theorem clampEngage : Statement .clampEngage := Or.inl rfl
theorem clampSustained : Statement .clampSustained := Or.inl rfl
theorem powerOn : Statement .powerOn := Or.inl rfl
theorem prstAssert : Statement .prstAssert := Or.inl rfl
theorem prstRelease : Statement .prstRelease := Or.inl rfl
theorem pwrGoodLow : Statement .pwrGoodLow := Or.inl rfl
theorem vinLow : Statement .vinLow := Or.inl rfl
theorem startWarm : Statement .startWarm := Or.inl rfl
theorem startCold : Statement .startCold := Or.inl rfl
theorem startBadOp : Statement .startBadOp := Or.inl rfl
theorem coldStart (o : StartOutcome) : Statement (.coldStart o) := Or.inl rfl
theorem warmStart (o : StartOutcome) : Statement (.warmStart o) := Or.inl rfl
theorem imageReqTimeout : Statement .imageReqTimeout := Or.inl rfl
theorem laneLoopbackEnd (lane : Fin 288) (pass : Bool) : Statement (.laneLoopbackEnd lane pass) := Or.inl rfl
theorem fullRateTraining (n : Fin 8) (ch : Fin 17) (ok : Bool) : Statement (.fullRateTraining n ch ok) := Or.inl rfl
theorem transition (bistOk : Bool) (us : BitVec 32) : Statement (.transition bistOk us) := Or.inl rfl
theorem startDeadline : Statement .startDeadline := Or.inl rfl
theorem startFail (code : BitVec 4) (step : BitVec 4) : Statement (.startFail code step) := Or.inr (.inr (.inl ⟨_, _, rfl⟩))
theorem enumRx (f : HrFrame) : Statement (.enumRx f) := Or.inl rfl
theorem timeRx (f : HrFrame) : Statement (.timeRx f) := Or.inl rfl
theorem timeOriginate : Statement .timeOriginate := Or.inl rfl
theorem pingRx (f : HrFrame) (spent : BitVec 32) : Statement (.pingRx f spent) := Or.inl rfl
theorem echoRx (f : HrFrame) (trip : BitVec 32) : Statement (.echoRx f trip) := Or.inl rfl
theorem upFrameRx (f : HrFrame) : Statement (.upFrameRx f) := Or.inl rfl
theorem ident (f : HrCmd) : Statement (.ident f) := Or.inl rfl
theorem csrRead (f : HrCmd) : Statement (.csrRead f) := Or.inl rfl
theorem csrWrite (f : HrCmd) : Statement (.csrWrite f) := Or.inl rfl
theorem start (f : HrCmd) : Statement (.start f) := Or.inl rfl
theorem coreMsg (f : HrCmd) : Statement (.coreMsg f) := Or.inl rfl
theorem imageData (f : HrCmd) : Statement (.imageData f) := Or.inl rfl
theorem setTime (f : HrCmd) : Statement (.setTime f) := Or.inl rfl
theorem headraceBadOp (op : Byte) (f : HrCmd) : Statement (.headraceBadOp op f)
    := Or.inr (.inr (.inr (.inr (.inr (.inl ⟨_, _, rfl⟩)))))
theorem tailDetection : Statement .tailDetection := Or.inl rfl
theorem spareReceiverSwitch : Statement .spareReceiverSwitch := Or.inl rfl
theorem driverMonitorFault : Statement .driverMonitorFault := Or.inl rfl
theorem rotationMark : Statement .rotationMark := Or.inl rfl
theorem staRotWrite (v : Word) : Statement (.staRotWrite v) := Or.inl rfl
theorem faultEvent (code : BitVec 8) (master : BitVec 10) (access : BitVec 4) (addr : Word) : Statement (.faultEvent code master access addr)
    := Or.inr (.inl ⟨_, _, _, _, rfl⟩)
theorem faultWindowExpiry (n : Fin 45) (master : BitVec 10) : Statement (.faultWindowExpiry n master) := Or.inl rfl
theorem fltStatusClear (v : Word) : Statement (.fltStatusClear v) := Or.inl rfl
theorem fltCapClear (v : Word) : Statement (.fltCapClear v) := Or.inl rfl
theorem wearEvaluation (w : WearReading) : Statement (.wearEvaluation w) := Or.inl rfl
theorem sprConsent : Statement .sprConsent := Or.inl rfl
theorem sprDefer : Statement .sprDefer := Or.inl rfl
theorem sprBadOp : Statement .sprBadOp := Or.inl rfl
theorem deferExpiry (c : Fin 80) (persists : Bool) : Statement (.deferExpiry c persists) := Or.inl rfl
theorem tamperAssert : Statement .tamperAssert := Or.inl rfl
theorem thermalSense (tj tin tout : BitVec 8) : Statement (.thermalSense tj tin tout) := Or.inl rfl
theorem thermTrip : Statement .thermTrip := Or.inl rfl
theorem lcsStateChange : Statement .lcsStateChange := Or.inl rfl
theorem oemHash : Statement .oemHash := Or.inl rfl
theorem kik : Statement .kik := Or.inl rfl
theorem svn : Statement .svn := Or.inl rfl
theorem revoke : Statement .revoke := Or.inl rfl
theorem lcsFcmdBadOp : Statement .lcsFcmdBadOp := Or.inl rfl
theorem extest : Statement .extest := Or.inl rfl
theorem extestPulse : Statement .extestPulse := Or.inl rfl
theorem extestTrain : Statement .extestTrain := Or.inl rfl
theorem clamp : Statement .clamp := Or.inl rfl
theorem highz : Statement .highz := Or.inl rfl
theorem idcode : Statement .idcode := Or.inl rfl
theorem samplePreload (pins preload : BitVec 587) : Statement (.samplePreload pins preload) := Or.inl rfl
theorem bypass : Statement .bypass := Or.inl rfl
theorem tapReset : Statement .tapReset := Or.inl rfl
theorem csrRegisterWrite (m : BusMaster) (a : BitVec 32) (width : BitVec 5) (v : Word) : Statement (.csrRegisterWrite m a width v)
    := Or.inr (.inr (.inr (.inr (.inr (.inr ⟨_, _, _, _, rfl⟩)))))
theorem pwrGoodHigh : Statement .pwrGoodHigh := Or.inl rfl
theorem vinOutsideRange (high : Bool) : Statement (.vinOutsideRange high) := Or.inl rfl
theorem tamperRelease : Statement .tamperRelease := Or.inl rfl
theorem clampRelease : Statement .clampRelease := Or.inl rfl
theorem noticeIntervalEnd (code : Byte) : Statement (.noticeIntervalEnd code) := Or.inl rfl
theorem dieToDieLinkDown : Statement .dieToDieLinkDown := Or.inl rfl
theorem dieToDieLinkUp : Statement .dieToDieLinkUp := Or.inl rfl
theorem upReceiverAligned : Statement .upReceiverAligned := Or.inl rfl
theorem upReceiverAlignmentLoss : Statement .upReceiverAlignmentLoss := Or.inl rfl
theorem primaryReceiverReturn : Statement .primaryReceiverReturn := Or.inl rfl

end Sys2Proof.Laws.Wf
end

