-- ==== Sys2Proof/Tests/Slice0.lean ====
section
/-!
SUPPORT. Tests: commands that cannot occur, the worked examples of the spec, and for every statement states and operands that meet
the hypotheses of each of its clauses.
-/

namespace Sys2Proof.Tests
set_option Elab.async false
open Sys2Proof Sys2Proof.Machine Sys2Proof.Csr

/-! Commands that cannot occur are refused by the check -/

theorem test_wf_fault_code : (Instr.faultEvent 0x03 0 0 0).wf = false ∧ (Instr.faultEvent 0x00 0 0 0).wf = true := by
  decide +kernel
theorem test_wf_start_code : (Instr.startFail 0 1).wf = false ∧ (Instr.startFail 8 1).wf = false
    ∧ (Instr.startFail 7 1).wf = true := by decide +kernel
theorem test_wf_frame_work : (Instr.frameWork 0 (List.replicate 23 0)).wf = false
    ∧ (Instr.frameWork 0 (List.replicate 24 0)).wf = true := by decide +kernel
theorem test_wf_lateral_write : (Instr.lateralWrite 0 []).wf = false ∧ (Instr.lateralWrite 0 [(5, 9)]).wf = true := by
  decide +kernel
theorem test_wf_headrace_op (f : HrCmd) : (Instr.headraceBadOp 7 f).wf = false ∧ (Instr.headraceBadOp 8 f).wf = true :=
  ⟨by rfl, by rfl⟩
theorem test_wf_csr_width (m : BusMaster) : (Instr.csrRegisterWrite m 0 3 0).wf = false
    ∧ (Instr.csrRegisterWrite m 0 16 0).wf = true := ⟨by rfl, by rfl⟩

/-- An ill-formed command is refused, and a word spells no command. -/
theorem test_ill_formed_is_refused : exec (.startFail 0 1) State.reset = .refused .illFormed := by rfl
theorem test_no_word_spells_a_command : decodeTableWord 64 0 = none := by rfl

/-! Samples and clauses -/

/-- Clause numbers, where a hypothesis holds. -/
def given (p : Prop) [Decidable p] (l : List Nat) : List Nat := if p then l else []

/-- The samples with these numbers. -/
def sel {α : Type} (l : List α) (is : List Nat) : List α := is.filterMap (fun i => l[i]?)

/-- Every clause below n is met by a sample. -/
def covers (n : Nat) (l : List (List Nat)) : Bool := (List.range n).all (fun k => l.any (fun c => c.contains k))

/-- State.takes and State.canSend (Safety), decided. -/
def takes (s : State) (c p : Nat) : Bool := (s.atBundle c).boundaryClear c && decide ((s.atBundle c).portCause c p = none)
def canSend (s : State) (l cls len : Nat) : Bool :=
  decide (s.lstate l = 5 ∧ (s.link l).work = [] ∧ (s.link l).replaying = [] ∧ (s.link l).unacked.length < 4096
    ∧ (s.link l).held + 12 + len ≤ 131072 ∧ (s.link l).credit cls len = true ∧ s.laneMayRun l = true)

/-! States. -/

/-- The module in full service. -/
def wRun : State :=
  (List.range 16).foldl (fun s b => s.setF (CIS_BSTAT b) CIS_BSTAT.STATE 0)
    (({ State.reset with startStage := .idle, lanesIdle := false, bypass := false, rateDue := false, dieUp := true }.setFs
      HWK_SSTAT [(HWK_SSTAT.PHASE, 3)]).setFs SLU_STAT
      [(SLU_STAT.HOLDER, 0), (SLU_STAT.ASTATE, 1), (SLU_STAT.BSTATE, 2)])
/-- A core with ports set. -/
def wPorts (s : State) (c : Nat) (l : List (Nat × Word)) : State :=
  s.modCore c (fun k => l.foldl (fun k p => k.setPort p.1 p.2) k)
/-- Memory with bytes from an address upwards. -/
def wMem (s : State) (a : Nat) (l : List Byte) : State := { s with mem := (l.zipIdx).foldl (fun m e => memPut m (a + e.2) e.1) s.mem }
/-- A number as little-endian bytes. -/
def le (n w : Nat) : List Byte := (List.range n).map (fun i => BitVec.ofNat 8 (w / 2 ^ (8 * i)))
/-- Memory with 64-bit words. -/
def wWords (s : State) (a : Nat) (l : List Nat) : State := wMem s a (l.flatMap (le 8))
/-- Memory with a bundle, unused slots no-ops. -/
def wBundle (s : State) (a : Nat) (slots : List Nat) : State := wMem s a ((slots
    ++ List.replicate (8 - slots.length) 0x80000000).flatMap (le 4))
/-- A descriptor of SES_CMD OPEN (R271). -/
def wDesc (allot bell p0 p1 p2 p3 dring dlog2 tring tlog2 line tcons core w5 w6 w7 : Nat) : List Byte :=
  ([7 + allot*2^18 + bell*2^30 + 12*2^38 + 3 * 2^43, p0 + p1*2^16 + p2*2^32 + p3*2^48, dring + dlog2*2^48,
      tring + tlog2*2^48 + line*2^53, tcons + core*2^48, w5, w6, w7]).flatMap (le 8)
/-- An open session of allotment 3, bell 5, paths 20 21. -/
def wSes : Session := { Session.closed with state := 2, desc := wDesc 3 5 20 21 0x1FF 0x1FF 0x100000 6 0x200000 6 20 0x300000 4 0 0 0, wlog2 := 12, opts := 3, answered := [20,21], active := 0, sepoch := 4, nextTseq := 100, nextDseq := 50, bellDseq := 50, floorSent := 100 }
/-- Link l UP on its own lane, with credit. -/
def wUp (s : State) (l : Nat) : State := { s.setFs (LNK_STAT l) [(LNK_STAT.STATE, 5), (LNK_STAT.LANE, l)] with links := s.links.put l { Link.cleared 1 with buf := [4096,4096,4096,4096], initRx := true, initSeenRx := true } }
/-- Session 9 open over links 20 and 21, allotment 3 ACTIVE. -/
def wSesRun : State := ({ (wUp (wUp wRun 20) 21).setF SES_STAT SES_STAT.RUNNING 1 with sessions := [(9, wSes)] }).setFs (ALT_ASTAT 3) [(ALT_ASTAT.STATE, 1)]
/-- A twin of cores 0 and 10 in slot 3. -/
def wTwinCsr : State := (((wRun.setFs (TWN_CSTATE 0) [(TWN_CSTATE.ROLE,2),(TWN_CSTATE.GROUP,3),(TWN_CSTATE.INDEX,0)]).setFs (TWN_CSTATE 10) [(TWN_CSTATE.ROLE,2),(TWN_CSTATE.GROUP,3),(TWN_CSTATE.INDEX,1)]).setFs (TWN_GSTAT 3) [(TWN_GSTAT.STATE,1)]).setFs (TWN_GCFG 3) [(TWN_GCFG.M0,0),(TWN_GCFG.M1,10),(TWN_GCFG.M2,0x7F),(TWN_GCFG.MODE,1),(TWN_GCFG.CHECKER,5)]
/-- A confirmed checkpoint. -/
def wSh : Shadow := ⟨{ Arch.reset with ports := [(3,99),(0x88,0x1000),(0x8C,0x10000)] }, [], []⟩
/-- A closed interval with two stores. -/
def wIv : Interval := ⟨64, 0, 5, 6, [⟨1,0x2000,8,7,false⟩,⟨1,0x2008,8,8,false⟩], [], [], wSh, none⟩
/-- The twin, with no interval closed. -/
def wTwin : State := wTwinCsr.setGroup 3 { Group.reset with members := [(0,Member.reset),(1,Member.reset)], shadow := some wSh }
/-- The twin, with one interval closed in each member. -/
def wTwinIv (a b : Interval) : State := wTwinCsr.setGroup 3 { Group.reset with members := [(0,{Member.reset with closed := [a]}),(1,{Member.reset with closed := [b]})], shadow := some wSh }
/-- Allotment 3 with a FLAT reach over everything, at the same addresses. -/
def wFlat (s : State) : State := s.setFs (ALT_IOREACH 3 0) [(XLT_GREACH.TYPE,1),(XLT_GREACH.SIZE,44),(⟨8,1⟩,1),(⟨9,1⟩,1)]
/-- A live ledger record. -/
def wRec (s : State) (i : Nat) (r : Rec) : State := { wMem (wMem s (0x7FE0000000+64*i) r.bytes) (0x7FF0000000+64*i) r.bytes with live := insertNat s.live i }
/-- An issued inbound transaction of session 9. -/
def wR : Rec := ⟨2, false, 0, 0, 0, 9, 0, 0, 99, 3, 0xC, false, false, 5, 1000, 0x500000, 1, 2, 0, 0, 0, 0, 0, 0x400000⟩
/-- The record of wR, with a FLAT reach. -/
def wLed : State := wRec (wFlat wSesRun) 0 wR

/-! Worked examples of the spec -/

/-- The state that a command leaves. -/
def after (o : Host.Outcome State Fault Refusal) : State := match o with | .next t => t | _ => State.reset

/-- What the newest operation in flight of a core will write, its flags and its trap. -/
def started (o : Host.Outcome State Fault Refusal) (c : Nat) : Option (List (Nat × Word) × Word × Option (Nat × Nat)) :=
  (((after o).core c).inflight.getLast?).map (fun x => (x.writes, x.flags, x.trap))

/-- 02, The bundle: the encoding example. -/
theorem test_bundle_encoding :
    movesOf [0x008A800F, 0xB0880028, 0xBB80, 0, 0x0009FFF9, 0x80000000, 0x80000000, 0x80000000]
      = [⟨0, 0, 0x8A, 7, .value 48000 true, false⟩, ⟨1, 0xB, 0x88, 0, .port 5, false⟩,
         ⟨4, 0, 9, 1, .value 0xFFFFFFFFFFFFFFFF true, false⟩]
    ∧ applyMode 1 0xFFFFFFFFFFFFFFFF = 0xFFFFFFFF := by decide +kernel

/-- 02, Privilege classes: the PORT-TRAP of a guest bundle fills xinfo. -/
def guest (s : State) : State :=
  s.setFs (XLT_GREACH 0 0) [(XLT_GREACH.TYPE, 1), (XLT_GREACH.SIZE, 44), (⟨8, 1⟩, 1), (⟨9, 1⟩, 1), (⟨10, 1⟩, 1)]
theorem test_port_trap_xinfo :
    ((after (exec (.bundleIssue 0) (wBundle (guest (wPorts wRun 0 [(0x88, 0x402A60), (0x8C, 0), (0xB3, 0x2A1), (12, 0x5DC00)]))
      0x402A60 [0x80000000, 0x80000000, 0x80000000, 0x0C400060, 0x80000000, 0x80000000, 0x000D620D]))).core 0).exc.map Exc.fill
      = some [(0xA0, 0x148C403), (0xA4, 0x5DC00), (0xA7, 0)] := by decide +kernel

/-- 04, R93: the rows −7 ÷ 2 and 7 ÷ −2. -/
theorem test_div_truncates :
    started (exec (.divS 0 2) (wPorts wRun 0 [(0x2C0, 0xFFFFFFFFFFFFFFF9)])) 0
      = some ([(0x94, 0xFFFFFFFFFFFFFFFD), (0x95, 0xFFFFFFFFFFFFFFFF)], 0, none)
    ∧ started (exec (.divS 0 0xFFFFFFFFFFFFFFFE) (wPorts wRun 0 [(0x2C0, 7)])) 0
      = some ([(0x94, 0xFFFFFFFFFFFFFFFD), (0x95, 1)], 0, none) := by decide +kernel

/-- 04, R106: rows 8, 10, 14 with FTZ, 17 under RU, 18 in binary32, 20, 23 under RZ and 27. -/
theorem test_fp_edge_rows :
    fpMul .d ⟨0, false, false⟩ 0x7FEFFFFFFFFFFFFF 1 = (0x3CCFFFFFFFFFFFFF, 0)
    ∧ fpFma .s ⟨1, false, false⟩ false 1 0x3F000000 1 = (1, fUF + fNX)
    ∧ fpDiv .d ⟨0, true, false⟩ 0x7FEFFFFFFFFFFFFF 1 = (0x7FF0000000000000, fFDZ)
    ∧ fpDiv .s ⟨2, false, false⟩ 0x3F800000 0x7F7FFFFF = (0x200001, fUF + fNX)
    ∧ fpSqrt .s ⟨0, false, false⟩ 1 = (0x1A3504F3, fNX)
    ∧ fpSqrt .d ⟨0, false, false⟩ 0x8000000000000001 = (0x7FF8000000000000, fNV)
    ∧ fpFromInt .d ⟨1, false, false⟩ 0x7FFFFFFFFFFFFFFF = (0x43DFFFFFFFFFFFFF, fNX)
    ∧ fpConvert .s ⟨0, false, false⟩ 0x7F7FFFFF = (0x47EFFFFFE0000000, 0) := by decide +kernel

/-- 04: M + M with NX enabled traps with detail 0x0014, and 43,750,000 ÷ 10,000 is exact. -/
theorem test_fp_examples :
    started (exec (.fpAddSub 0 1 .d false 0x7FEFFFFFFFFFFFFF) (wPorts wRun 0 [(0x340, 0x7FEFFFFFFFFFFFFF), (0x8C, 0x210000)])) 0
      = some ([(0x96, 0x7FF0000000000000)], 0x500, some (0x40, 0x14))
    ∧ fpDiv .d ⟨0, false, false⟩ 0x4184DC9380000000 0x40C3880000000000 = (0x40B1170000000000, 0) := by decide +kernel

/-- 04, Packed decimal: the worked cases. -/
theorem test_dec_examples :
    started (exec (.decAddSub 0 false 0x4800000D) (wPorts wRun 0 [(0x381, 0x125000075C)])) 0
      = some ([(0x383, 0), (0x384, 0x120200075C)], 0, none)
    ∧ started (exec (.decAddSub 0 true 0x4800000D) (wPorts wRun 0 [(0x381, 0x125000075C)])) 0
      = some ([(0x383, 0), (0x384, 0x129800075C)], 0, none) := by decide +kernel
theorem test_dec_zero_minus :
    started (exec (.decAddSub 0 true 0x12F) (wPorts wRun 0 [(0x381, 0x5C)])) 0 = some ([(0x383, 0), (0x384, 0x7D)], 0, none) := by
  decide +kernel
theorem test_dec_overflow :
    started (exec (.decAddSub 0 false 0x1C) (wPorts wRun 0 [(0x380, 0x9999999999999999), (0x381, 0x999999999999999C)])) 0
      = some ([(0x383, 0), (0x384, 0xC)], 0x20, none) := by decide +kernel
theorem test_dec_bad_digit :
    started (exec (.decAddSub 0 false 0x3C) (wPorts wRun 0 [(0x381, 0x1AC)])) 0
      = some ([(0x383, 0), (0x384, 0)], 0, some (0x41, 0xA0)) := by decide +kernel

/-- 05, Trap return: the guest frame that an interrupt of line 0 writes. -/
def guestInterrupt : State :=
  (guest (wPorts wRun 0 [(0x88, 0x401040), (0x8C, 0), (0xB3, 0x2A1), (0x8A, 12), (0xAC, 0x500000), (0xAD, 0x7FFF0000),
    (0xAE, 0x7FFE0000), (0xAF, 2), (0xB0, 1), (0xB1, 1), (0xB2, 1)])).modCore 0
    (fun k => { k with arch := { k.arch with repOn := true, rep := 18000 } })
theorem test_guest_frame : let t := after (exec (.trapEntry 0) guestInterrupt)
    ((t.core 0).port 0x88, (t.core 0).port 0x89, (t.core 0).port 0xAD, (t.core 0).port 0xAF, (t.core 0).cc)
      = (0x500100, 0x7FFEFC00, 0x7FFEFC00, 0x10000, 20)
    ∧ (t.word 0x7FFEFC00, t.word 0x7FFEFC08, t.word 0x7FFEFC40) = (0x2A100000050, 0x401040, 0x8000000000004650) := by
  decide +kernel

/-- 08, Changing a table: the walk of a store, and the DETAIL word where TABLE is a lateral address. -/
def walked (lateral table : Nat) : Nat × Nat × Word :=
  let s := ((wPorts (wWords (wWords wRun 0x20000028 [table + 1]) 0x3A5C11A0 [0x127E430017]) 0 [(0x8C, 0), (0xB3, 0x2A1)]).setF
    HWK_ID HWK_ID.LATERAL lateral).setFs (XLT_GREACH 0 2) [(XLT_GREACH.TYPE, 2), (XLT_GREACH.SIZE, 34), (REACH_TABLED.ROOT, 0x2000)]
  match s.walkTables (s.rd (XLT_GREACH 0 2)) 2 0x4A2345678 .write with
  | .inl (e, a) => (marked e .write, a, 0)
  | .inr f => (0, 0, detailWord f .write false)
theorem test_walk_example : walked 0 0x3A5C0000 = (0x127E430037, 0x3A5C11A0, 0)
    ∧ walked 1 0x20000010000 = (0, 0, 0x0200000111A002AB) := by decide +kernel

/-- 09, DRAM registers: where ledger record 1,000,000 and its mirror lie. -/
theorem test_ledger_place : (ledgerPrimary 1000000, ledgerMirror 1000000) = (0x7FE3D09000, 0x7FF3D09000)
    ∧ rowOf 0x7FE3D09000 = rowKey 1 12 4 0x1FF8F ∧ rowOf 0x7FF3D09000 = rowKey 5 12 4 0x1FFCF := by decide +kernel

/-- 10, Link frames: the header of the example, and its units. -/
theorem test_frame_header : Frame.header ⟨0, 0x1002, 0xA31, true, 2, 1, 5, List.replicate 4096 0⟩ = 0x010020A31C002405
    ∧ unitsOf 4096 = 65 := by decide +kernel

/-- 11, Sealing and compression: the CMD of the example. -/
def exRec : Rec :=
  ⟨2, false, 0, 0, 0, 0x12345, 0, 0, 20001, 0, 8, false, false, 0x40, 12000, 0, 1, 0, 0, 12000, 0, 0, 0, recNone⟩
theorem test_cmd_message :
    (({ wRec (wRec wRun 0 exRec) 1 { exRec with tseq := 19996 } with
        sessions := [(0x12345, { wSes with sepoch := 3, nextTseq := 20002, desc := le 3 0x777 ++ wSes.desc.drop 3 })] } :
        State).cmdMsg 0 20 false).map BitVec.toNat
      = [0x10, 1, 0, 7, 0x77, 1, 0x23, 0x45, 0, 3, 0, 0, 0, 0, 0x4E, 0x21, 0, 0, 0, 0, 0x4E, 0x1C, 0, 0,
         8, 0, 0, 0, 0, 0x40, 0, 0, 0, 0, 0, 1, 0, 0, 0x2E, 0xE0, 0, 0, 0x2E, 0xE0, 0, 0, 0, 0] := by decide +kernel

/-- 18, Rotations: where LNK_CNT1 of link 37 is latched. -/
theorem test_latch_address : 0xF00000000000 + STA_LATCH 0x10 37 1 = 0xF00007C004A8 := by decide +kernel

/-- 19, Registers: the first error captured, one merged, and the clearing of both. -/
theorem test_first_error :
    let s := after (exec (.faultEvent 0x29 0x17 0 0x123440) (wRun.setF FLT_CFG FLT_CFG.NOTIFY_EN 1))
    let t := after (exec (.faultEvent 0x34 0x125 5 0x408000) (after (exec (.faultEvent 0x30 0x282 7 0) s)))
    (t.rd FLT_STATUS, t.rd FLT_CAP, t.rd FLT_CAPADDR, t.fld (FLT_SRC 13) FLT_SRC.LASTMASTER)
      = (0x3400, 0x0001000017290203, 0x123440, 0x125)
    ∧ (after (exec (.fltStatusClear 0x3400) (after (exec (.fltCapClear 1) t)))).rd FLT_STATUS = 0 := by decide +kernel

/-- 05, R135: SHA-384 of the message abc (FIPS 180-4). -/
theorem test_sha384 : sha384 [0x61, 0x62, 0x63]
    = 0xCB00753F45A35E8BB5A03D699AC65007272C32AB0EDED1631A8B605A43FF5BED8086072BA1E7CC2358BAECA134C825A7 := by decide +kernel

/-! The hypotheses of the statements

For each statement, its clauses in order: a clause is in the list where every hypothesis that stands before it holds. The theorems
after them show, for every clause, a state and operands that meet its hypotheses. -/

/-- The clauses of StepRunsTheCommandInFront. -/
def hypStepRunsTheCommandInFront (s : State) : List Nat :=
  (match s.pending with
    | _ :: _ => [0]
    | _ => [])
  ++ given (s.pending = []) ([1])

/-- The clauses of AluTriggersComputeAsR72Gives. -/
def hypAluTriggersComputeAsR72Gives (s : State) (c : CoreId) (u : Fin 4) (_b : Word) : List Nat :=
  given ((s.atBundle c.val).boundaryClear c.val = true ∧ ((c.val < 80 ∨ u.val < 2))) (
    [0])

/-- The clauses of ShTriggersComputeAsR72AndR482Give. -/
def hypShTriggersComputeAsR72AndR482Give (s : State) (c : CoreId) (_b : Word) : List Nat :=
  given ((s.atBundle c.val).boundaryClear c.val = true) (
    [0])

/-- The clauses of CmpTriggersWriteResultAndPredicate. -/
def hypCmpTriggersWriteResultAndPredicate (s : State) (c : CoreId) (_b : Word) : List Nat :=
  given ((s.atBundle c.val).boundaryClear c.val = true) (
    [0])

/-- The clauses of MulTriggersComputeAsR91Gives. -/
def hypMulTriggersComputeAsR91Gives (s : State) (c : CoreId) (_b : Word) : List Nat :=
  given ((s.atBundle c.val).boundaryClear c.val = true) (
    [0])

/-- The clauses of DivTriggersComputeAsR92ToR94Give. -/
def hypDivTriggersComputeAsR92ToR94Give (s : State) (c : CoreId) (b : Word) : List Nat :=
  given ((s.atBundle c.val).boundaryClear c.val = true) (
    let k := s.settled c.val
    let a := k.port 0x2C0
    let dzTe := (k.port 0x8C).getLsbD 4
    given ((b ≠ 0) ∧ (a ≠ 0x8000000000000000 ∨ b ≠ 0xFFFFFFFFFFFFFFFF)) ([0])
    ++ given (a = 0x8000000000000000 ∧ b = 0xFFFFFFFFFFFFFFFF) ([1])
    ++ given (b = 0 ∧ dzTe = false) ([2])
    ++ given (b = 0 ∧ dzTe = true) ([3])
    ++ given ((b ≠ 0)) ([4])
    ++ given (b = 0 ∧ dzTe = false) ([5])
    ++ given (b = 0 ∧ dzTe = true) ([6]))

/-- The clauses of FpTriggersStartOneOperation. -/
def hypFpTriggersStartOneOperation (s : State) (c : CoreId) (_u : Fin 2) (_f : Fmt) (_x : Bool) (_b : Word) : List Nat :=
  given ((s.atBundle c.val).boundaryClear c.val = true ∧ c.val < 80) (
    [0])

/-- The clauses of DecTriggersComputeAsR107ToR111Give. -/
def hypDecTriggersComputeAsR107ToR111Give (s : State) (c : CoreId) (_sub : Bool) (b : Word) (n m i : Nat) : List Nat :=
  given ((s.atBundle c.val).boundaryClear c.val = true ∧ c.val < 80) (
    let k := s.settled c.val
    let x := (k.port 0x380).toNat * 2 ^ 64 + (k.port 0x381).toNat
    let y := (k.port 0x382).toNat * 2 ^ 64 + b.toNat
    let nibble (z i : Nat) : Nat := z / 16 ^ i % 16
    let valid (z i : Nat) : Bool := if i = 0 then decide (10 ≤ nibble z 0) else decide (nibble z i ≤ 9)
    let sig (z n : Nat) : Bool := decide (z / 16 ^ (n + 1) = 0 ∧ (n = 0 ∨ nibble z n ≠ 0))
    given (n ≤ 31 ∧ m ≤ 31 ∧ sig x n ∧ sig y m) (
      given (((∀ i ∈ List.range 32, valid x i = true)) ∧ ((∀ i ∈ List.range 32, valid y i = true))) ([0])
      ++ given (i < 32 ∧ valid x i = false ∧ ((∀ j ∈ List.range i, valid x j = true))) ([1])
      ++ given (i < 32 ∧ ((∀ j ∈ List.range 32, valid x j = true)) ∧ valid y i = false ∧ ((∀ j ∈ List.range i,
          valid y j = true))) ([2])
      ++ given (((∀ i ∈ List.range 32, valid y i = true))) ([3])
      ++ given (i < 32 ∧ valid y i = false ∧ ((∀ j ∈ List.range i, valid y j = true))) ([4])))

/-- The clauses of HeadworksCoresTrapOnAbsentUnits. -/
def hypHeadworksCoresTrapOnAbsentUnits (s : State) (c : CoreId) (u : Fin 4) (_v : Fin 2) (_f : Fmt) (_x : Bool) (_b : Word) : List Nat :=
  given ((s.atBundle c.val).boundaryClear c.val = true ∧ 80 ≤ c.val ∧ 2 ≤ u.val) (
    [0])

/-- The clauses of CompletionsDeliverResults. -/
def hypCompletionsDeliverResults (s : State) (c : CoreId) (p : BitVec 12) (a : Await) (l m : List Await) (f : FenceEnt) (pre post : List FenceEnt) : List Nat :=
  let k := s.core c.val
  (match k.inflight with
    | _ :: _ => given (k.hidden = []) ([0])
    | _ => [])
  ++ given (k.awaits = l ++ a :: m ∧ a.port = p.toNat ∧ interlockedPorts.contains p.toNat = true ∧ ((∀ x ∈ l,
      x.port ≠ p.toNat)) ∧ ((p.toNat = 0x3A4 ∨ p.toNat = 0x3A5 → k.fences = [])) ∧ ((p.toNat = 0x3C2 → k.invq = []))) ([1])
  ++ given (k.fences = pre ++ f :: post ∧ k.awaits = l ++ fenceAwaits ∧ ((∀ x ∈ pre, s.fenceDone c.val x = false))
      ∧ s.fenceDone c.val f = true ∧ ((∀ x ∈ l, x.port ≠ 0x3A4 ∧ x.port ≠ 0x3A5))) (
    given (k.returning = true ∧ pre ++ post = [] ∧ k.invq = []) ([2])
    ++ given (k.returning = false) ([3]))

/-- The clauses of ControlMovesRedirectTheCore. -/
def hypControlMovesRedirectTheCore (s : State) (c : CoreId) (v : Word) (_imm : Bool) : List Nat :=
  let r := s.atBundle c.val
  let k := r.core c.val
  given (r.boundaryClear c.val = true ∧ k.stall = none ∧ r.retires c.val = true) (
    given (v.toNat % 32 = 0 ∧ (v ≠ 0xFFFFFFFFFFFFFFE0)) ([0])
    ++ given (v.toNat % 32 = 0 ∧ (v ≠ 0xFFFFFFFFFFFFFFE0)) ([1])
    ++ given ((k.port 0x88).toNat % 32 = 0 ∧ (k.port 0x88 + 32 * v ≠ 0xFFFFFFFFFFFFFFE0)) ([2])
    ++ given (k.arch.repOn = false) (
      [3]))

/-- The clauses of BundleOfOneMoveWritesItsRegister. -/
def hypBundleOfOneMoveWritesItsRegister (s : State) (c : CoreId) (n : BitVec 16) (slot guard dst mode : Nat) (v : Word) : List Nat :=
  let r := s.modCore c.val (fun k => (k.settle (s.clock c.val)).drainEvb)
  let k := r.core c.val
  given (r.boundaryClear c.val = true ∧ (s.core c.val).stall = none ∧ r.retires c.val = true ∧ k.arch.repOn = false) (
    (match r.fetch c.val with
      | .ok (_, ws) => given (movesOf ws = [⟨slot, guard, dst, mode, .value v true, false⟩] ∧ dst < 0x80) ([0])
      | _ => []))
  ++ given (((s.core c.val).stall ≠ none)) (
    let later := ((s.modCore c.val (fun k => { k with cc := k.cc + n.toNat })).throttled c.val).issueBundle c.val
    [3]
    ++ given (((later.core c.val).stall ≠ (s.core c.val).stall)) ([1])
    ++ given ((later.core c.val).stall = (s.core c.val).stall) ([2]))

/-- The clauses of HostTrapEntryFollowsR117. -/
def hypHostTrapEntryFollowsR117 (s : State) (c : CoreId) (d : Cond) : List Nat :=
  given (s.coreActive c.val s.mayEnter = true) (
    let r := s.atBundle c.val
    given (r.nextCond c.val = some d ∧ (r.core c.val).skip = 0 ∧ ((c.val < 80 → (s.core c.val).fences = []
        ∧ (s.core c.val).invq = [])) ∧ s.guardedCore c.val = false ∧ ((∀ e ∈ (s.core c.val).sb, e.typ = 1))) (
      let own := match d with | .comp _ => 1 | _ => 0
      let q := { r.core c.val with ctraps := (r.core c.val).ctraps.drop own }.quiet (decide (80 ≤ c.val))
      let tk := d.taking (q.port 0x88)
      let f := q.port 0xAA - 0x400
      given (q.hostTakes tk = true ∧ ((tk.machineCheck = true → bit (q.port 0xAF) 2 = false)) ∧ (q.port 0xAB).toNat ≤ f.toNat
          ∧ bits (q.port 0xAF).toNat 8 8 < 255 ∧ f.toNat < 2 ^ 48 ∧ ((s.rangeClass f.toNat = .normal
          ∨ s.rangeClass f.toNat = .scratch)) ∧ s.mayReach (s.masterOf c.val) f.toNat = true) ([0])))

/-- The clauses of HostTrapReturnFollowsR121. -/
def hypHostTrapReturnFollowsR121 (s : State) (c : CoreId) : List Nat :=
  let r := s.atBundle c.val
  let q := (r.core c.val).quiet (decide (80 ≤ c.val))
  given (r.boundaryClear c.val = true ∧ (r.core c.val).stall = none ∧ r.retires c.val = true ∧ s.guardedCore c.val = false
      ∧ (r.core c.val).host = true ∧ q.host = true ∧ (bits ((r.core c.val).port 0xAF).toNat 8 8 ≠ 0)) (
    let waits := (r.core c.val).entryWaits c.val
    given (waits = true) ([0])
    ++ given (waits = false) (
      let f := (q.port 0xAA).toNat
      given (f < 2 ^ 48 ∧ s.rangeClass f = .normal ∧ s.mayReach (s.masterOf c.val) f = true ∧ s.poisonedRange f 0x260 = false) (
        [1])))

/-- The clauses of InterruptsSetTheirLines. -/
def hypInterruptsSetTheirLines (s : State) (c : CoreId) (v : Word) (_line : Fin 64) (n : Fin 2) : List Nat :=
  given (s.islandRuns (coreIsland c.val) = true) ([0])
  ++ given (s.groupOf c.val = none ∧ ((s.core c.val).port (0x8E + n.val) ≠ 0)) ([1])
  ++ (match s.groupOf c.val with
    | some g => given (((if n.val = 0 then (s.group g).tmr0 else (s.group g).tmr1) ≠ 0)) ([2])
    | _ => [])
  ++ given (takes s c.val 0xB4 ∧ s.groupOf c.val = none) (
    let d := v.toNat % 128
    let l := v.toNat / 256 % 64
    given ((s.core c.val).skip = 0 ∧ 2 ≤ l ∧ l ≤ 9 ∧ s.inService d = true ∧ s.groupOf d = none ∧ (d ≠ c.val)) ([3])
    ++ given ((l < 2 ∨ 9 < l)) ([4]))

/-- The clauses of LoadsAndStoresFollowR75. -/
def hypLoadsAndStoresFollowR75 (s : State) (c : CoreId) (u : Fin 2) (ld : LdOp) (st : StOp) (b : Word) (pa : Nat) : List Nat :=
  let base := 0x200 + 0x40 * u.val
  let r := s.atBundle c.val
  let k := r.core c.val
  let va := k.port base + b
  let n := (ldShape ld).1
  let m := match st with | .st8 => 1 | .st16 => 2 | .st32 => 4 | .st64 => 8
  given (c.val < 80 ∧ s.groupOf c.val = none ∧ k.fences = []) (
    given (takes s c.val (base + ldOff ld) ∧ va.toNat % n = 0 ∧ k.sb.all (fun e => e.typ != 3) = true
        ∧ r.dataAddr c.val va .read 0 (base + ldOff ld) accRead = .ok pa ∧ (s.rangeClass pa ≠ .device)
        ∧ r.noWayFor c.val pa = false) ([0])
    ++ given (takes s c.val (base + ldOff ld) ∧ (va.toNat % n ≠ 0)) ([1])
    ++ given (takes s c.val (base + stOff st) ∧ va.toNat % m = 0 ∧ k.sb.length < 32
        ∧ r.dataAddr c.val va .write 0 (base + stOff st) accWrite = .ok pa) ([2])
    ++ given (takes s c.val (base + stOff st) ∧ (va.toNat % m ≠ 0)) ([3])
    ++ (match (s.core c.val).sb with
      | e :: _ => given (e.typ = 1 ∧ (e.width ≠ 256) ∧ s.storeWaits c.val e = false) ([4])
      | _ => []))

/-- The clauses of HeadworksCoresReachTheirBankAtOnce. -/
def hypHeadworksCoresReachTheirBankAtOnce (s : State) (c : CoreId) (ld : LdOp) (st : StOp) (b : Word) : List Nat :=
  let r := s.atBundle c.val
  let k := r.core c.val
  let va := k.port 0x200 + b
  let n := (ldShape ld).1
  let m := match st with | .st8 => 1 | .st16 => 2 | .st32 => 4 | .st64 => 8
  given (80 ≤ c.val ∧ 0x10007800000 ≤ va.toNat ∧ va.toNat < 0x10008000000 ∧ s.mayReach (.headworks c.val) va.toNat = true) (
    given (takes s c.val (0x200 + stOff st) ∧ va.toNat % m = 0) ([0])
    ++ given (takes s c.val (0x200 + ldOff ld) ∧ va.toNat % n = 0 ∧ k.sb.all (fun e => e.typ != 3) = true) ([1]))

/-- The clauses of AtomicsReadAndModify. -/
def hypAtomicsReadAndModify (s : State) (c : CoreId) (b : Word) (pa : Nat) : List Nat :=
  let r := s.atBundle c.val
  let k := r.core c.val
  let va := k.port 0x3A0
  let q := r.drain c.val
  let old := q.word pa
  let cmp := k.port 0x3A1
  given (s.groupOf c.val = none ∧ ((c.val < 80 → k.fences = [] ∧ (k.inL1D pa = false → k.fillWaits (pa / 256) = false)))
      ∧ ((∀ e ∈ k.sb, e.typ = 1)) ∧ q.poisonedRange pa 16 = false) (
    let swaps (j : Nat) (_i : Instr) (p : Nat) (_new : Word) (_when_ : Prop) : List Nat := given (takes s c.val p
        ∧ k.kept.find p = none ∧ r.dataAddr c.val va .write 0 p accAtomic = .ok pa ∧ s.rangeClass pa = .normal
        ∧ va.toNat % 8 = 0) ([j + 0])
    swaps 0 (.atomCas64 c b) 0x3A8 b (old = cmp)
    ++ swaps 1 (.atomSwp64 c b) 0x3A9 b True
    ++ swaps 2 (.atomAdd64 c b) 0x3AA (old + b) True
    ++ swaps 3 (.atomAnd64 c b) 0x3AB (old &&& b) True
    ++ swaps 4 (.atomOr64 c b) 0x3AC (old ||| b) True
    ++ given (takes s c.val 0x3AD ∧ k.kept.find 0x3AD = none ∧ r.dataAddr c.val va .write 0 0x3AD accAtomic = .ok pa
        ∧ s.rangeClass pa = .normal ∧ va.toNat % 16 = 0) ([5]))

/-- The clauses of FencesWaitForWhatTheirMaskNames. -/
def hypFencesWaitForWhatTheirMaskNames (s : State) (c : CoreId) (b : Word) : List Nat :=
  let r := s.atBundle c.val
  let k := r.core c.val
  given (takes s c.val 0x3B0 ∧ s.groupOf c.val = none ∧ ((c.val < 80 → k.fences = []))) (
    given ((b.toNat % 16 ≠ 0)) ([0])
    ++ given (b.toNat % 16 = 0 ∧ ((∀ a ∈ k.awaits, a.port ≠ 0x3A4 ∧ a.port ≠ 0x3A5))) ([1]))

/-- The clauses of ProbesAndInvalidationsFollowR218AndR219. -/
def hypProbesAndInvalidationsFollowR218AndR219 (s : State) (c : CoreId) (b v : Word) : List Nat :=
  let r := s.atBundle c.val
  let k := r.core c.val
  given (s.groupOf c.val = none ∧ k.walked = none ∧ ((∀ e ∈ k.sb, e.typ = 1))) (
    let probes (j : Nat) (_i : Instr) (p : Nat) (kind : AccKind) : List Nat := given (takes s c.val p
        ∧ r.probeResult c.val b kind = some v) (
        [j + 1]
        ++ given (r.untranslated c.val = true ∧ b.toNat < 2 ^ 48) ([j + 0]))
    let drops (j : Nat) (_i : Instr) (p : Nat) (_gone : TlbEnt → Bool) : List Nat := given (takes s c.val p) ([j + 0])
    let tagOf (host : Bool) (a : Nat) : Option Nat := if host then none else some a
    probes 0 (.xltProbeR c b) 0x3C8 .probeR
    ++ probes 2 (.xltProbeW c b) 0x3C9 .probeW
    ++ drops 4 (.xltInvVa c b) 0x3CA (fun e => decide (e.tag = tagOf (b.getLsbD 48) (b.toNat / 2 ^ 52)) &&
        (if e.group then decide (b.toNat % 2 ^ 48 / 2 ^ 20 = e.vpage / 16) else decide (b.toNat % 2 ^ 48 / 65536 = e.vpage)))
    ++ drops 5 (.xltInvCtx c b) 0x3CB (fun e => decide (e.tag = tagOf (b.getLsbD 0) ((k.port 0x3C0).toNat % 4096)))
    ++ drops 6 (.xltInvAll c b) 0x3CC (fun _ => true))

/-- The clauses of WalksAndInvalidationsEnd. -/
def hypWalksAndInvalidationsEnd (s : State) (c : CoreId) (fails : BitVec 7) (e : Ecc) (second : Bool) : List Nat :=
  (match (s.core c.val).stall with
    | some (.walk va kind _ _) => (match selectReach (s.reach c.val (s.core c.val).host) va.toNat with
        | some n => let host := (s.core c.val).host
          let reach := s.reach c.val host n
          let u := s.walkCheck c.val host va e second
          given (c.val < 80 ∧ (XLT_GREACH.TYPE.get reach ≠ 1)) (
            given ((kind = .read ∨ kind = .write ∨ kind = .fetch)) (
              (match u.walkTables reach n va.toNat kind with
                | .inl (_x, _a2) => given (s.setsMarks c.val = true ∧ fails.toNat < 64) ([0])
                | _ => [])
              ++ (match u.walkTables reach n va.toNat kind with
                | .inl (x, _a2) => given ((marked x kind ≠ x) ∧ s.setsMarks c.val = true ∧ 64 ≤ fails.toNat
                    ∧ (s.core c.val).exc = none) ([1])
                | _ => [])
              ++ (match u.walkTables reach n va.toNat kind with
                | .inr _f => given ((s.core c.val).exc = none) ([2])
                | _ => []))
            ++ given ((kind = .probeR ∨ kind = .probeW)) (
              (match u.walkTables reach n va.toNat kind with
                | .inl (_, _) => [3]
                | _ => [])
              ++ (match u.walkTables reach n va.toNat kind with
                | .inr _ => [4]
                | _ => []))
            ++ given (kind = .pref) ([5]))
        | _ => [])
    | _ => [])
  ++ (match (s.core c.val).invq with
    | e :: _ => given (e.barrier = 0 ∧ (s.core c.val).awaits = [⟨0x3C2, 0, false, 0⟩] ∧ (s.core c.val).returning = false) ([6])
    | _ => [])

/-- The clauses of MaintenanceFollowsR187. -/
def hypMaintenanceFollowsR187 (s : State) (c : CoreId) (b : Word) (pa : Nat) : List Nat :=
  let r := s.atBundle c.val
  let k := r.core c.val
  let q := r.drain c.val
  let va := b &&& ~~~ (0xFF : Word)
  given (s.groupOf c.val = none ∧ ((c.val < 80 → k.fences = [])) ∧ ((∀ e ∈ k.sb, e.typ = 1)) ∧ s.rangeClass pa = .normal) (
    let may (p : Nat) (kind : AccKind) (acc : Nat) : Bool := decide (takes s c.val p
        ∧ r.dataAddr c.val va kind 0 p acc = .ok pa ∧ (c.val < 80 → k.cmq.length < 8 ∧ k.sb.length < 32))
    given (may 0x3E8 .read accRead) ([0])
    ++ given (may 0x3E9 .read accRead) ([1])
    ++ given (may 0x3EA .write accWrite ∧ q.dram.sorted = true) ([2])
    ++ given (may 0x3EB .write accWrite) (
      given (c.val < 80) ([3])
      ++ given (80 ≤ c.val) ([4]))
    ++ given (takes s c.val 0x3ED ∧ k.walkedFor va .iinv = none ∧ k.prefGone = false ∧ r.xlat c.val va .iinv = .ok pa
        ∧ c.val < 80 ∧ k.cmq.length < 8) ([5])
    ++ given (takes s c.val 0x3EC ∧ ((c.val < 80 → k.cmq.length < 8))) (
      (match r.xlat c.val va .pref with
        | x => given ((x ≠ .walk) ∧ (x ≠ .conflict) ∧ ((match x with | .ok a => a == pa | _ => true) = true)) ([6]))))

/-- The clauses of FillsAndMaintenanceComplete. -/
def hypFillsAndMaintenanceComplete (s : State) (c : CoreId) (pa : BitVec 39) (icache l2only : Bool) : List Nat :=
  let line := pa.toNat / 256
  (match (s.core c.val).findFill line (if l2only then 0 else pa.toNat / 64 % 4) icache l2only with
    | some _f => [0]
    | _ => [])
  ++ (match (s.core c.val).cmq.find? (fun x => x.line == line) with
    | some e => given (e.op = .pref) ([1])
      ++ given ((e.op ≠ .pref) ∧ e.barrier = 0 ∧ (s.core c.val).fills.any (fun f => f.line == line) = false) ([2])
    | _ => [])

/-- The clauses of LateralMovesFollowR60. -/
def hypLateralMovesFollowR60 (s : State) (c : CoreId) (l : List (BitVec 8 × Word)) (_v : Word) (ws : List (Nat × Word)) (w : Nat × Word) (rest : List StoreEnt) : List Nat :=
  let r := s.atBundle c.val
  let k := r.core c.val
  given (c.val < 80 ∧ s.groupOf c.val = none) (
    [5]
    ++ given ((l ≠ []) ∧ l.length ≤ 8 ∧ (l.map Prod.fst).Nodup ∧ k.fences = []
        ∧ l.all (fun w => takes s c.val (0xF00 + w.1.toNat)) = true) ([0])
    ++ given ((s.core c.val).sb = ws.map (fun e => ⟨2, e.1, 8, e.2, false⟩) ++ ⟨2, w.1, 8, w.2, true⟩ :: rest) ([1])
    ++ (match (s.core c.val).stall with
      | some (.lateral p) => [3]
        ++ given ((s.core c.val).exc = none ∧ (s.core c.val).latVal.find p = none) ([2])
      | _ => [])
    ++ given (takes s c.val 0x468 ∧ k.fences = [] ∧ r.latBusy c.val = false) ([4]))

/-- The clauses of CipRequestsAnswerR344AndR345. -/
def hypCipRequestsAnswerR344AndR345 (s : State) (c : CoreId) (_b : Word) (dec : Bool) (read : KeyRead) : List Nat :=
  let r := s.atBundle c.val
  let k := r.core c.val
  let slot := (k.port 0x400).toNat
  let st := r.slotStatus slot (if dec then 6 else 5) (if k.host then none else some (k.port 0xB3).toNat)
  let room : Bool := decide ((k.awaits.filter (fun a => a.port == 0x404)).length < 4
      ∧ (k.awaits.filter (fun a => a.port == 0x405)).length < 4)
  given (takes s c.val (if dec then 0x409 else 0x408) ∧ room ∧ read.ecc = .ok) (
    given (st = 0) ([0])
    ++ given ((st ≠ 0)) ([1]))
  ++ given (takes s c.val 0x40A ∧ room) ([2])

/-- The clauses of CmxAndBellRequestsAreAnswered. -/
def hypCmxAndBellRequestsAreAnswered (s : State) (c : CoreId) (b : Word) : List Nat :=
  let r := s.atBundle c.val
  let k := r.core c.val
  let allot := if k.host then 0 else (k.port 0xB3).toNat % 4096
  let guest : Option Nat := if k.host then none else some allot
  let asks (j : Nat) (_i : Instr) (p : Nat) (_u : State) (_v : Word) : List Nat := given (takes s c.val p
      ∧ (k.awaits.filter (fun a => a.port == p - p % 32)).length < 4) ([j + 0])
  given (s.groupOf c.val = none ∧ k.fences = [] ∧ k.kept = [] ∧ k.sb = []) (
    asks 0 (.cmxSubmit c b) 0x428 (r.cmxSubmit allot b.toNat).1 (Word.ofNat (r.cmxSubmit allot b.toNat).2)
    ++ asks 1 (.cmxResume c b) 0x429 (r.cmxResume guest b.toNat).1 (Word.ofNat (r.cmxResume guest b.toNat).2)
    ++ asks 2 (.cmxStatus c b) 0x42A s (Word.ofNat (r.cmxStatus guest b.toNat))
    ++ given (takes s c.val 0x428 ∧ (k.awaits.filter (fun a => a.port == 0x420)).length < 4) (
      let read := r.spRead (some allot) .compress b.toNat 64
      let slot := leastFree 0 read.1.jobs.keys
      let job : Job := ⟨read.2.1, allot, read.1.jobGen.get 0 slot, .queued, none, [], 0, 0, 0, 0, 0, []⟩
      let list := read.1.gatherList job
      given ((s.jobs.length ≠ 4096) ∧ s.fld (CMP_AJOB allot) CMP_AJOB.JOBS < s.fld (CMP_AJOB allot) CMP_AJOB.JOBMAX
          ∧ s.inTrickle = false ∧ b.toNat % 64 = 0 ∧ read.2.2 = 0 ∧ read.1.jobBad job = false ∧ list.2.2.1 = 0
          ∧ list.2.2.2 = false) ([3]))
    ++ (match r.jobOf guest b.toNat with
      | .ok (_, job) => given ((k.awaits.filter (fun a => a.port == 0x420)).length < 4) (
          given (takes s c.val 0x429 ∧ job.phase = .suspended) ([4])
          ++ given (takes s c.val 0x42A) ([5]))
      | _ => [])
    ++ given (takes s c.val 0x448) (
      let named := s.sessions.find? (fun e => e.2.state != ssCLOSED && !e.2.blank && e.2.allot == allot && e.2.bell == (k.port 0x440).toNat)
      given ((b.toNat % 32 ≠ 0)) ([6])
      ++ given (b.toNat % 32 = 0 ∧ named = none) ([7])
      ++ (match named with
        | some (_n, x) => given (b.toNat % 32 = 0 ∧ (x.state ≠ ssOPEN)) ([8])
        | _ => [])
      ++ (match named with
        | some (_, x) => given (b.toNat % 32 = 0 ∧ x.state = ssOPEN) (
            let waiting := (x.bellDseq + 2 ^ 48 - x.nextDseq) % 2 ^ 48
            given (2 ^ x.dlog2 ≤ waiting) ([9])
            ++ given (waiting < 2 ^ x.dlog2) ([10]))
        | _ => [])))

/-- The clauses of TranslationAndPatchWritesTakeEffect. -/
def hypTranslationAndPatchWritesTakeEffect (s : State) (c : Fin 80) (n : Fin 16) (e : Fin 8) (v : Word) : List Nat :=
  let typ := v.toNat % 4
  let size := v.toNat / 4 % 64
  let accepted : Bool := decide (typ = 0 ∨ (typ = 1 ∧ 24 ≤ size ∧ size ≤ 44) ∨ (typ = 2 ∧ 29 ≤ size ∧ size ≤ 42))
  let kept : Word := if typ = 1 then v &&& 0x0FFFFFFFFFFFF7FF else if typ = 2 then v &&& 0x07FFFFFFFFFFFFFF else v &&& 0xFF
  let patch : Word := let w := v &&& 0xFFFF3FFF; if v.toNat / 65536 % 16384 < 15360 then w &&& ~~~ (0x80000000 : Word) else w
  let takes (j : Nat) (_i : Instr) (_a : Nat → Nat) (_w : Word) : List Nat := given (s.groupOf c.val = none) (
        given (((s.core c.val).stall = none ∨ (s.core c.val).stall = some .fence)) ([j + 0])
        ++ given (((s.core c.val).stall ≠ none) ∧ ((s.core c.val).stall ≠ some .fence)) ([j + 1]))
      ++ (match s.groupOf c.val with
        | some _ => [j + 2]
        | _ => [])
  [13]
  ++ given ((¬ accepted)) ([0])
  ++ given (accepted) (
    takes 1 (.reachWrite c (.greach n) v) (fun d => XLT_GREACH d n.val) kept
    ++ takes 4 (.reachWrite c (.hreach n) v) (fun d => XLT_HREACH d n.val) kept)
  ++ takes 7 (.reachWrite c .ctx v) XLT_CTX (v &&& 1)
  ++ takes 10 (.cpatchWrite c e v) (fun d => CST_CPATCH d e.val) patch

/-- The clauses of ControlStoresFollowR137ToR143. -/
def hypControlStoresFollowR137ToR143 (s : State) (c : Fin 80) (b : Bool) (mpc : BitVec 16) : List Nat :=
  let a := s.fld CST_LOAD CST_LOAD.ADDR * 32
  let n := 0x200 + s.num (a + 0x14) 4
  given (s.fld CST_STATUS CST_STATUS.BUSY = 0 ∧ s.rangeClass a = .normal ∧ s.rangeClass (a + n - 1) = .normal
      ∧ s.poisonedRange a n = false) ([0])
  ++ given (s.saveValid (.core c) = false) ([1])
  ++ given (s.saveValid (.core c) = false ∧ s.microMatch (.core c) (mpc.toNat % 16384) = true) ([2])
  ++ given (s.saveValid (.core c) = true ∧ ((∀ x, (s.core c.val).exc = some x → x.cstore = false))) ([3])
  ++ given (s.saveValid (.sluice b) = true) ([4])
  ++ given (s.saveValid (.core c) = true ∧ s.saveCause (.core c) = 2) (
    [6]
    ++ given (s.groupOf c.val = none ∧ ((∀ x, (s.core c.val).exc = some x → x.cstore = false))) ([5]))
  ++ given (s.saveValid (.sluice b) = false) (
    [8]
    ++ given (s.microMatch (.sluice b) mpc.toNat = true) ([7]))
  ++ given (s.saveValid (.sluice b) = true ∧ s.saveCause (.sluice b) = 2) ([9])

/-- The clauses of CacheCommandsAndScrubbersFollowR197. -/
def hypCacheCommandsAndScrubbersFollowR197 (s : State) (c : Fin 80) (_slice : Fin 16) (_subs : BitVec 4) : List Nat :=
  given (s.fld (CAC_CSTAT c.val) CAC_CSTAT.BUSY = 0) (
    [4]
    ++ given (s.islandRuns (c.val / 10) = false) ([0])
    ++ given (s.islandRuns (c.val / 10) = true) (
      [3]
      ++ given (((s.role c.val = 1 ∨ s.role c.val = 4 ∨ s.role c.val = 5))) ([1])
      ++ given ((s.role c.val = 0 ∨ s.role c.val = 2 ∨ s.role c.val = 3)) ([2])))
  ++ given (s.fld CAC_RSTAT CAC_RSTAT.BUSY = 0) ([5])
  ++ [6]
  ++ [7]

/-- The clauses of DramFollowsR228ToR235. -/
def hypDramFollowsR228ToR235 (s : State) (m : BitVec 10) (pa : BitVec 39) (pins : BitVec 144) (wide : Ecc) (_dma : Bool) (k : Fin 8) (ch bank : Fin 16) (row : BitVec 17) (_ch17 : Fin 17) (i : BitVec 22) (data : BitVec 512) (b : Bool) : List Nat :=
  let a := pa.toNat / 64 * 64
  let bad := ((List.range 72).filter (fun n => pins.getLsbD (2 * n) || pins.getLsbD (2 * n + 1))).length
  [16]
  ++ given (s.gateShut m.toNat = true) ([0])
  ++ given (s.gateShut m.toNat = false ∧ 0x7FE0000000 ≤ a ∧ (m.toNat ≠ 0x090) ∧ (m.toNat ≠ 0x091)) ([1])
  ++ given (s.gateShut m.toNat = false ∧ (a < 0x7FE0000000 ∨ m.toNat = 0x090 ∨ m.toNat = 0x091)) (
    given (s.dramPoisoned a = true) ([2])
    ++ given (s.dramPoisoned a = false) (
      given (bad = 0) ([3])
      ++ given ((1 ≤ bad ∧ bad ≤ 3 ∨ 5 < bad ∧ wide = .corrected)) ([4])
      ++ given ((bad = 4 ∨ bad = 5 ∨ 5 < bad ∧ wide = .uncorrectable)) ([5])))
  ++ given (s.fldIn DRM_CFG k.val DRM_CFG.SCRUB_EN = 1 ∧ s.fld (DRM_SSTAT k.val) DRM_SSTAT.STATE = 0) (
    [6])
  ++ let key := rowKey k.val ch.val bank.val row.toNat;
  given ((s.fldIn DRM_CFG k.val DRM_CFG.ROW_THRESH ≠ 0) ∧ s.fldIn DRM_CFG k.val DRM_CFG.ROW_THRESH ≤ s.rowErrs.get 0 key) (
    given (s.rowsUsed.get 0 (bankKey k.val ch.val bank.val) < 64) ([7])
    ++ given (64 ≤ s.rowsUsed.get 0 (bankKey k.val ch.val bank.val)) ([8]))
  ++ given (s.fld (DRM_SSTAT k.val) DRM_SSTAT.COPYING = 0 ∧ s.fld (DRM_SSTAT k.val) DRM_SSTAT.SPARED = 31) ([9])
  ++ given (s.fld (DRM_SSTAT k.val) DRM_SSTAT.COPYING = 1 ∧ s.subst.get 0 k.val < 16) ([10])
  ++ (match s.staged.find DRM_CFG with
    | some _ => [11]
    | _ => [])
  ++ given (s.staged.find DRM_CFG = none) ([12])
  ++ given (s.passes b = true) ([13])
  ++ let old := s.record i.toNat
  let new := { recOf (leBytes 64 data.toNat) with ver := old.ver }
  given ((s.passes b = false ∨ recMoves old new = false)) ([14])
  ++ given (s.passes b = true ∧ recMoves old new = true) ([15])

/-- The clauses of LedgerReadsFollowR233. -/
def hypLedgerReadsFollowR233 (s : State) (b : Bool) (i : BitVec 22) (e1 e2 : Ecc) : List Nat :=
  let p := 0x7FE0000000 + 64 * i.toNat
  let q := 0x7FF0000000 + 64 * i.toNat
  let go : Bool := decide (s.sluActs = true ∧ s.fld LGR_RDSTAT LGR_RDSTAT.BUSY = 0 ∧ s.fld LGR_RD LGR_RD.INDEX = i.toNat)
  given (s.passes b = false) ([0])
  ++ given (s.fld LGR_RDSTAT LGR_RDSTAT.BUSY = 1) ([1])
  ++ given (s.fld LGR_RDSTAT LGR_RDSTAT.BUSY = 0 ∧ s.sluActs = false) ([2])
  ++ given (s.copyBad p e1 = false) (
    given (s.passes b = true) ([3])
    ++ given (go) ([4]))
  ++ given (s.copyBad p e1 = true ∧ s.copyBad q e2 = false) (
    given (s.passes b = true) ([5])
    ++ given (go) ([6]))
  ++ given (s.passes b = true ∧ s.copyBad p e1 = true ∧ s.copyBad q e2 = true ∧ s.live.contains i.toNat = false) ([7])

/-- The clauses of CisternBanksFollowR239ToR243. -/
def hypCisternBanksFollowR239ToR243 (s : State) (b : Fin 16) (mask : BitVec 13) (pw : BitVec 2) (off : BitVec 23) (m : Fin 13) (_cause : Fin 3) (some_ : BitVec 13) : List Nat :=
  let st := s.fld (CIS_BSTAT b.val) CIS_BSTAT.STATE
  let base := 0x10000000000 + b.val * 0x800000
  [20]
  ++ given (st = 1) ([0])
  ++ given ((b.val ≠ 8) ∧ (b.val ≠ 9) ∧ (b.val ≠ 14) ∧ (b.val ≠ 15) ∧ (mask.toNat ≠ s.fld (CIS_BCTL b.val) CIS_BCTL.MASK)) (
    given ((st = 0 ∨ st = 1 ∨ st = 4)) ([1])
    ++ given (pw.toNat < 3 ∧ (st = 2 ∨ st = 3 ∨ st = 5)) ([2]))
  ++ given ((st = 0 ∨ st = 1 ∨ st = 4)) ([3])
  ++ given ((st = 2 ∨ st = 3)) ([4])
  ++ given (st = 5) ([5])
  ++ given (st = 4) ([6])
  ++ given ((st ≠ 5)) (
    let x := base + off.toNat / 8 * 8
    [11]
    ++ given (s.poisoned x = true) ([7])
    ++ given (s.poisoned x = false) (
      [10]
      ++ given ((b.val ≠ 8) ∧ (b.val ≠ 9)) ([8])
      ++ given ((b.val = 8 ∨ b.val = 9)) (
        [9])))
  ++ given (st = 0 ∧ s.fld (CIS_BCTL b.val) CIS_BCTL.MASK / 2 ^ m.val % 2 = 1) ([12])
  ++ given ((st ≠ 0 ∨ s.fld (CIS_BCTL b.val) CIS_BCTL.MASK / 2 ^ m.val % 2 = 0)) ([13])
  ++ given (st = 0 ∧ (some_.toNat &&& s.fld (CIS_BCTL b.val) CIS_BCTL.MASK ≠ 0)) ([14])
  ++ given (s.clkChange.find 8 = none ∧ s.fld (CLK_ISTAT 8) CLK_ISTAT.STATE = 0) ([15])
  ++ given (s.clkChange.find 8 = none ∧ (s.fld (CLK_ISTAT 8) CLK_ISTAT.STATE = 1
      ∨ s.fld (CLK_ISTAT 8) CLK_ISTAT.STATE = 2)) ([16])
  ++ given (s.clkChange.find 8 = none ∧ s.fld (CLK_ISTAT 8) CLK_ISTAT.STATE = 3) ([17])
  ++ given ((s.fld CIS_SRSTAT CIS_SRSTAT.WIPING = 0 ∨ s.islandRuns 8 = false)) ([18])
  ++ given (s.fld CIS_SRSTAT CIS_SRSTAT.WIPING = 1 ∧ s.islandRuns 8 = true) ([19])

/-- The clauses of IntervalsCloseCompareAndConfirm. -/
def hypIntervalsCloseCompareAndConfirm (s : State) (g : Fin 36) (i : Fin 3) (_n : Fin 64) : List Nat :=
  let x := s.group g.val
  let lead := s.memberCore g.val 0
  given (s.guarded g.val = true ∧ (s.memberIdx g.val).contains i.val = true ∧ (x.refresh ≠ some i.val)
      ∧ x.mayClose i.val = true ∧ s.entryDue g.val i.val = false ∧ (¬ (i.val = 0 ∧ x.cmd.isSome = true ∧ x.heldWaits 0 = true
      ∧ (s.nextCond lead).isNone = true))) ([0])
  ++ given (s.guarded g.val = true ∧ x.agreed = false ∧ 2 ≤ (s.voters g.val).length ∧ ((∀ j ∈ s.voters g.val,
      ∀ k ∈ s.voters g.val, s.sigEq g.val j k = true))) ([1])
  ++ (match x.shadow with
    | some _w => (match s.oldest g.val 0 with
    | some a => (match s.oldest g.val 1 with
    | some b => given (s.guarded g.val = true ∧ x.agreed = false ∧ s.voters g.val = [0, 1] ∧ x.attempts = 0
        ∧ ((a.sigState ≠ b.sigState ∨ a.sigOut ≠ b.sigOut)) ∧ a.inputs = b.inputs) ([2])
    | _ => [])
    | _ => [])
    | _ => [])
  ++ (match s.oldest g.val 0 with
    | some _iv => given (x.agreed = true ∧ x.cmd = none) ([3])
    | _ => [])
  ++ (match x.shadow with
    | some _w => given (s.guarded g.val = true ∧ x.agreed = false ∧ x.attempts = 0) ([4])
    | _ => [])
  ++ (match x.shadow with
    | some _w => (match s.oldest g.val 0 with
    | some _ => given (s.guarded g.val = true ∧ x.agreed = true ∧ x.attempts = 0) (
        [5])
    | _ => [])
    | _ => [])
  ++ (match x.shadow with
    | some _ => given (x.refresh = some i.val ∧ x.agreed = false ∧ (s.core (s.memberCore g.val i.val)).failed = false) ([6])
    | _ => [])

/-- The clauses of CheckersAndMembersAreReplaced. -/
def hypCheckersAndMembersAreReplaced (s : State) (g : Fin 36) (i : Fin 3) (k : Fin 40) (c : Fin 80) (_die : Option Word) : List Nat :=
  let x := s.group g.val
  (match x.request with
    | some r => given (s.guarded g.val = true ∧ (x.members.get Member.reset 0).closed = []
        ∧ (x.members.get Member.reset 0).retired = 0 ∧ s.opWaits (s.memberCore g.val 0) r = false) ([0])
    | _ => [])
  ++ given (s.chkRetired.contains k.val = false) ([1])
  ++ given (s.groupOf c.val = some g.val ∧ s.memberCore g.val (s.indexOf c.val) = c.val) ([2])
  ++ given (s.guarded g.val = true ∧ (s.memberIdx g.val).contains i.val = true
      ∧ (bits (s.rd (CST_MSAVE (s.memberCore g.val i.val) 0)).toNat 16 5 ≠ 0x12) ∧ s.memberCore g.val i.val < 80
      ∧ (((∃ e ∈ x.members, e.1 ≠ i.val ∧ (x.members.get Member.reset i.val).closed.length < e.2.closed.length) ∨ (i.val = 0
      ∧ (∃ e ∈ x.members, e.1 ≠ 0) ∧ ∀ e ∈ x.members,
      e.1 ≠ 0 → (x.members.get Member.reset 0).closed.length ≤ e.2.closed.length)))) ([3])
  ++ (match x.joining.head? with
    | some sp => given (sp < 80 ∧ sp ∉ x.joining.tail ∧ x.cmd = none ∧ s.role sp = 3
        ∧ (s.fld (TWN_GCFG g.val) TWN_GCFG.CHECKER ≠ 0xFF)) (
        given (s.gstate g.val = 3) ([4])
        ++ given (s.gstate g.val = 2) ([5]))
    | _ => [])

/-- The clauses of TwinCommandsFollowR166. -/
def hypTwinCommandsFollowR166 (s : State) : List Nat :=
  let g := s.fldIn TWN_CMD 0 TWN_CMD.GROUP
  let c := s.fldIn TWN_CMD 0 TWN_CMD.CORE
  let l := s.fldIn TWN_CMD 0 TWN_CMD.LEAD
  let a := s.inForce TWN_CMDARG 0
  let compared : Bool := decide (g < 36 ∧ (s.gstate g = 1 ∨ s.gstate g = 2) ∧ (s.group g).cmd = none)
  given (s.fld TWN_CMDSTAT TWN_CMDSTAT.BUSY = 0) (
    [9]
    ++ given (c < 80 ∧ s.role c = 0) ([0])
    ++ given (c < 80 ∧ s.role c = 1 ∧ 36 ≤ g ∧ a.toNat % 32 = 0) ([1])
    ++ (match (s.group g).shadow with
      | some _ => given (g < 36 ∧ (s.gstate g = 5 ∨ s.gstate g = 6) ∧ (s.fld (TWN_GCFG g) TWN_GCFG.CHECKER ≠ 0xFF)
          ∧ ((∀ i ∈ s.memberIdx g, s.role (s.memberCore g i) = 2))) ([2])
      | _ => [])
    ++ (match s.freeChecker with
      | some _ => given (g < 36 ∧ s.gstate g = 0 ∧ l < 80 ∧ c < 80 ∧ s.role l = 0 ∧ s.role c = 1 ∧ (l / 10 ≠ c / 10)) ([3])
      | _ => [])
    ++ given (g < 36 ∧ s.gstate g = 1 ∧ s.fld (TWN_GCFG g) TWN_GCFG.MODE = 1 ∧ (s.group g).cmd = none ∧ c < 80 ∧ s.role c = 1
        ∧ ((∀ i ∈ s.memberIdx g, s.memberCore g i / 10 ≠ c / 10))) ([4])
    ++ given (compared ∧ c < 80 ∧ s.groupOf c = some g ∧ a.toNat % 32 = 0) ([5])
    ++ given (compared) ([6])
    ++ given (g < 36 ∧ s.gstate g = 3 ∧ (s.group g).cmd = none) (
      [8]
      ++ given (c < 80 ∧ s.groupOf c = some g ∧ a.toNat % 32 = 0 ∧ s.memberIdx g = [0] ∧ s.memberCore g 0 = c) ([7])))

/-- The clauses of LinksFollowTheStateMachineOfR248. -/
def hypLinksFollowTheStateMachineOfR248 (s : State) (l : BitVec 8) : List Nat :=
  let n := l.toNat
  let st := s.lstate n
  let runs := s.laneMayRun n
  let ignored (j : Nat) (_i : Instr) (st' : Nat) : List Nat := given ((st ≠ st' ∨ runs = false)) ([j + 0])
  given (st = 0 ∧ runs = true) ([0])
  ++ given ((st ≠ 0 ∨ runs = false)) ([1])
  ++ given ((st ≠ 0)) ([2])
  ++ given (st = 0) ([3])
  ++ given (st = 1 ∧ runs = true) ([4])
  ++ given (st = 2 ∧ runs = true) ([5])
  ++ given (st = 3 ∧ runs = true) ([6])
  ++ given (runs = true) (
    let top := s.fld (LNK_CFG n) LNK_CFG.RETRAIN_MAX
    let next := min (s.fld (LNK_STAT n) LNK_STAT.TRAINFAIL + 1) LNK_STAT.TRAINFAIL.top
    let fails (j : Nat) (_i : Instr) : List Nat := given (next < top) ([j + 0])
      ++ given (top ≤ next ∧ s.runSpare n = none) ([j + 1])
      ++ (match s.runSpare n with
        | some _ => given (top ≤ next) ([j + 2])
        | _ => [])
    given (st = 2) (fails 7 (.trainingFailure l))
    ++ given (st = 3) (fails 10 (.lockTimeout l))
    ++ given (st = 4) (fails 13 (.initTimeout l)))
  ++ given (st = 6 ∧ runs = true) ([16])
  ++ given (st = 5 ∧ (s.link n).move = none) (
    [18]
    ++ given (runs = true) ([17]))
  ++ given ((st ≠ 5)) ([19])
  ++ ignored 20 (.autonegComplete l) 1
  ++ ignored 21 (.trainingComplete l) 2
  ++ ignored 22 (.trainingFailure l) 2
  ++ ignored 23 (.lockHeld l) 3
  ++ ignored 24 (.lockTimeout l) 3
  ++ ignored 25 (.initTimeout l) 4
  ++ ignored 26 (.retrainIdleEnd l) 6
  ++ ignored 27 (.lossOfLock l) 5
  ++ ignored 28 (.liveTimeout l) 5

/-- The clauses of PlannedSubstitutionFollowsR253. -/
def hypPlannedSubstitutionFollowsR253 (s : State) (l : BitVec 8) : List Nat :=
  let n := l.toNat
  let x := s.link n
  let st := s.lstate n
  (match s.runSpare n with
    | some _ => given (st = 5 ∧ x.move = none) ([0])
    | _ => [])
  ++ given ((st ≠ 5 ∨ x.move ≠ none ∨ s.runSpare n = none)) ([1])
  ++ given (x.move = none) ([2])
  ++ (match x.move with
    | some m => given (m.spare < 32) (
        let spare := 256 + m.spare
        given (s.laneRuns spare = true ∧ m.prepared = false ∧ m.committed = false) ([3])
        ++ given (s.laneRuns spare = true ∧ m.prepared = true ∧ m.committed = false ∧ x.work = [] ∧ x.replaying = []) ([4])
        ++ given (s.laneRuns spare = false) ([5])
        ++ given (m.committed = false ∧ st = 5 ∧ s.laneMayRun n = true) ([6])
        ++ given (m.committed = true) ([7])
        ++ given (m.committed = false ∧ (st ≠ 0)) ([8]))
    | _ => [])

/-- The clauses of ReceivedFramesFollowR257ToR262. -/
def hypReceivedFramesFollowR257ToR262 (s : State) (l : BitVec 8) (p : List Byte) (f : Frame) (recent : Bool) (during : Bool) : List Nat :=
  let n := l.toNat
  let x := s.link n
  let chk := (if s.flag (LNK_CTL n) LNK_CTL.ENCAP then s.decapsulate n p else some p).map checkPacket
  let covered := x.unacked.drop ((f.ackseq + 65536 - (x.unacked.map TxFrame.seq).headD 0) % 65536 + 1)
  let oldest := (x.unacked.map TxFrame.seq).headD 0
  given (s.lstate n = 5 ∧ s.laneMayRun n = true) (
    [16]
    ++ given (chk = some (.good f) ∧ f.typ = 0 ∧ f.ackv = false ∧ f.seq = x.expect ∧ x.expect < 65536) ([0])
    ++ given (chk = some (.good f) ∧ f.typ = 0 ∧ (f.seq ≠ x.expect) ∧ f.seq < 65536 ∧ x.expect < 65536 ∧ x.work = []
        ∧ x.replaying = []) (
      [1])
    ++ given (chk = some .badCrc ∧ recent = true ∧ x.nakFor = some x.expect) ([2])
    ++ given (chk = some .badCrc ∧ recent = false) ([3])
    ++ given ((chk = none ∨ chk = some .discard)) (
      [4])
    ++ given (chk = some (.good f) ∧ (f.typ = 1 ∨ f.typ = 3) ∧ f.ackv = true ∧ x.inWindow f.ackseq = true) ([5])
    ++ given (chk = some (.good f) ∧ f.typ = 2 ∧ x.inWindow f.ackseq = true ∧ (during = false ∨ x.nakReplay ≠ some f.ackseq)
        ∧ (covered ≠ []) ∧ 0 < s.fld (LNK_CFG n) LNK_CFG.RETRY_MAX ∧ x.unacked.length ≤ 4096 ∧ x.work = []) ([6])
    ++ given (chk = some (.good f) ∧ f.typ = 2 ∧ (x.unacked ≠ []) ∧ (f.ackseq + 1) % 65536 = oldest
        ∧ x.inWindow f.ackseq = false ∧ (during = false ∨ x.nakReplay ≠ some f.ackseq)) (
      given (x.replays < s.fld (LNK_CFG n) LNK_CFG.RETRY_MAX ∧ x.work = []) ([7])
      ++ given (s.fld (LNK_CFG n) LNK_CFG.RETRY_MAX ≤ x.replays ∧ x.move = none) ([8]))
    ++ given (chk = some (.good f) ∧ f.typ = 2 ∧ x.inWindow f.ackseq = true ∧ x.nakReplay = some f.ackseq ∧ x.work = []
        ∧ x.replaying = []) ([9])
    ++ (match x.move with
      | some m => given (chk = some (.good f) ∧ f.typ = 5 ∧ f.ackv = false ∧ x.work = [] ∧ x.replaying = [] ∧ m.spare < 32) (
          given (f.payload.take 1 = [1] ∧ m.locked = false) ([10])
          ++ given (f.payload.take 1 = [1] ∧ m.locked = true ∧ m.committed = false) ([11])
          ++ given (f.payload.take 1 = [2] ∧ m.committed = true) ([12])
          ++ given (f.payload.take 1 = [3] ∧ m.committed = false) ([13]))
      | _ => [])
    ++ given (chk = some (.good f) ∧ f.typ = 4 ∧ initGood f.payload = true ∧ x.move = none) ([14])
    ++ [15])
  ++ given (s.lstate n = 4 ∧ s.laneMayRun n = true ∧ chk = some (.good f) ∧ f.typ = 4 ∧ initGood f.payload = true) (
    let epoch := beNat ((f.payload.drop 4).take 4)
    let seen := x.initSeenRx || (beNat ((f.payload.drop 3).take 1)).testBit 0
    given ((x.peerKnown = false ∨ epoch ≠ x.peerEpoch)) (
      given ((seen = false ∨ x.initSeenTx = false)) ([17])
      ++ given (seen = true ∧ x.initSeenTx = true) ([18])))
  ++ given ((s.laneMayRun n = false ∨ (s.lstate n ≠ 5 ∧ s.lstate n ≠ 4))) ([19])
  ++ given ((s.laneMayRun n = false ∨ s.lstate n ≠ 5)) ([20])

/-- The clauses of LinkTransmissionFollowsR256ToR267. -/
def hypLinkTransmissionFollowsR256ToR267 (s : State) (l : BitVec 8) (m : List Byte) : List Nat :=
  let n := l.toNat
  let x := s.link n
  let runs := s.laneMayRun n
  let cls := mtClass (msgType m)
  given (s.lstate n = 5 ∧ runs = true) ([0])
  ++ given ((s.lstate n ≠ 5 ∨ runs = false)) ([1])
  ++ given (s.lstate n = 4 ∧ runs = true) (
    given ((x.initSeenRx = false ∨ (x.initRx = false ∧ x.initSeenTx = false))) ([2])
    ++ given (x.initSeenRx = true ∧ (x.initRx = true ∨ x.initSeenTx = true)) ([3]))
  ++ given ((s.lstate n ≠ 4 ∨ runs = false)) ([4])
  ++ given (s.lstate n = 5 ∧ runs = true ∧ (x.unacked ≠ [])) (
    given (x.replays < s.fld (LNK_CFG n) LNK_CFG.RETRY_MAX ∧ x.work = []) ([5])
    ++ given (s.fld (LNK_CFG n) LNK_CFG.RETRY_MAX ≤ x.replays ∧ x.move = none) ([6]))
  ++ given (x.unacked = []) ([7])
  ++ given (24 ≤ m.length ∧ m.length ≤ 4096 ∧ s.sluActs = true) (
    given (canSend s n cls m.length ∧ s.leveePasses n m = true) ([8])
    ++ given ((s.lstate n ≠ 5 ∨ runs = false ∨ (x.work = [] ∧ x.replaying = [] ∧ x.credit cls m.length = false))
        ∧ s.leveePasses n m = true) ([9])
    ++ given (s.leveePasses n m = false) ([10]))
  ++ given (24 ≤ m.length ∧ m.length ≤ 4096 ∧ s.sluActs = false) ([11])
  ++ given ((m.length < 24 ∨ 4096 < m.length)) ([12])

/-- The clauses of SessionCommandsFollowR274. -/
def hypSessionCommandsFollowR274 (s : State) : List Nat :=
  let n := s.fld SES_CMD SES_CMD.SESSION
  let a := s.fld SES_CMDARG SES_CMDARG.ADDR
  let k := s.session n
  let running : Bool := decide (s.fld SES_STAT SES_STAT.RUNNING = 1)
  let free : Bool := decide (s.sesInit = false ∧ s.sluActs = true)
  let readable : Bool := decide (a % 64 = 0 ∧ s.mayReach .sluice a = true ∧ s.poisonedRange a 64 = false)
  let opened : Session := { Session.closed with desc := s.bytes a 64 }
  let moved : Session := { k with desc := k.desc.take 8 ++ s.bytes (a + 8) 8 ++ k.desc.drop 16 }
  given (s.fld SES_CMDSTAT SES_CMDSTAT.BUSY = 0) (
    [20]
    ++ given ((a % 64 ≠ 0)) ([0])
    ++ given ((¬ running)) (
      [2]
      ++ given (a % 64 = 0) ([1]))
    ++ given (running ∧ free ∧ a % 64 = 0) (
      given ((k.state ≠ 0)) ([3])
      ++ given ((k.state ≠ 2)) ([4])
      ++ given ((k.state ≠ 2) ∧ (k.state ≠ 3)) ([5]))
    ++ given (running ∧ free ∧ a % 64 = 0 ∧ (¬ readable)) (
      given (k.state = 0) ([6])
      ++ given (k.state = 2) ([7]))
    ++ given (running ∧ free ∧ readable ∧ k.state = 0) (
      given (s.descBad n opened = true) ([8])
      ++ given (s.descBad n opened = false
          ∧ (s.others n).any (fun e => e.2.allot == opened.allot && e.2.bell == opened.bell) = true) ([9])
      ++ given (s.descBad n opened = false
          ∧ (s.others n).any (fun e => e.2.allot == opened.allot && e.2.bell == opened.bell) = false) (
        given (s.linkFull opened.links = true) ([10])
        ++ given (s.linkFull opened.links = false) ([11])))
    ++ given (running ∧ free) (
      given (k.state = 3 ∧ k.reason = 6) ([12])
      ++ given ((k.state = 2 ∨ k.state = 3 ∧ k.reason ≠ 6)) ([13])
      ++ (match s.unendedRecs n k.nextTseq with
        | [j] => given (k.state = 2 ∧ s.sesImage = false ∧ j < 4194304) ([14])
        | _ => []))
    ++ given (running ∧ free ∧ readable ∧ k.state = 2 ∧ k.desc.length = 64) (
      given (pathsBad moved = true) ([15])
      ++ given (pathsBad moved = false ∧ s.linkFull (moved.links.filter (fun l => !k.links.contains l)) = true) ([16])
      ++ given (pathsBad moved = false ∧ s.linkFull (moved.links.filter (fun l => !k.links.contains l)) = false
          ∧ moved.links.contains k.activeLink = true) ([17]))
    ++ given (free ∧ a % 64 = 0 ∧ s.rangeClass a = .normal ∧ k.desc.length = 64) ([18])
    ++ given ((¬ free) ∧ a % 64 = 0) ([19]))
  ++ given (s.fld SES_CMDSTAT SES_CMDSTAT.BUSY = 1) ([21])
  ++ given ((s.sesInit = false ∨ s.sluActs = false)) ([22])
  ++ given (s.sesInit = true ∧ s.sluActs = true) ([23])
  ++ given (s.fld SES_CFG SES_CFG.RUN = 0 ∧ s.fld SES_CMDSTAT SES_CMDSTAT.BUSY = 0 ∧ ((∀ e ∈ s.sessions, e.2.state = 0))) ([24])
  ++ given ((s.fld SES_CFG SES_CFG.RUN = 1 ∨ s.fld SES_CMDSTAT SES_CMDSTAT.BUSY = 1 ∨ (∃ e ∈ s.sessions, e.2.state ≠ 0))) ([25])

/-- The clauses of PeerMessagesFollowR285. -/
def hypPeerMessagesFollowR285 (s : State) (l : Nat) (m : List Byte) (rest : List (Nat × List Byte)) (i : Nat) : List Nat :=
  let n := msgDsess m
  let k := s.session n
  let b := msgBody m
  let f (o w : Nat) := beNat ((b.drop o).take w)
  let r := s.record i
  let x := s.xfer i
  let took := { s with inbox := rest }
  let read := (took.holderRead i .ok .ok).1
  given (s.inbox = (l, m) :: rest) (
    given (s.sluActs = false) ([0])
    ++ given (s.sluActs = true ∧ s.stillNamed l m = false ∧ (n ≠ 0xFFFFFF)) (
      given (msgType m = 2) ([1])
      ++ given (msgType m = 3) ([2])
      ++ given (msgType m = 4) ([3])
      ++ given (msgType m = 0x30) ([4])
      ++ given (msgType m = 0x21) ([5])
      ++ given (msgType m = 0x31) ([6])
      ++ given (msgType m = 0x32) ([7]))
    ++ given (s.sluActs = true ∧ s.stillNamed l m = true ∧ n < 262144) (
      given (msgType m = 2 ∧ f 0 1 = 0 ∧ 10 ≤ f 1 1 ∧ f 1 1 ≤ k.offered ∧ f 2 1 &&& k.opOffer = f 2 1) (
        given (k.state = 1) ([8])
        ++ given (k.state = 2) ([9]))
      ++ given (msgType m = 2 ∧ (f 0 1 ≠ 0)) (
        given (k.state = 1) ([10])
        ++ given (k.state = 2) ([11]))
      ++ given (msgType m = 3 ∧ k.state = 1) ([12])
      ++ given (msgType m = 3 ∧ k.state = 2) ([13])
      ++ given (msgType m = 4 ∧ k.state = 4 ∧ k.closing = some .sent) ([14])
      ++ given (s.msgRec m = some i ∧ ((took.holderRead i .ok .ok).2 ≠ none)) (
        given (msgType m = 0x30 ∧ r.state = 2) ([15])
        ++ given (msgType m = 0x21 ∧ r.inbound = true ∧ f 0 4 = x.nextOff
            ∧ x.nextOff + (b.drop 8).length ≤ wireLimit (s.session r.session) r ∧ (b.drop 8 ≠ []) ∧ x.tend = none) (
          given (r.isSealed = true) ([16])
          ++ (match read.dmaWrite (.flume l) (s.session r.session).allot (r.addr + x.nextOff) (b.drop 8) with
            | (_, 0) => given (r.isSealed = false ∧ r.squeeze = false ∧ x.bad = 0) ([17])
            | _ => []))
        ++ given (msgType m = 0x21 ∧ x.nextOff < f 0 4 ∧ s.msgError m true (f 0 4 + (b.drop 8).length) = false) ([18])
        ++ given (msgType m = 0x31 ∧ (r.inbound = false ∨ (r.isSealed = false ∧ r.squeeze = false ∧ f 8 4 ≤ x.nextOff
            ∧ s.inflating i = false)) ∧ x.bad = 0 ∧ f 8 4 ≤ wireLimit (s.session r.session) r
            ∧ (s.session r.session).state = 2) ([19]))
      ++ given (k.state = 2) (
        given (msgType m = 0x21 ∧ s.msgError m true (f 0 4 + (b.drop 8).length) = true) ([20])
        ++ given (msgType m = 0x31 ∧ s.msgError m false (f 8 4) = true) ([21]))
      ++ given (msgType m = 0x32) (
        given (k.attn < msgTseq m) ([22])
        ++ given (msgTseq m ≤ k.attn ∧ s.attnPending n (msgTseq m) = true) ([23])
        ++ given (msgTseq m ≤ k.attn ∧ s.attnPending n (msgTseq m) = false) ([24]))))

/-- The clauses of SessionTimersAndPathsFollowR298. -/
def hypSessionTimersAndPathsFollowR298 (s : State) (n : BitVec 18) (j : Fin 4) (_stalls _clears : List (BitVec 8)) : List Nat :=
  let id := n.toNat
  let k := s.session id
  given (s.sluActs = false) ([0])
  ++ given (s.sluActs = true) (
    given ((k.state = 1 ∨ k.state = 2)) ([1])
    ++ given ((k.state ≠ 1) ∧ (k.state ≠ 2)) ([2])
    ++ given (k.state = 1) ([3])
    ++ given ((k.state ≠ 1)) ([4])
    ++ given (k.state = 4 ∧ k.closing = some .sent) (
      [7]
      ++ (match s.resetLink k with
        | some _ => [5]
        | _ => [])
      ++ given (s.resetLink k = none) ([6]))
    ++ given (s.turnChange = 1) ([8])
    ++ given ((s.turnChange ≠ 1)) ([9])
    ++ given ((s.turnChange ≠ 1) ∧ s.fld SES_CFG SES_CFG.REVERT = 1 ∧ k.moving = true ∧ j.val < k.active
        ∧ s.pathLive k j.val = true) ([10])
    ++ given (k.moving = true ∧ s.bestPath k = none) ([11])
    ++ given (k.moving = true ∧ s.pathLive k k.active = true ∧ (s.floorOf id k ≠ k.floorSent)) ([12]))

/-- The clauses of DoorbellsReachTheTailrace. -/
def hypDoorbellsReachTheTailrace (s : State) (n : BitVec 18) (i : BitVec 22) (g : Nat) (rest : List (Nat × Nat)) : List Nat :=
  let id := n.toNat
  let k := s.session id
  let j := i.toNat
  let r := s.record j
  let c := s.num k.tcons 4
  let polled := { (s.emit 1).blockRead k.tcons 4 false with tailCons := s.tailCons.put k.tring c }
  let asked := polled.emit 1
  let kept : Bool := decide ((s.holderRead j .ok .ok).2 ≠ none)
  let va := s.num (k.dring + 16 * (k.nextDseq % 2 ^ k.dlog2)) 6
  let held : Bool := decide (s.sluActs = true)
  let waits : Bool := decide (k.state = 2 ∧ s.fld (ALT_ASTAT k.allot) ALT_ASTAT.STATE = 1 ∧ k.nextDseq ≠ k.bellDseq)
  given (held ∧ waits) ([0])
  ++ given ((¬ held ∨ ¬ waits)) ([1])
  ++ (match (asked.ioXlat k.allot va (0x090 + s.fld SLU_STAT SLU_STAT.HOLDER % 2) .read).2 with
    | some pa => (match fwordOf (s.bytes pa 32) with
    | w => given (held ∧ waits ∧ s.live = [] ∧ s.tailQueue = []
        ∧ (asked.ioXlat k.allot va (0x090 + s.fld SLU_STAT SLU_STAT.HOLDER % 2) .read).1 = asked
        ∧ s.mayReach .sluice pa = true ∧ s.poisonedRange pa 32 = false ∧ w.zero = true ∧ w.fin = true) (
        given (w.cmd ∉ [0, 1, 8, 9, 0xC, 0xD]) ([2])
        ++ given (w.isTrans = true ∧ w.countBad k = false ∧ w.isSealed = false ∧ w.squeeze = false
            ∧ (asked.emit 1).bufferGood k w = (asked.emit 1, true)) (
          given (s.fld (ALT_SHARE k.allot) ALT_SHARE.QLIMIT ≤ s.queued k.allot) ([3])
          ++ given (s.queued k.allot < s.fld (ALT_SHARE k.allot) ALT_SHARE.QLIMIT) ([4]))))
    | _ => [])
  ++ given (s.basinQueue = []) ([5])
  ++ given (s.basinQueue = (j, g) :: rest) (
    given ((s.fld CIP_BSTAT CIP_BSTAT.FREE < g ∨ s.basins.find j ≠ none)) ([6])
    ++ given (g ≤ s.fld CIP_BSTAT CIP_BSTAT.FREE ∧ s.basins.find j = none) ([7]))
  ++ given (s.stageQueue = []) ([8])
  ++ given (s.stageQueue = (j, g) :: rest) (
    let used := (s.stageHeld.map (fun e => e.2.length)).foldl (· + ·) 0;
    given (s.fld CMP_STAGE CMP_STAGE.SIZE < used + g) ([9])
    ++ given (used + g ≤ s.fld CMP_STAGE CMP_STAGE.SIZE) ([10]))
  ++ given (held ∧ s.sessions = [(id, k)] ∧ k.moving = true ∧ s.live = [j] ∧ r.session = id ∧ r.isSealed = false
      ∧ r.squeeze = false ∧ s.eligible j = true ∧ s.deficits = [] ∧ kept) (
    let d := s.fld (ALT_SHARE k.allot) ALT_SHARE.WEIGHT * 4096
    given (d < r.cost ∧ s.altImage = false) ([11])
    ++ given (r.cost ≤ d) ([12]))
  ++ given (held ∧ s.issueQueue.contains j = true ∧ s.issueQueue.eraseDups = s.issueQueue ∧ kept) (
    let p := s.session r.session
    given (s.pathLive p p.active = true) ([13])
    ++ given (s.pathLive p p.active = false) ([14]))
  ++ given (held ∧ s.issueQueue.contains j = false ∧ s.resendLate.contains j = true ∧ s.resendLate.eraseDups = s.resendLate) (
    let p := s.session r.session
    given (s.prepared j = true ∧ s.pathLive p p.active = true) ([15])
    ++ given ((s.prepared j = false ∨ s.pathLive p p.active = false)) ([16]))
  ++ given (s.issueQueue.contains j = false ∧ s.resendLate.contains j = false) ([17])
  ++ given (held ∧ k.state = 2) (
    given (s.tailQueue = [.record j] ∧ r.tpv = true ∧ r.session = id) ([18])
    ++ given ((match s.tailQueue with | [.other x (some _) _ _ _ _] => x == id | _ => false) = true) ([19]))
  ++ given (s.tailQueue = []) ([20])
  ++ given (held ∧ (k.state ≠ 0) ∧ s.tailQueue = [] ∧ s.live = [j]) (
    given (r.tpv = false) ([21])
    ++ given (r.ended = true ∧ r.tpv = true ∧ (s.session r.session).tring = k.tring
        ∧ (c + 2 ^ 32 - 1 - r.tpos) % 2 ^ 32 < 2 ^ 31) ([22]))
  ++ given ((¬ held)) ([23])

/-- The clauses of SluiceMastersFollowR307ToR318. -/
def hypSluiceMastersFollowR307ToR318 (s : State) (b : Bool) (_n ar as br bs : BitVec 16) (oseq : Word) : List Nat :=
  let holder := s.fld SLU_STAT SLU_STAT.HOLDER
  let e := s.fld SLU_OSEQ SLU_OSEQ.EMITTED
  let idle : Bool := decide (s.fld SLU_STAT SLU_STAT.BUSY = 0)
  [28]
  ++ given ((holder ≠ 2) ∧ ((∀ m, s.sluRuns m = true → (s.slu m).stopped = false ∧ s.masterRestoring m = false))) ([0])
  ++ given ((holder = 2 ∨ (s.sluRuns b = true ∧ ((s.slu b).stopped = true ∨ s.masterRestoring b = true)))) ([1])
  ++ given ((s.holds b = false ∨ s.fenced b = true)) ([2])
  ++ given (s.holds b = true ∧ s.fenced b = false) ([3])
  ++ given ((s.holds b = false ∨ s.fenced b = true ∨ s.sluState b ≠ 1 ∨ s.culvertShut (14 + b2n b) 8 = true)) ([4])
  ++ given (s.holds b = true ∧ s.fenced b = false ∧ s.sluState b = 1 ∧ s.culvertShut (14 + b2n b) 8 = false) (
    given (oseq.toNat ≤ e) ([5])
    ++ given (oseq.toNat = e + 1 ∧ s.turnChange = 0) ([6])
    ++ given (oseq.toNat = e + 1 ∧ s.turnChange = 1) ([7])
    ++ given (oseq.toNat = e + 1 ∧ s.turnChange = 2) ([8])
    ++ given (e + 1 < oseq.toNat) ([9]))
  ++ given ((holder ≠ 2)) ([10])
  ++ given (holder = 2) ([11])
  ++ given (s.fld SLU_LEASE SLU_LEASE.QUIET = 0) ([12])
  ++ given (s.fld SLU_LEASE SLU_LEASE.QUIET = 1 ∧ s.sluState b = 2 ∧ ((b = true → s.sluState false ≠ 2))) ([13])
  ++ given (s.fld SLU_LEASE SLU_LEASE.QUIET = 1 ∧ (s.sluState false ≠ 2) ∧ (s.sluState true ≠ 2)) ([14])
  ++ given (br.toNat < 625 ∧ bs.toNat < 625 ∧ s.sluRuns false = true ∧ 625 ≤ ar.toNat ∧ as.toNat < 625 ∧ s.flag SLU_STAT ⟨12,
      1⟩ = false) ([15])
  ++ given ((¬ idle)) ([16])
  ++ given (idle) (
    [23]
    ++ given (s.inTrickle = true) ([17])
    ++ given (s.inTrickle = false ∧ s.turnBusy = true) ([18])
    ++ given (s.inTrickle = false ∧ s.turnBusy = false) (
      given (s.bothRun = false) ([19])
      ++ given (s.bothRun = true) ([20])
      ++ given (s.outMaster = none) ([21])
      ++ (match s.outMaster with
        | some _ => [22]
        | _ => [])))
  ++ given (s.fld SLU_CFG SLU_CFG.SWAP_EN = 0) ([24])
  ++ given (s.fld SLU_CFG SLU_CFG.SWAP_EN = 1) (
    given (s.turnBusy = false ∧ s.bothRun = true ∧ s.inTrickle = false ∧ idle) ([25])
    ++ given ((s.turnBusy = true ∨ s.bothRun = false ∨ s.inTrickle = true ∨ ¬ idle)) ([26]))
  ++ (match s.staged.find SLU_CFG with
    | some _ => [27]
    | _ => [])

/-- The clauses of AllotmentsFollowR322ToR331. -/
def hypAllotmentsFollowR322ToR331 (s : State) (al : BitVec 12) (va : Word) (_master : BitVec 10) (ak : AccKind) (fails : BitVec 7) (n : Nat) : List Nat :=
  let a := s.fld ALT_CMD ALT_CMD.ALLOT
  let arg := s.fld ALT_CMDARG ALT_CMDARG.ARG
  let st := s.fld (ALT_ASTAT a) ALT_ASTAT.STATE
  let d := s.bytes arg 64
  let reach := fun n => s.rd (ALT_IOREACH al.toNat n)
  given (s.fld ALT_CMDSTAT ALT_CMDSTAT.BUSY = 0 ∧ s.altInit = false) (
    [14]
    ++ given (s.dramHeld = true) ([0])
    ++ given (a = 0) (
      [2]
      ++ given (s.dramHeld = false) ([1]))
    ++ given ((a ≠ 0)) (
      given (s.dramHeld = false ∧ (arg % 64 ≠ 0 ∨ 0x7FE0000000 < arg + 64)) ([3])
      ++ given (s.dramHeld = false ∧ arg % 64 = 0 ∧ arg + 64 ≤ 0x7FE0000000) (
        given ((st ≠ 0)) ([4])
        ++ given (st = 0 ∧ (s.poisonedRange arg 64 = true ∨ allotDescBad d = true)) ([5])
        ++ given (st = 0 ∧ s.poisonedRange arg 64 = false ∧ allotDescBad d = false) ([6]))
      ++ given ((st ≠ 1)) ([7])
      ++ given (st = 1) ([8])
      ++ given ((st ≠ 2) ∧ (st ≠ 3)) ([9])
      ++ given ((st = 2 ∨ st = 3)) ([10])
      ++ given ((st ≠ 3)) ([11])
      ++ given (st = 3 ∧ (s.sessions.any (fun e => e.2.state != 0 && e.2.allot == a)) = true) ([12])
      ++ given (st = 3 ∧ (s.sessions.any (fun e => e.2.state != 0 && e.2.allot == a)) = false) ([13])))
  ++ given (s.fld ALT_CMDSTAT ALT_CMDSTAT.BUSY = 0 ∧ s.altInit = true) ([15])
  ++ given (s.fld ALT_CMDSTAT ALT_CMDSTAT.BUSY = 1) ([16])
  ++ given ((s.altInit = false ∨ s.dramHeld = true)) ([17])
  ++ given (s.altInit = true ∧ s.dramHeld = false) ([18])
  ++ given (s.fld (ALT_ASTAT al.toNat) ALT_ASTAT.STATE = 2 ∧ s.allotIdle al.toNat = true) ([19])
  ++ given ((s.fld (ALT_ASTAT al.toNat) ALT_ASTAT.STATE ≠ 2 ∨ s.allotIdle al.toNat = false)) ([20])
  ++ let cached := (s.iotlb.get [] (ioSet va.toNat)).filter (fun t => t.covers (some al.toNat) va.toNat)
  given (selectReach reach va.toNat = none) ([21])
  ++ given (selectReach reach va.toNat = some n ∧ XLT_GREACH.TYPE.get (reach n) = 1) (
    given (permits (bit (reach n) 8) (bit (reach n) 9) true ak = true) ([22])
    ++ given (permits (bit (reach n) 8) (bit (reach n) 9) true ak = false) ([23]))
  ++ given (selectReach reach va.toNat = some n ∧ (XLT_GREACH.TYPE.get (reach n) ≠ 1)) (
    (match cached with
      | [e] => given (((ak = .write → e.dirtyKnown va.toNat = true))) (
          given (permits e.r e.w true ak = true) ([24])
          ++ given (permits e.r e.w true ak = false) ([25]))
      | _ => [])
    ++ (match s.walkTables (reach n) n va.toNat ak with
      | .inl (e, _) => given (cached = []) (
          given (marked e ak = e) ([26])
          ++ given ((marked e ak ≠ e) ∧ 64 ≤ fails.toNat) ([27])
          ++ given ((marked e ak ≠ e) ∧ fails.toNat < 64 ∧ s.fld (ALT_ACTL al.toNat) ALT_ACTL.LOGDIRTY = 0) ([28]))
      | _ => [])
    ++ (match s.walkTables (reach n) n va.toNat ak with
      | .inr f => given (cached = [] ∧ (f.kind ≠ kWALK) ∧ (f.kind ≠ kWALKDEV)) ([29])
      | _ => []))

/-- The clauses of KeyCommandsFollowR346ToR349. -/
def hypKeyCommandsFollowR346ToR349 (s : State) (e : Ecc) : List Nat :=
  let n := s.fld CIP_KCMD CIP_KCMD.SLOT
  let a := s.fld CIP_KARG CIP_KARG.ADDR
  let k := s.slot n
  let w0 := s.num a 8
  let ksize := w0 / 2 ^ 19 % 4
  let use := w0 / 2 ^ 44 % 32
  let len := 24 + 8 * ksize
  let zeros : Bool := decide ((s.bytes (a + 8 + len) (56 - len)).any (fun b => b != 0) = false)
  let good : Bool := decide (a % 64 = 0 ∧ a < 0x7FE0000000 ∧ w0 / 2 ^ 21 % 2 ^ 11 = 0 ∧ w0 / 2 ^ 51 % 2 ^ 13 = 0 ∧ ksize ≠ 3
      ∧ (use < 16 ∨ use = 16) ∧ zeros
      ∧ s.poisonedRange a 64 = false)
  let kik : Bool := decide (w0 / 2 ^ 18 % 2 = 1)
  given (s.fld CIP_KSTAT CIP_KSTAT.BUSY = 1) ([0])
  ++ given (s.fld CIP_KSTAT CIP_KSTAT.BUSY = 0) (
    given (s.wiping = true) (
      [2]
      ++ given (s.dramHeld = false) ([1]))
    ++ given (s.dramHeld = true) ([3])
    ++ given (s.wiping = false ∧ s.slotServed n = false) ([4])
    ++ given (s.wiping = false ∧ s.slotServed n = true) (
      [14]
      ++ given (s.dramHeld = false ∧ (a % 64 ≠ 0 ∨ 0x7FE0000000 ≤ a)) ([5])
      ++ given (s.dramHeld = false ∧ a % 64 = 0 ∧ a < 0x7FE0000000 ∧ (k.state ≠ 0)) ([6])
      ++ given (s.dramHeld = false ∧ a % 64 = 0 ∧ a < 0x7FE0000000 ∧ k.state = 0 ∧ s.mayReach .cipher a = false) ([7])
      ++ given (s.dramHeld = false ∧ a % 64 = 0 ∧ a < 0x7FE0000000 ∧ k.state = 0 ∧ s.mayReach .cipher a = true
          ∧ (w0 / 2 ^ 21 % 2 ^ 11 ≠ 0 ∨ w0 / 2 ^ 51 % 2 ^ 13 ≠ 0 ∨ ksize = 3 ∨ 16 < use ∨ ¬ zeros
          ∨ s.poisonedRange a 64 = true)) ([8])
      ++ given (good ∧ k.state = 0 ∧ s.dramHeld = false ∧ s.mayReach .cipher a = true) (
        given (s.kekOf w0 = none) ([9])
        ++ given ((¬ kik) ∧ e = .uncorrectable ∧ s.slotServed (w0 % 2 ^ 18) = true) ([10])
        ++ (match s.kekOf w0 with
          | some _ => given ((kik ∨ e ≠ .uncorrectable)) ([11])
          | _ => []))
      ++ given ((e ≠ .uncorrectable)) ([12])
      ++ given (e = .uncorrectable) ([13])))
  ++ (match s.staged.find CIP_CFG with
    | some _ => [15]
    | _ => [])
  ++ given (s.staged.find CIP_CFG = none) ([16])

/-- The clauses of FlumeDescriptorsFollowR351ToR357. -/
def hypFlumeDescriptorsFollowR351ToR357 (s : State) (l : Fin 288) (w0 w1 w2 w3 : Word) (_op : Fin 11) (i : BitVec 22) (fill : List (BitVec 16 × Byte)) (x : KeyRead) (b : Basin) : List Nat :=
  let q (o : Nat) := flumeReq o l w0 w1 w2 w3 fill x
  let u := s.fill (q 0)
  let txn := w3.toNat % 2 ^ 22
  let n := w0.toNat / 2 ^ 32 % 2 ^ 13
  let src := w1.toNat % 65536
  let src2 := w1.toNat / 65536 % 65536
  let dst := w1.toNat / 2 ^ 32 % 65536
  let len := w2.toNat / 2 ^ 32 % 65536
  let off := w2.toNat % 2 ^ 23
  let fits (o : Nat) : Bool := decide ((q o).zeroOk = true ∧ 0 < n ∧ n ≤ 4096 ∧ inBuf src (16 * n) = true
      ∧ inBuf dst (16 * n) = true)
  let aes (j : Nat) (o : Nat) (_i : Instr) (use : Nat) (_way : CipOp) : List Nat := given (fits o ∧ (q o).useH = false
      ∧ s.flumeSlot (q o) use = 0 ∧ (x.ecc ≠ .uncorrectable)) ([j + 0])
      ++ given (fits o ∧ (q o).useH = false ∧ (s.flumeSlot (q o) use ≠ 0) ∧ x.ecc = .ok) ([j + 1])
      ++ given (((q o).zeroOk = false ∨ (q o).useH = true ∨ n = 0 ∨ 4096 < n ∨ inBuf src (16 * n) = false
          ∨ inBuf dst (16 * n) = false)) ([j + 2])
  [22]
  ++ aes 0 1 (.flumeCipEnc l w0 w1 w2 w3 fill x) 1 .enc
  ++ aes 3 2 (.flumeCipDec l w0 w1 w2 w3 fill x) 2 .dec
  ++ given (fits 3 ∧ (q 3).useH = false ∧ inBuf src2 (16 * n) = true) ([6])
  ++ given (fits 3 ∧ (q 3).useH = true) (
    given (s.flumeSlot (q 3) 0 = 0) ([7])
    ++ given ((s.flumeSlot (q 3) 0 ≠ 0)) ([8]))
  ++ given (((q 3).zeroOk = false ∨ n = 0 ∨ 4096 < n ∨ inBuf src (16 * n) = false ∨ inBuf dst (16 * n) = false)) ([9])
  ++ given (((q 8).zeroOk = false ∨ n ≠ 0 ∨ len = 0 ∨ 4064 < len ∨ inBuf src len = false)) ([10])
  ++ given (s.cisState 14 = 0 ∧ (q 8).zeroOk = true ∧ n = 0 ∧ 0 < len ∧ len ≤ 4064 ∧ inBuf src len = true) (
    given (s.basins.find txn = some b ∧ b.phase = .filling ∧ off = b.data.length
        ∧ b.data.length + len ≤ b.granules * 65536) ([11])
    ++ given (s.basins.find txn = none ∧ (s.record txn).isSealed = false) ([12]))
  ++ given (((q 9).zeroOk = false ∨ n ≠ 0 ∨ inBuf src 16 = false ∨ inBuf src2 16 = false)) ([13])
  ++ given (s.cisState 14 = 0) (
    (match s.basins.find txn with
      | some b => given ((q 9).zeroOk = true ∧ n = 0 ∧ inBuf src 16 = true ∧ inBuf src2 16 = true) (
          given (u.fbuf l.val src 16 = u.fbuf l.val src2 16 ∧ b.phase = .filling ∧ off ≤ b.data.length) ([14])
          ++ given ((u.fbuf l.val src 16 ≠ u.fbuf l.val src2 16) ∧ (s.record txn).unended = true
              ∧ (s.record txn).inbound = true ∧ (s.record txn).isSealed = true ∧ (s.xfer txn).tend = none) ([15]))
      | _ => []))
  ++ (match s.basins.find i.toNat with
    | some b => (match b.phase with
    | .releasing m => given ((s.xfer i.toNat).tend = none ∧ s.fld (CIS_BSTAT 14) CIS_BSTAT.STATE = 0) (
        let r := s.record i.toNat
        let k := s.session r.session
        given ((s.record i.toNat).squeeze = false
            ∧ (({ s with basins := s.basins.erase i.toNat }.syncBasin).dmaWrite (.flume (k.path r.path)) k.allot r.addr (b.data.take m)).2 = 0) ([16])
        ++ given ((s.record i.toNat).squeeze = true) ([17]))
    | _ => [])
    | _ => [])
  ++ (match s.basins.find i.toNat with
    | some b => (match b.phase with
    | .releasing _ => given (s.fld (CIS_BSTAT 14) CIS_BSTAT.STATE = 0) ([18])
      ++ given ((s.fld (CIS_BSTAT 14) CIS_BSTAT.STATE ≠ 0)) ([19])
    | _ => [])
    | _ => [])
  ++ (match s.basins.find i.toNat with
    | some b => given (b.phase = .wiping) ([20])
    | _ => [])
  ++ given (s.basins.find i.toNat = none) ([21])

/-- The clauses of CompressionJobsFollowR360ToR377. -/
def hypCompressionJobsFollowR360ToR377 (s : State) (n : Fin 72) (e slot i : Nat) (ref : JobRef) (rest : List JobRef) (j : Job) : List Nat :=
  let t0 := { s with cmpCore := rest, cmpCoreNext := false, engines := s.engines.put e (.core slot) }
  let u := { s with engines := s.engines.erase n.val }
  let r := s.record i
  let ends : Bool := decide (s.sluActs = true ∧ (s.xfer i).tend ≠ none
      ∧ ((s.xfer i).tend.map (fun e => e.2.2.2.1)).getD 0 ≤ (s.xfer i).nextOff)
  given ((s.freeEngine = none ∨ s.nextJob = none)) ([0])
  ++ given (s.freeEngine = some e ∧ s.nextJob.map Prod.fst = some ref) ([1])
  ++ (match s.engines.find n.val with
    | some x => given (((match x with | .inflate k => s.inputWhole k | _ => true) = true)) ([2])
    | _ => [])
  ++ given (s.engines.find n.val = some (.inflate i) ∧ s.inputWhole i = false) ([3])
  ++ given (s.engines.find n.val = some (.inflate i) ∧ i < 4194304 ∧ s.sesImage = false ∧ r.unended = true ∧ ends
      ∧ s.inputWhole i = true) ([4])
  ++ given (s.engines.find n.val = some (.inflate i) ∧ i < 4194304 ∧ s.sesImage = false ∧ r.unended = true ∧ ends
      ∧ (s.xfer i).bad = 0) ([5])
  ++ given (s.freeEngine = some e) (
    given (s.cmpCoreNext = false ∧ s.cmpSession = ref :: rest ∧ (ref = .stage i ∨ ref = .inflate i ∧ (r.isSealed = true
        ∨ r.squeeze = false))) ([6])
    ++ given (s.cmpCoreNext = true ∧ s.cmpCore = .core slot :: rest ∧ s.jobs.find slot = some j) (
      given ((j.limit ≠ none)) (
        given ((t0.spRead (some j.allot) .compress j.save (saveSize j)).2.2 = 0) ([7])
        ++ given (((t0.spRead (some j.allot) .compress j.save (saveSize j)).2.2 ≠ 0)) ([8]))
      ++ given (j.limit = none ∧ j.op = 2 ∧ j.gather = false ∧ (t0.spRead (some j.allot) .compress j.src j.slen).2.2 = 0) (
        [9])))
  ++ given (s.engines.find n.val = none) ([10])
  ++ given (s.engines.find n.val = some (.core slot) ∧ s.jobs.find slot = some j ∧ j.allot < 4096 ∧ j.done = 0 ∧ j.links = []
      ∧ (j.out ≠ []) ∧ j.out.length ≤ j.dlen ∧ j.final = 0 ∧ (u.spWrite (some j.allot) .compress j.dst j.out).2 = 0) ([11])
  ++ given (s.engines.find n.val = some (.stage i)
      ∧ (u.dmaRead .compress (s.session r.session).allot r.addr r.count).2.2 = 0) ([12])
  ++ given (s.engines.find n.val = none) ([13])
  ++ given (s.engines.find n.val = some (.stage i)) ([14])
  ++ given (s.engines.find n.val = some (.core slot) ∧ s.jobs.find slot = some j ∧ j.allot < 4096) ([15])

/-- The clauses of ClockIslandsFollowR380ToR386. -/
def hypClockIslandsFollowR380ToR386 (s : State) (g : Fin 18) (i : Fin 17) (_far : Fin 18) (c : IslandChange) (rest : List Nat) : List Nat :=
  let a (n : Nat) := CLK_ISTAT n
  let st (t : State) (n : Nat) := t.fld (a n) CLK_ISTAT.STATE
  let div (t : State) (n : Nat) := t.fld (a n) CLK_ISTAT.DIV
  let d := div s i.val
  let cap := s.fld (a i.val) CLK_ISTAT.CAPDIV
  let want := s.fld (CLK_ICTL g.val) CLK_ICTL.DIV
  let f := s.fld (CLK_ICTL g.val) CLK_ICTL.FREQ
  let steady : Bool := decide (s.fld (CLK_ICTL g.val) CLK_ICTL.RUN_EN = 1 ∧ st s g.val = 0 ∧ g.val < 14
      ∧ s.fld (a g.val) CLK_ISTAT.BUSY = 0)
  let kept : Bool := decide (1000 ≤ f ∧ f ≤ islandFreq g.val ∧ f = s.freqOf g.val ∧ s.fld (a g.val) CLK_ISTAT.LOCK = 1
      ∧ s.fld (CLK_ICTL g.val) CLK_ICTL.SRC = s.fld (a g.val) CLK_ISTAT.SRC)
  given (s.fld (a g.val) CLK_ISTAT.BUSY = 1) ([0])
  ++ given (s.fld (a g.val) CLK_ISTAT.BUSY = 0 ∧ 14 ≤ g.val) ([1])
  ++ given (steady ∧ (f < 1000 ∨ islandFreq g.val < f)) ([2])
  ++ given (steady ∧ kept) (
    given (max want (s.fld (a g.val) CLK_ISTAT.CAPDIV) = div s g.val) ([3])
    ++ given ((max want (s.fld (a g.val) CLK_ISTAT.CAPDIV) ≠ div s g.val) ∧ g.val < 8 ∧ s.clkWait = []) ([4]))
  ++ given (st s g.val = 0 ∧ s.fld (a g.val) CLK_ISTAT.BUSY = 0 ∧ g.val < 14 ∧ (g.val ≠ 9)
      ∧ s.fld (CLK_ICTL g.val) CLK_ICTL.RUN_EN = 0 ∧ s.fld (CLK_ICTL g.val) CLK_ICTL.SLEEP_EN = 1) (
    given (s.leaveBad g.val = true) ([5])
    ++ given (s.leaveBad g.val = false ∧ 1000 ≤ f ∧ f ≤ islandFreq g.val) ([6]))
  ++ given (s.clkWait = []) ([7])
  ++ given (s.clkWait = i.val :: rest ∧ s.clkChange.find i.val = none) ([8])
  ++ given (s.clkWait = i.val :: rest ∧ s.clkChange.find i.val = some c ∧ c.origin = 0 ∧ c.target = 0 ∧ c.relock = false
      ∧ c.src = s.fld (a i.val) CLK_ISTAT.SRC ∧ (max c.div cap ≠ d)) ([9])
  ++ given (s.clkChange.find i.val = none) (
    [11]
    ++ [10])
  ++ given (s.clkChange.find i.val = some c ∧ c.div ≤ 7 ∧ c.result < 256 ∧ c.src < 2) (
    given (c.phase = .ramp ∧ (max c.div cap ≠ d)) ([12])
    ++ given (c.phase = .down) ([13])
    ++ given (c.phase = .switching) ([14])
    ++ given (c.phase = .waking ∧ (c.origin ≠ 1)) ([15])
    ++ given (c.phase = .waking ∧ (c.origin = 1 ∨ s.fld (a i.val) CLK_ISTAT.LOCK = 1)) ([16])
    ++ given (c.phase = .draining ∧ i.val < 14 ∧ c.target < 4) ([17])
    ++ given (c.phase = .locking) ([18])
    ++ given (c.phase = .waking ∧ s.fld (a i.val) CLK_ISTAT.LOCK = 1 ∧ c.origin = 1 ∧ c.target = 0 ∧ c.relock = false
        ∧ c.src = s.fld (a i.val) CLK_ISTAT.SRC) ([19])
    ++ given (c.phase = .draining) (
      given (c.target = 1) ([20])
      ++ given (c.target = 2 ∧ i.val < 8) ([21])
      ++ given (c.target = 3 ∧ i.val < 8) ([22])
      ++ given (c.back ≤ 7) ([23])))

/-- The clauses of ReferenceCulvertsAndPowerFollowR380ToR396. -/
def hypReferenceCulvertsAndPowerFollowR380ToR396 (s : State) (i : Fin 17) (x y : Fin 18) (errs : Fin 5) (p : BitVec 12) (k : Nat) : List Nat :=
  let holdover := s.fld CLK_REFSTAT CLK_REFSTAT.HOLDOVER
  let locked := s.fld CLK_REFSTAT CLK_REFSTAT.REFLOCK
  let ceil := s.fld LEV_PCEIL LEV_PCEIL.CEIL_W
  let limit := s.fld LEV_PLIMIT LEV_PLIMIT.LIMIT_W
  [19]
  ++ given (locked = 0) ([0])
  ++ given (locked = 1) ([1])
  ++ given (holdover = 0) ([2])
  ++ given (holdover = 1) ([3])
  ++ given ((s.fld (CLK_ISTAT i.val) CLK_ISTAT.LOCK = 0 ∨ locked = 0)) ([4])
  ++ given (s.fld (CLK_ISTAT i.val) CLK_ISTAT.LOCK = 1 ∧ locked = 1) ([5])
  ++ given ((s.culvertBroken x.val y.val = true ∨ s.islandRuns y.val = false ∨ errs.val = 0)) ([6])
  ++ given (s.culvertBroken x.val y.val = false ∧ s.islandRuns y.val = true ∧ 0 < errs.val) ([7])
  ++ given (s.heatFloor ≤ 7) (
    [12]
    ++ given (ceil < p.toNat) ([8])
    ++ given (p.toNat ≤ ceil ∧ ceil * 95 < p.toNat * 100) ([9])
    ++ given (p.toNat * 100 ≤ ceil * 95 ∧ s.fastLow < 63) ([10])
    ++ given (p.toNat * 100 ≤ ceil * 95 ∧ s.fastLow = 63) ([11]))
  ++ given (limit < p.toNat ∧ s.capVictim = some k) ([13])
  ++ given (limit < p.toNat ∧ s.capVictim = none) ([14])
  ++ given (p.toNat ≤ limit ∧ limit * 9 ≤ p.toNat * 10) ([15])
  ++ given (p.toNat * 10 < limit * 9 ∧ 99 ≤ s.slowLow
      ∧ firstIdx 8 (fun n => !s.flag (CLK_ISTAT n) CLK_ISTAT.BUSY && decide (s.divOf n < s.fld (CLK_ISTAT n) CLK_ISTAT.CAPDIV)) = some k) ([16])
  ++ given (s.fld LEV_PSTAT LEV_PSTAT.CLAMPED = 0) ([17])
  ++ given (s.fld LEV_PSTAT LEV_PSTAT.CLAMPED = 1) ([18])

/-- The clauses of StartsBeginAsR399AndR465Give. -/
def hypStartsBeginAsR399AndR465Give (s : State) (_high : Bool) (o : StartOutcome) (code _step : BitVec 4) (lane : Fin 288) (n : Fin 8) (ch : Fin 17) (ok : Bool) (_us : BitVec 32) : List Nat :=
  let fld (f : Fld) := s.fld HWK_SSTAT f
  let notReady : Bool := decide (s.fld HWK_SSTAT HWK_SSTAT.PHASE = 0 ∨ s.fld HWK_SSTAT HWK_SSTAT.BASEMASK ≠ 0
      ∨ s.fld LGR_STAT LGR_STAT.STATE ≠ 2)
  [25]
  ++ given (s.prst = false ∧ s.pwrLow = false) ([0])
  ++ given (s.prst = false) ([1])
  ++ given (s.prst = true ∧ s.pwrLow = false ∧ s.vinLow = false ∧ s.scanHold = false) ([2])
  ++ given (s.prst = true ∧ (s.pwrLow = true ∨ s.vinLow = true ∨ s.scanHold = true)) ([3])
  ++ given (s.pwrLow = false) ([4])
  ++ given (s.pwrLow = true ∧ s.prst = false ∧ s.vinLow = false ∧ s.scanHold = false) ([5])
  ++ given (s.pwrLow = true ∧ (s.prst = true ∨ s.vinLow = true ∨ s.scanHold = true)) ([6])
  ++ given ((s.prst = true ∨ s.pwrLow = true)) ([7])
  ++ given (s.vinLow = true) ([8])
  ++ given (s.vinLow = false) ([9])
  ++ given ((s.inReset = true ∨ s.fallow = true)) ([10])
  ++ given (s.inReset = false ∧ s.fallow = false) (
    [24]
    ++ given (notReady) ([11])
    ++ given ((¬ notReady)) ([12])
    ++ given (s.startStage = .begun ∧ o.bist = [] ∧ (List.range 8).all (fun i => s.badIslands.contains i) = false
        ∧ (s.sluState false ≠ 4)) (
      given (fld HWK_SSTAT.KIND = 0 ∧ o.refLock = true) ([13])
      ++ given (fld HWK_SSTAT.KIND = 1) ([14]))
    ++ given (s.startStage = .loaded) (
      given (fld HWK_SSTAT.KIND = 0 ∧ o.baseFail = []) ([15])
      ++ given (fld HWK_SSTAT.KIND = 1 ∧ o.dramFail = []) ([16]))
    ++ (match s.startStage with
      | .image _ => given (s.imageIn.full = false) ([17])
      | _ => [])
    ++ given ((s.startStage ≠ .idle) ∧ fld HWK_SSTAT.PHASE = 0) (
      [19]
      ++ given (1 ≤ code.toNat ∧ code.toNat ≤ 7) ([18]))
    ++ given ((fld HWK_SSTAT.PHASE ≠ 3) ∧ (ok = true ∨ 256 ≤ s.fld (LNK_PSTAT lane.val) LNK_PSTAT.CARRIES)) ([20])
    ++ given (fld HWK_SSTAT.PHASE = 1 ∧ s.nextTrain n.val = some ch.val ∧ (fld HWK_SSTAT.BASEMASK).testBit n.val = true) ([21])
    ++ given (fld HWK_SSTAT.PHASE = 1 ∧ s.mayTransit = true) ([22])
    ++ given (fld HWK_SSTAT.PHASE = 2 ∧ s.clkChange = []) ([23]))

/-- The clauses of StartsProceedAsR401ToR417Give. -/
def hypStartsProceedAsR401ToR417Give (s : State) (o : StartOutcome) (code _step : BitVec 4) (lane : Fin 288) (n : Fin 8) (ch : Fin 17) (_ok : Bool) (_us : BitVec 32) (typ l k : Nat) : List Nat :=
  let fld (f : Fld) := s.fld HWK_SSTAT f
  let run : Bool := decide (s.inReset = false ∧ s.fallow = false)
  let early : Bool := decide (fld HWK_SSTAT.KIND = 0 ∧ fld HWK_SSTAT.COLDFAIL < 2 ∧ fld HWK_SSTAT.PHASE = 0)
  given (run ∧ s.startStage = .begun ∧ early) (
    given (o.refLock = false) ([0])
    ++ given (o.refLock = true ∧ o.bist.contains .vital = true) ([1])
    ++ given (o.refLock = true ∧ o.bist = [] ∧ (List.range 8).all (fun i => s.badIslands.contains i) = false
        ∧ (s.sluState false ≠ 4)) ([2]))
  ++ given (run ∧ s.startStage = .begun ∧ fld HWK_SSTAT.KIND = 1 ∧ o.bist = []
      ∧ (List.range 8).all (fun i => s.badIslands.contains i) = false ∧ (s.sluState false ≠ 4) ∧ s.bypass = false) ([3])
  ++ given (fld HWK_SSTAT.KIND = 1) ([4])
  ++ given (fld HWK_SSTAT.KIND = 0) ([5])
  ++ given (run ∧ s.startStage = .image 1 ∧ fld HWK_SSTAT.KIND = 0 ∧ s.bypass = false) (
    given (s.imageIn.full = false) ([6])
    ++ given (s.imageIn.full = true ∧ s.imageIn.tries < 2) (
      [7]))
  ++ given (run ∧ s.startStage = .loaded ∧ fld HWK_SSTAT.KIND = 0 ∧ o.baseFail = []) ([8])
  ++ given (run ∧ s.startStage = .loaded ∧ early ∧ (n, ch) ∈ o.baseFail ∧ ch.val < 16 ∧ (n, (16 : Fin 17)) ∈ o.baseFail
      ∧ s.fld (DRM_SSTAT n.val) DRM_SSTAT.SPARED = 31) ([9])
  ++ given (run ∧ s.startStage = .loaded ∧ fld HWK_SSTAT.KIND = 1) (
    given (o.dramFail = []) ([10])
    ++ given ((o.dramFail ≠ [])) ([11]))
  ++ given (run ∧ s.startStage = .image typ ∧ s.imageIn.full = false ∧ early) ([12])
  ++ given ((s.startStage = .idle ∨ s.startStage = .begun ∨ s.startStage = .loaded ∨ s.imageIn.full = true)) ([13])
  ++ given (run ∧ (s.startStage ≠ .idle) ∧ early) ([14])
  ++ given (run ∧ (fld HWK_SSTAT.PHASE = 1 ∨ fld HWK_SSTAT.PHASE = 2)) (
    given (s.fld HWK_SCFG HWK_SCFG.HOLD_TRICKLE = 0) ([15])
    ++ given (s.fld HWK_SCFG HWK_SCFG.HOLD_TRICKLE = 1) ([16]))
  ++ given ((fld HWK_SSTAT.PHASE = 3 ∨ s.inReset = true ∨ s.fallow = true)) ([17])
  ++ given ((code.toNat = 0 ∨ 7 < code.toNat)) ([18])
  ++ given (s.startStage = .idle ∧ 1 ≤ code.toNat ∧ code.toNat ≤ 7) ([19])
  ++ given (run ∧ (s.startStage ≠ .idle) ∧ 1 ≤ code.toNat ∧ code.toNat ≤ 7) (
    given (early) ([20])
    ++ given (fld HWK_SSTAT.KIND = 0 ∧ 2 ≤ fld HWK_SSTAT.COLDFAIL) ([21])
    ++ given (fld HWK_SSTAT.KIND = 1 ∧ fld HWK_SSTAT.WARMFAIL = 2) ([22]))
  ++ given (run ∧ (fld HWK_SSTAT.PHASE ≠ 3) ∧ s.loopDone.contains lane.val = false) (
    [25]
    ++ given (s.fld (LNK_PSTAT lane.val) LNK_PSTAT.CARRIES = l ∧ l < 256
        ∧ { s with loopFail := insertNat s.loopFail lane.val }.freeSpare l = some k ∧ k < 32) ([23])
    ++ given (s.fld (LNK_PSTAT lane.val) LNK_PSTAT.CARRIES = l ∧ (256 ≤ l
        ∨ { s with loopFail := insertNat s.loopFail lane.val }.freeSpare l = none)) ([24]))
  ++ given ((fld HWK_SSTAT.PHASE = 3 ∨ s.inReset = true ∨ s.fallow = true ∨ s.loopDone.contains lane.val = true)) ([26])
  ++ given (fld HWK_SSTAT.PHASE = 1 ∧ (fld HWK_SSTAT.BASEMASK).testBit n.val = true ∧ s.nextTrain n.val = some ch.val) ([27])
  ++ given ((fld HWK_SSTAT.PHASE ≠ 1)) ([28])
  ++ given (run) (
    given (fld HWK_SSTAT.PHASE = 1 ∧ s.mayTransit = true) ([29])
    ++ given (fld HWK_SSTAT.PHASE = 0) ([30])
    ++ given (fld HWK_SSTAT.PHASE = 3 ∧ s.rateDue = true ∧ ((∀ l ∈ s.fullLinks, s.lstate l = 5 ∨ s.lstate l = 7))) ([31])
    ++ given (fld HWK_SSTAT.PHASE = 3 ∧ s.rateDue = false) ([32])
    ++ given (fld HWK_SSTAT.PHASE = 2 ∧ s.clkChange = []) ([33])
    ++ given (fld HWK_SSTAT.PHASE = 1 ∧ s.mayTransit = false) ([34]))

/-- The clauses of ChainFramesFollowR419ToR434. -/
def hypChainFramesFollowR419ToR434 (s : State) (f : HrFrame) (_spent trip : BitVec 32) (code : Byte) : List Nat :=
  let on : Bool := decide (s.bypass = false ∧ s.inReset = false)
  let a := f.hop.toNat + 1
  let addr := s.fld HRC_ENUM HRC_ENUM.ADDR
  let len := f.payload.length
  let delay := beNat ((f.payload.drop 8).take 4)
  let updelay := s.fld HRC_ENUM HRC_ENUM.UPDELAY
  let now := (s.rd HRC_TIME).toNat
  let target := beNat (f.payload.take 8) + (delay + updelay) / 16
  given ((s.bypass = true ∨ s.inReset = true)) ([0])
  ++ given (on ∧ f.crcGood = false) ([1])
  ++ given (on ∧ f.crcGood = true) (
    given (f.typ = 1 ∧ f.payload = [] ∧ s.fld HRC_STAT HRC_STAT.TAIL = 0) ([2])
    ++ given (f.typ = 0x84 ∧ len = 8) ([3])
    ++ given (f.typ = 4 ∧ len = 8) (
      given (s.pings = 0) ([4])
      ++ given (1 < s.pings) ([5])
      ++ given (s.pings = 1 ∧ (s.pingSum + (trip.toNat - beNat f.payload)) / 32 < 2 ^ 32) ([6]))
    ++ given (f.typ = 2 ∧ len = 16) (
      given (addr ≤ 1 ∧ (addr = 0 ∨ a = addr)) ([7])
      ++ given (1 < addr ∧ a = addr ∧ (s.fld HRC_STAT HRC_STAT.TIMEVALID = 0 ∨ (target ≤ now + 1 ∧ now ≤ target + 1))) ([8]))
    ++ given (hrGood false f.typ.toNat len = false) ([9])
    ++ given (hrGood true f.typ.toNat len = false) ([10])
    ++ given (f.typ = 0x81 ∧ 8 ≤ len ∧ len ≤ 40) ([11])
    ++ given (f.typ = 0x82 ∧ len = 16) ([12]))
  ++ given ((s.bypass = true ∨ s.inReset = true ∨ addr ≠ 1 ∨ now % 156250 ≠ 0)) ([13])
  ++ given (on ∧ addr = 1 ∧ now % 156250 = 0) ([14])
  ++ given (s.noticeHeld.find code.toNat = none) ([15])
  ++ (match s.noticeHeld.find code.toNat with
    | some _ => given (on ∧ (code.toNat ≠ 3) ∧ s.noticed.contains code.toNat = true) ([16])
    | _ => [])
  ++ given (s.fld HRC_STAT HRC_STAT.HOLDOVER = 0) ([17])
  ++ given (s.fld HRC_STAT HRC_STAT.HOLDOVER = 1 ∧ s.inReset = false ∧ s.fld HRC_STAT HRC_STAT.SPARE_RX = 0) ([18])
  ++ given (s.fld HRC_STAT HRC_STAT.SPARE_RX = 0) ([19])
  ++ given (s.fld HRC_STAT HRC_STAT.SPARE_RX = 1 ∧ s.repair.contains (repHrRx, 0) = false
      ∧ (s.fld HRC_STAT HRC_STAT.HOLDOVER = 1 ∨ s.fld HRC_STAT HRC_STAT.UPLOCK = 0)) ([20])
  ++ given (on) (
    [23]
    ++ given (s.fld HRC_STAT HRC_STAT.SPARE_TX = 1) ([21])
    ++ given (s.fld HRC_STAT HRC_STAT.SPARE_TX = 0) ([22]))

/-- The clauses of ManagementCommandsFollowR433. -/
def hypManagementCommandsFollowR433 (s : State) (f : HrCmd) (_op : Byte) (typ : Nat) (kind : Nat) : List Nat :=
  let mine : Bool := decide (s.cmdForMe f.addr.toNat = true)
  let good (op : Nat) : Bool := decide (cmdWellFormed op f.rest = true)
  let arg := f.rest.drop 7
  let b1 := (f.rest.headD 0).toNat
  let pa := beNat arg
  let pw := beNat (arg.take 8)
  let off (p : Nat) := p - 0xF00000000000
  given (s.bypass = false ∧ s.inReset = false ∧ f.crcGood = true ∧ 7 ≤ f.rest.length ∧ f.rest.length ≤ 1031) (
    given (s.cmdForMe f.addr.toNat = false) ([0])
    ++ given (mine ∧ f.full = true) ([1])
    ++ given (mine ∧ f.full = false) (
      [19]
      ++ given (good 1) ([2])
      ++ given (good 2 ∧ s.fallow = false ∧ isCsrAddr pa = true) (
        given (s.csrRefused mstHrc (off pa) 8 = none ∧ s.latWindow (off pa) = false) ([3])
        ++ given ((s.csrRefused mstHrc (off pa) 8 ≠ none)) ([4]))
      ++ given (s.fallow = true ∧ 3 ≤ kind ∧ kind ≤ 7 ∧ good kind) ([5])
      ++ given (s.fallow = false) (
        given (good 3 ∧ isCsrAddr pw = true ∧ s.csrRefused mstHrc (off pw) 8 = none ∧ s.latWindow (off pw) = false) ([6])
        ++ given (good 4 ∧ b1 = 2) ([7])
        ++ given (good 3 ∧ isCsrAddr pw = true ∧ (s.csrRefused mstHrc (off pw) 8 ≠ none)) ([8])
        ++ given (good 4 ∧ b1 = 1 ∧ s.warmRefused = true) ([9])
        ++ given (good 4 ∧ b1 = 1 ∧ s.warmRefused = false) ([10])
        ++ given (good 4 ∧ (b1 ≠ 1) ∧ (b1 ≠ 2) ∧ (b1 ≠ 3)) ([11])
        ++ given (good 5 ∧ 80 ≤ b1) ([12])
        ++ given (good 4 ∧ b1 = 3) ([13])
        ++ given (good 5 ∧ b1 < 80 ∧ s.fld (HRC_MBOX b1) HRC_MBOX.FULL = 1) ([14])
        ++ given (good 5 ∧ b1 < 80 ∧ s.fld (HRC_MBOX b1) HRC_MBOX.FULL = 0) ([15])
        ++ given (good 6 ∧ (s.startStage = .image typ ∨ s.startStage = .patch typ) ∧ s.imageIn.full = false
            ∧ beNat ((f.rest.drop 1).take 2) = s.imageIn.req ∧ beNat ((f.rest.drop 3).take 4) = s.imageIn.data.length) ([16])
        ++ given (good 7 ∧ (s.hrAddr ≠ 1)) ([17])
        ++ given (good 7 ∧ s.hrAddr = 1) ([18]))))

/-- The clauses of RotationsFaultsAndSparesFollowR436ToR452. -/
def hypRotationsFaultsAndSparesFollowR436ToR452 (s : State) (v _addr _w : Word) (code : BitVec 8) (_m : BitVec 10) (_acc : BitVec 4) (_n : Fin 45) (c : Fin 80) (ppm : BitVec 17) (reason : Nat) (sp : Nat) : List Nat :=
  let named := s.fld SPR_CMD SPR_CMD.CORE
  let period := v.toNat % 2 ^ 22
  let ahead := (v.toNat / 2 ^ 24 * 156250 + 2 ^ 40 * 156250 - (s.rd HRC_TIME).toNat % (2 ^ 40 * 156250)) % (2 ^ 40 * 156250)
  [21]
  ++ given ((s.fld HRC_STAT HRC_STAT.TIMEVALID = 0 ∨ s.inReset = true)) ([0])
  ++ given (s.fld HRC_STAT HRC_STAT.TIMEVALID = 1 ∧ s.inReset = false) ([1])
  ++ given (1 ≤ period ∧ period ≤ 3600000 ∧ 156250 ≤ ahead ∧ ahead ≤ 2 ^ 39 * 156250) ([2])
  ++ given ((period = 0 ∨ 3600000 < period ∨ ahead < 156250 ∨ 2 ^ 39 * 156250 < ahead)) ([3])
  ++ given (faultCodeOk code.toNat = true) ([4])
  ++ given (bit v 0 = false) ([5])
  ++ given (bit v 0 = true) ([6])
  ++ [7]
  ++ given (s.fld SPR_STAT SPR_STAT.BUSY = 1) ([8])
  ++ given (s.rowsUsed = [] ∧ s.sprNeeds = []) (
    [11]
    ++ given (s.fld SPR_CFG SPR_CFG.RO_LIMIT_PPM ≤ ppm.toNat ∧ s.role c.val = 0 ∧ s.clusterSpare c.val = some sp
        ∧ s.sprDeferred = [] ∧ s.fld SPR_REQ SPR_REQ.VALID = 0) ([9])
    ++ given (2 * ppm.toNat < s.fld SPR_CFG SPR_CFG.RO_LIMIT_PPM) ([10]))
  ++ given (s.fld SPR_STAT SPR_STAT.BUSY = 0) (
    [17]
    ++ given (named < 80 ∧ s.role named = 0) ([12])
    ++ given (s.sprNamed = false) (
      [14]
      ++ given ((s.role named ≠ 0)) ([13]))
    ++ given (s.sprNamed = true ∧ named = c.val ∧ s.sprNeeds = []) (
      given (s.role named = 1 ∧ s.clusterSpare named = some sp) ([15])
      ++ given (s.role named = 0) ([16])))
  ++ given (s.sprDeferred.contains c.val = false) ([18])
  ++ given (s.sprDeferred.contains c.val = true ∧ s.sprNeeds = [(c.val, reason)]) (
    [20]
    ++ given (s.role c.val = 0 ∧ s.clusterSpare c.val = some sp ∧ s.fld SPR_REQ SPR_REQ.VALID = 0) ([19]))

/-- The clauses of PinsLifeCycleAndTapFollowR467ToR472. -/
def hypPinsLifeCycleAndTapFollowR467ToR472 (s : State) (_tj _tin _tout : BitVec 8) (_pins _pre : BitVec 587) : List Nat :=
  let lcs := s.fld LCS_STAT LCS_STAT.STATE
  let target := s.fld LCS_CMD LCS_CMD.TARGET
  let typ := s.fld LCS_FCMD LCS_FCMD.TYPE
  let svn := s.fld LCS_FCMD LCS_FCMD.SVN
  let key := s.fld LCS_FCMD LCS_FCMD.KEYIDX
  let revoked := s.fld LCS_FSTAT LCS_FSTAT.REVOKED
  let vault : Bool := decide (s.clkChange.find 8 = none ∧ s.fld (CLK_ISTAT 8) CLK_ISTAT.STATE = 0)
  [34]
  ++ given ((s.prst = true ∨ s.pwrLow = true ∨ s.vinLow = true ∨ s.tamper = true)) ([0])
  ++ given (s.prst = false ∧ s.pwrLow = false ∧ s.vinLow = false ∧ s.tamper = false ∧ vault) ([1])
  ++ given (s.prst = false ∧ s.pwrLow = false ∧ s.vinLow = false ∧ s.tamper = false) ([2])
  ++ given (s.fld LCS_STAT LCS_STAT.BUSY = 1) ([3])
  ++ given (s.fld LCS_STAT LCS_STAT.BUSY = 0) (
    given ((target = 4 ∨ (target = lcs + 1 ∧ target < 4))) ([4])
    ++ given (5 ≤ target) ([5])
    ++ given (target < 4 ∧ (target ≠ lcs + 1)) ([6])
    ++ given ((target = 4 ∨ (target = lcs + 1 ∧ target < 4)) ∧ vault) ([7]))
  ++ given (s.fld LCS_FSTAT LCS_FSTAT.BUSY = 1) ([8])
  ++ given (s.fld LCS_FSTAT LCS_FSTAT.BUSY = 0) (
    [25]
    ++ given ((lcs ≠ 1)) ([9])
    ++ given (lcs = 1) (
      given ((s.oemHash ≠ none)) ([10])
      ++ given ((s.kik ≠ none)) ([11])
      ++ given (s.oemHash = none ∧ s.fuseAreaGood 48 = false) ([12])
      ++ given (s.oemHash = none ∧ s.fuseAreaGood 48 = true) ([13])
      ++ given (s.kik = none ∧ s.fuseAreaGood 64 = false) ([14])
      ++ given (s.kik = none ∧ s.fuseAreaGood 64 = true) ([15]))
    ++ given (4 ≤ lcs) ([16])
    ++ given (lcs < 4) (
      given ((typ = 0 ∨ 4 < typ)) ([17])
      ++ given (1 ≤ typ ∧ typ ≤ 4) (
        given (svn ≤ s.svnFloor typ) ([18])
        ++ given (s.svnFloor typ < svn ∧ 32 ≤ s.svnRaises.get 0 typ) ([19])
        ++ given (s.svnFloor typ < svn ∧ s.svnRaises.get 0 typ < 32) ([20]))
      ++ given (lcs = 0) ([21])
      ++ given (0 < lcs) (
        given (revoked.testBit key = true) ([22])
        ++ given (revoked.testBit key = false ∧ revoked ||| 2 ^ key = 15) ([23])
        ++ given (revoked.testBit key = false ∧ (revoked ||| 2 ^ key ≠ 15)) ([24]))))
  ++ given (s.vinLow = true) (
    [27]
    ++ [26])
  ++ given (s.vinLow = false) (
    given ((lcs ≠ 2) ∧ (lcs ≠ 4) ∧ s.prst = true) ([28])
    ++ given (s.scanHold = false ∧ (lcs = 2 ∨ lcs = 4 ∨ s.prst = false)) ([29])
    ++ given (s.scanHold = false) (
      [32]
      ++ given ((lcs ≠ 4)) ([30])
      ++ given (lcs = 4) ([31]))
    ++ given (s.scanHold = true ∧ s.prst = false ∧ s.pwrLow = false) ([33]))

/-- The clauses of CsrWritesFollowR2ToR8. -/
def hypCsrWritesFollowR2ToR8 (s : State) (m : BusMaster) (a : BitVec 32) (width : BitVec 5) (v : Word) (i : Fin 18) : List Nat :=
  let off := a.toNat
  let at_ (reg : Nat) : Bool := decide (off = reg ∧ width = 8 ∧ s.blockRuns off = true ∧ s.blockCut (busCode m) off = false)
  given ((s.inReset = true ∨ s.fallow = true)) ([0])
  ++ given (s.inReset = false ∧ s.fallow = false) (
    given ((width ≠ 8 ∨ off % 8 ≠ 0)) ([1])
    ++ given (width = 8 ∧ off % 8 = 0 ∧ findReg off = none ∧ s.latWindow off = false) ([2])
    ++ given (width = 8 ∧ off % 8 = 0 ∧ (findReg off ≠ none) ∧ (s.blockRuns off = false
        ∨ s.blockCut (busCode m) off = true)) ([3])
    ++ given (at_ FLT_CFG) ([4])
    ++ given (at_ SES_CNT) ([5])
    ++ given (at_ (CLK_ISTAT i.val)) ([6])
    ++ given (at_ CIP_CFG ∧ (CIP_CFG.HARDEN.get v ≠ s.fld CIP_CFG CIP_CFG.HARDEN)) ([7])
    ++ given (at_ CMP_STAGE ∧ s.fld CMP_STAT CMP_STAT.STOPPED = 0 ∧ CMP_STAGE.SIZE.get v = 0
        ∧ (s.fld CMP_STAGE CMP_STAGE.SIZE ≠ 0)) ([8]))

/-- The clauses of EveryCommandCompletesAndLeavesTheQueue. -/
def hypEveryCommandCompletesAndLeavesTheQueue (_s : State) (i : Instr) : List Nat :=
  [1]
  ++ given (i.wf = true) ([0])

/-! States in which they hold -/

namespace D0
def ws : List Word := [0,1,2,5,63,0x8000000000000000,0xFFFFFFFFFFFFFFFF,0x7FFFFFFFFFFFFFFF,0x123456789ABCDEF0,0xFEDCBA9876543210]
def st (c p : Nat) (a : Word) (more : List (Nat × Word)) : State := wPorts wRun c ((p,a)::more)
def prs : List (Word × Word) := ws.flatMap (fun a => ws.map (fun b => (a,b)))
end D0

namespace D1
def ws : List Word := [0,1,2,5,63,0x8000000000000000,0xFFFFFFFFFFFFFFFF,0x7FFFFFFFFFFFFFFF,0x123456789ABCDEF0,0xFEDCBA9876543210]
def st (c p : Nat) (a : Word) (more : List (Nat × Word)) : State := wPorts wRun c ((p,a)::more)
def prs : List (Word × Word) := ws.flatMap (fun a => ws.map (fun b => (a,b)))
def ds : List (Word × Word) := [(0,0xC),(0,0x5D),(0x9999999999999999,0x999999999999999C),(0x9999999999999999,0x999999999999999D),(0x9999999999999999,0x999999999999999F),(0,0x123B),(0,0x1234),(0xA,0xC),(0,0xA1C),(0x1000000000000000,0xB),(0,0x1E),(1,0xA),(0,0xD),(0x100000,0x000C)]
def dpr := ds.flatMap (fun a => ds.map (fun b => (a,b)))
def dpr2 := dpr.filterMap fun x => if (x.1.2.toNat + x.2.2.toNat) % 3 = 0 then some x else none
end D1

namespace D2
def mc (s : State) (c : Nat) (f : Core → Core) : State := s.modCore c f
def op1 : Op := ⟨0x100,0x108,0x40,0,1,[(0x101,7),(0x90,9)],4,none,0,none⟩
def op2 : Op := ⟨0x300,0x311,0x40,0,1,[(0x96,7)],0x40,some (0x40,3),0,none⟩
def compStates : List State :=
 [mc wRun 0 (fun k => {k with inflight := [op1]}), mc wRun 0 (fun k => {k with inflight := [op1,op2]}),
     mc wRun 0 (fun k => {k with inflight := [op2]}),
  mc wRun 0 (fun k => {k with awaits := [⟨0x204,5,false,100⟩,⟨0x205,6,true,200⟩,⟨0x204,8,false,100⟩]}),
  mc wRun 0 (fun k => {k with awaits := [⟨0x204,5,false,100⟩] ++ fenceAwaits, fences := [⟨1,0,[],[]⟩]}),
  mc wRun 0 (fun k => {k with awaits := fenceAwaits, fences := [⟨1,0,[],[]⟩]}),
  mc wRun 0 (fun k => {k with awaits := [⟨0x3C2,5,false,100⟩]}),
  mc wRun 82 (fun k => {k with awaits := [⟨0x3C2,5,false,100⟩] ++ fenceAwaits, fences := [⟨3,0,[],[]⟩]})]
def ctl : List State := [wPorts wRun 0 [(0x88,0x1000),(0x8A,5)], wPorts wRun 0 [(0x88,0x1000)],
    wPorts wRun 81 [(0x88,0x1000),(0x8A,5)],
    mc (wPorts wRun 0 [(0x88,0x1000),(0x8A,5)]) 0 (fun k => {k with inflight := [op1], cc := 5, arch := {k.arch with repOn := true, rep := 3}})]
def vs : List Word := [0,32,0x2000,0xFFFFFFFFFFFFFFE0,5,3,0xFFFFFFFFFFFFFFFF]
end D2

namespace D3
def mc (s : State) (c : Nat) (f : Core → Core) : State := s.modCore c f
def mv (g dst imm mode : Nat) : Nat := g * 2^28 + dst * 65536 + (4096 + imm) * 8 + mode
def b0 (c : Nat) : State := wPorts wRun c [(0x88,0x1000)]
def bst : List State := [wBundle (b0 0) 0x1000 [mv 0 5 7 0], wBundle (b0 0) 0x1000 [mv 1 5 7 0],
    wBundle (wPorts (b0 0) 0 [(0x81,1)]) 0x1000 [mv 1 5 0xFFF 3], wBundle (b0 0) 0x1000 [mv 9 5 7 5],
  wBundle (b0 0) 0x1000 [mv 0 0x7F 0xF80 6],
  wBundle (b0 0) 0x1000 [mv 0 0x10 0 7 ], wBundle (b0 82) 0x1000 [mv 0 5 7 0],
      wBundle (mc (b0 0) 0 (fun k => {k with stall := some .fence, fences := [⟨1,0,[],[]⟩], awaits := fenceAwaits})) 0x1000 [mv 0 5 7 0],
  mc (b0 0) 0 (fun k => {k with stall := some .fence}),mc (b0 0) 0 (fun k => {k with stall := some .storeFull}),mc (b0 0) 0 (fun k => {k with stall := some (.walk 0 .fetch 0 0)}),mc (b0 0) 0 (fun k => {k with stall := some (.port 0x204), awaits := [⟨0x204,5,false,100⟩]})]
def h0 (c : Nat) : State := wPorts wRun c [(0x88,0x1000),(0xAA,0x100000),(0xAB,0x1000),(0xA9,0x8000),(0xB3,3),(0x89,77)]
def tst (c : Nat) : List State := [mc (h0 c) c (fun k => {k with exc := some (plainExc 0x31 0 0)}),
    mc (h0 c) c (fun k => {k with async := true}), mc (h0 c) c (fun k => {k with ctraps := [⟨0x40,3,0x311,0x40,0⟩]}),
  mc (wPorts (h0 c) c [(0xAF,1),(0xB0,4),(0xB1,4)]) c (fun k => k),
      mc (h0 c) c (fun k => {k with exc := some (plainExc 0x50 0 0), ctraps := [⟨0x41,3,0x388,0x40,0⟩]}),
  mc (wPorts (h0 c) c [(0x8C,0)]) c (fun k => {k with exc := some (plainExc 0x50 0 0)}),
  mc (wPorts (h0 c) c [(0x8C,0)]) c (fun k => {k with exc := some ⟨0x21,2,0,0x208,0,0,[],true⟩}),
  mc (wPorts (h0 c) c [(0xAA,0x10000001000)]) c (fun k => {k with exc := some (plainExc 0x31 0 0), sb := [⟨1,0x99,8,3,false⟩]}),
  mc (wPorts (h0 c) c [(0xAA,0x10007900000)]) c (fun k => {k with exc := some ⟨0x10,1,2,0x311,0,0,[(1,2)],false⟩, inflight := [⟨0x100,0x108,0x40,0,1,[(0x101,7),(0x90,9)],4,none,0,none⟩]})]
def rst (c : Nat) : List State := [wWords (wPorts (h0 c) c [(0xAF,0x300)]) 0x100000 ((List.range 76).map (fun i => i * 0x1111)), wWords (wPorts (h0 c) c [(0xAF,0x100),(0x8C,0x10000)]) 0x100000 ((List.range 76).map (fun i => (i+1) * 0xFFFF0000FFFF3)),
   h0 c]
def grp : State := ((wRun.setFs (TWN_CSTATE 0) [(TWN_CSTATE.ROLE,2),(TWN_CSTATE.GROUP,3),(TWN_CSTATE.INDEX,0)]).setFs (TWN_CSTATE 10) [(TWN_CSTATE.ROLE,2),(TWN_CSTATE.GROUP,3),(TWN_CSTATE.INDEX,1)]).setFs (TWN_GSTAT 3) [(TWN_GSTAT.STATE,1)]
def ist : List State := [wPorts wRun 0 [(0x8E,5),(0x8F,6)], grp.setGroup 3 {Group.reset with tmr0 := 4, tmr1 := 5}, wRun,
    wPorts wRun 0 [(0xB4,0)]]
end D3

namespace D4
def mc (s : State) (c : Nat) (f : Core → Core) : State := s.modCore c f
def b0 (c : Nat) : State := wPorts wRun c [(0x88,0x1000)]
def bst : List State := [wBundle (mc (b0 0) 0 (fun k => {k with stall := some (.port 0x204), awaits := [⟨0x204,5,false,100⟩]})) 0x1000 [5*65536+0x204*8]]
def wt : State := wWords wRun 0x2000 [0xFEDCBA9876543210, 0x8182838485868788]
def lst (pp : Nat) : List State := [wPorts wt 0 [(pp,0x2000),(pp+1,0x1122334455667788),(pp+2,3)],
    wPorts {wt with poison := [0x80]} 0 [(pp,0x2000)], 
  wPorts wt 0 [(pp,0x10000000000)], wPorts wt 0 [(pp,0xE00000000000)],
      mc (wPorts wt 0 [(pp,0x2000)]) 0 (fun k => {k with sb := [⟨1,0x2000,4,0xDEADBEEF,false⟩, ⟨1,0x2004,1,0xDEADBEEF,false⟩]}),
  mc (wPorts wt 0 [(pp,0x2000),(0x8C,0)]) 0 (fun k => {k with sb := [⟨1,0x1FFF,8,0xDEADBEEF,false⟩]}),
      mc (wPorts wt 0 [(pp,0x2000)]) 0 (fun k => {k with sb := [⟨1,0x10000000010,8,0xDEADBEEF,false⟩]}) ]
def lds : List LdOp := [.ld8u,.ld8s,.ld16u,.ld16s,.ld32u,.ld32s,.ld64]
def sts : List StOp := [.st8,.st16,.st32,.st64,.st64,.st8,.st32]
def ast (c : Nat): List State := [wPorts wt c [(0x3A0,0x2000),(0x3A1,0xFEDCBA9876543210),(0x3A2,0x8182838485868788),(0x3A3,0x55)], wPorts wt c [(0x3A0,0x2000),(0x3A1,0xFEDCBA9876543210),(0x3A2,0x8182838485868789),(0x3A3,0x55)], wPorts wt c [(0x3A0,0x2008),(0x3A1,0xFEDCBA9876543210)],
  mc (wPorts wt c [(0x3A0,0x2000),(0x3A1,0xDEADBEEF76543210)]) c (fun k => {k with sb := [⟨1,0x2004,4,0xDEADBEEF,false⟩, ⟨1,0x3004,1,0xDEADBEEF,false⟩]})]
def tl : TlbEnt := ⟨none,5,false,77,true,true,true,true,15,true⟩
def tls : List TlbEnt := [tl,{tl with tag := some 3},{tl with group := true, vpage := 16},{tl with vpage := 6},{tl with tag := some 3, group := true, vpage := 32}]
def pst (c : Nat) : List State := [wRun,
    mc wRun c (fun k => {k with itlb := tls, dtlb := [(0,tls),(5,tls)], arch := {k.arch with ports := [(0x8C,0x10000),(0x3C0,3)]}}), 
   mc (mc wRun 5 (fun k => {k with itlb := tls, dtlb := [(0,tls),(5,tls)]})) c (fun k => {k with sb := [⟨1,0x99,8,3,false⟩]})]
def pbs : List Nat := [0x50000,0x1000000000000+0x50000, 3 * 2^52 + 0x50000, 0x100000, 1, 3*2^52+0x210000,0x7FFFFFFF0000,2^47]
end D4

namespace D5
def mc (s : State) (c : Nat) (f : Core → Core) : State := s.modCore c f
def lds : List LdOp := [.ld8u,.ld8s,.ld16u,.ld16s,.ld32u,.ld32s,.ld64]
def sts : List StOp := [.st8,.st16,.st32,.st64,.st64,.st8,.st32]
def wc : State := wRun.setF (CIS_BSTAT 15) CIS_BSTAT.STATE 0
def hst : List State := [wPorts wc 82 [(0x200,0x10007800000),(0x201,0x1122334455667788),(0x202,1)],
    mc (wPorts wc 82 [(0x200,0x10007800000),(0x201,0x1122334455667788),(0x202,1)]) 82 (fun k => {k with sb := [⟨1,0x99,8,3,false⟩]})]
def wk (kind : AccKind) (e1 e2 : Nat) (guest : Bool) : State :=
  let s := wWords (wWords wRun 0x40000 [e1]) 0x50028 [e2]
  let s := if guest then wPorts s 0 [(0x8C,0),(0xB3,3)] else (s.setF (XLT_CTX 0) XLT_CTX.HXEN 1)
  let s := if guest then s.setFs (XLT_GREACH 0 2) [(XLT_GREACH.TYPE,2),(XLT_GREACH.SIZE,30),(REACH_TABLED.ROOT,4)] else s.setFs (XLT_HREACH 0 2) [(XLT_GREACH.TYPE,2),(XLT_GREACH.SIZE,30),(REACH_TABLED.ROOT,4)]
  mc s 0 (fun k => {k with stall := some (.walk 0x50000 kind 2 0x248)})
def wks : List State := [AccKind.read,.write,.fetch].flatMap fun k => [false,true].flatMap fun g => [wk k (5*65536+1) (7*65536+0x3F) g, wk k (5*65536+1) (7*65536+0xF) g, wk k (5*65536+1) (7*65536+1) g, wk k 0 (7*65536+0x1F) g, wk k (5*65536+1) 0 g, wk k (5*65536+1+2^60) 0 g, wk k (5*65536+1) (1+2^62) g, wk k (5*65536+1) (7*65536+0x7F) g,
  {wk k (5*65536+1) (7*65536+0x3F) g with poison := [0x50028/64]}, wk k (5*65536+1) (7*65536+0x0B) g]
def mts (c : Nat) : List State := [wWords wRun 0x2000 [0xFEDCBA9876543210, 0x8182838485868788],
    {wWords wRun 0x2000 [0xFEDCBA9876543210, 0x8182838485868788] with dram := [(0x2001,7),(0x20FF,8),(0x2100,9)]},
  mc {wWords wRun 0x2000 [0xFEDCBA9876543210, 0x8182838485868788] with dram := [(0x2001,7),(0x20FF,8),(0x2100,9)]} c (fun k => {k with sb := [⟨1,0x2010,8,0xDEADBEEF,false⟩], l1i := [(0,⟨0x20,[.c,.c,.c,.c]⟩),(1,⟨0x21,[.c,.c,.c,.c]⟩)]})]
def fs (c : Nat) : List State := [mc wRun c (fun k => {k with fills := [⟨0x20,1,false,false,false⟩,⟨0x20,2,true,false,false⟩], cmq := [⟨.clean,0x20,0⟩]}), mc wRun c (fun k => {k with fills := [⟨0x21,1,false,false,false⟩,⟨0x20,2,true,false,false⟩], cmq := [⟨.clean,0x21,0⟩,⟨.inv,0x22,0⟩]}), mc wRun c (fun k => {k with cmq := [⟨.clean,0x21,0⟩,⟨.inv,0x20,0⟩,⟨.inv,0x20,0⟩]})]
end D5

namespace D6
def mc (s : State) (c : Nat) (f : Core → Core) : State := s.modCore c f
def lt : State := wRun.setF HWK_ID HWK_ID.LATERAL 1
def lts : List State := [lt, {lt with dieUp := false},
    mc lt 0 (fun k => {k with sb := [⟨2,0xF05,8,9,false⟩,⟨2,0xF06,8,10,true⟩,⟨1,0x99,8,3,false⟩]}),
    mc lt 0 (fun k => {k with sb := [⟨2,0xF05,8,9,true⟩]}),
  mc (mc lt 0 (fun k => {k with stall := some (.lateral 0xF07)})) 5 (fun k => {k with stall := some (.lateral 0xF17)}),
      mc lt 0 (fun k => {k with stall := some (.lateral 0xF07), exc := some (plainExc 0x31 0 0)}), wRun]
def ll : List (List (BitVec 8 × Word)) := [[],[(5,9)],[(5,9),(6,10),(255,77)],[(5,9),(5,10)]]
def grp : State := ((wRun.setFs (TWN_CSTATE 0) [(TWN_CSTATE.ROLE,2),(TWN_CSTATE.GROUP,3),(TWN_CSTATE.INDEX,0)]).setFs (TWN_CSTATE 10) [(TWN_CSTATE.ROLE,2),(TWN_CSTATE.GROUP,3),(TWN_CSTATE.INDEX,1)]).setFs (TWN_GSTAT 3) [(TWN_GSTAT.STATE,1)]
def vs : List Nat := [0,3,1+24*4,1+23*4,1+44*4+2^59+2^10,1+45*4,2+29*4,2+42*4+2^60+2^11+2^58,2+43*4,2+28*4,0xFFFFFFFFFFFFFFFF,0xFFFFFFFF,0x280000000+61440*65536,0x2EFFF0000,0x3F000FFFF,0xBC000000,0xBBFF0000, 0xFC001234]
end D6

namespace D6cip
def ky : KeySlot := ⟨1, (List.range 32), 5, 0, 3, 7, 0, 1⟩
def cst : List State := [{wRun with slots := [(4,ky)]},{wRun with slots := [(4,{ky with ksize := 2, use := 4})]},{wRun with slots := [(4,{ky with ksize := 1})]}].flatMap fun s => [[(0x400,4),(0x401,77)],[(0x400,4),(0x401,77),(0x8C,0),(0xB3,3)],[(0x400,4),(0x401,77),(0x8C,0),(0xB3,4)],[(0x400,5),(0x402,0x8000000000000000)]].map fun l => wPorts s 0 l
end D6cip

namespace D6cmx
def jb (op : Nat) : List Nat := [op, 0x400000, 100 + 200*2^32, 0x500000, 0, 0, 0, 0]
def cms : List State := [wWords wRun 0x600000 (jb 1), wWords wRun 0x600000 (jb 2), wSesRun,
    wPorts wSesRun 0 [(0x8C,0),(0xB3,3),(0x440,5)],
    wPorts {wSesRun with sessions := [(9,{wSes with bellDseq := 114})]} 0 [(0x8C,0),(0xB3,3),(0x440,5)],wPorts {wSesRun with sessions := [(9,{wSes with bellDseq := 113})]} 0 [(0x8C,0),(0xB3,3),(0x440,5)],
  wPorts {wSesRun with sessions := [(9,{wSes with state := 1})]} 0 [(0x8C,0),(0xB3,3),(0x440,5)],
      wPorts {wSesRun with sessions := [(9,{wSes with nextDseq := 2^48-1, bellDseq := 2^48-1})]} 0 [(0x8C,0),(0xB3,3),(0x440,5)],
  {wRun with jobs := [(0, ⟨(jb 1).flatMap (le 8), 3, 0, .suspended, some 100, [1,2,3], 3, 2, 0, 0, 1, []⟩)]},
      wPorts {wRun with jobs := [(0, ⟨(jb 1).flatMap (le 8), 3, 0, .suspended, some 100, [1,2,3], 3, 2, 0, 0, 1, []⟩)]} 0 [(0x8C,0),(0xB3,4)] ]
end D6cmx

namespace D7
def mc (s : State) (c : Nat) (f : Core → Core) : State := s.modCore c f
def cs0 : State := wWords (wRun.setF CST_LOAD CST_LOAD.ADDR (0x600000/32)) 0x600000 [1,1,0,0,0]
def sv (u : StoreUnit) (cause : Nat) : State := wRun.wr (saveArea u 0) (Word.ofNat (2^20 + cause*65536 + 5))
def css : List State := [cs0, wMem cs0 0x600000 [0x47,0x43,0x49], wRun, wRun.setF CST_LOAD CST_LOAD.ADDR (0x7FE0000000/32),
    sv (.core 0) 2, sv (.core 0) 1, sv (.sluice true) 2, sv (.sluice false) 1,
    wRun.setFs (CST_CPATCH 0 3) [(CST_CPATCH.EN,1),(CST_CPATCH.SAVE,1),(CST_CPATCH.MATCH,0x1234)],
    cs0.setF CST_STATUS CST_STATUS.BUSY 1]
def l1 : L1Line := ⟨0x20,[.c,.d,.c,.i]⟩
def cwx : State := mc {wWords wRun 0x2000 [7,8] with dram := [(5,6),(0x2000,1),(0x3000,1),(0x2100,5)], res := [(5,0x20*2+1),(9,0x21*2)]} 0 (fun k => {k with l2 := [(0,⟨0x20,.m,0⟩),(16,⟨0,.m,0⟩),(5,⟨0x21,.e,0⟩)], l1d := [(3,l1)], l1i := [(3,{l1 with line := 0x21})], sump := [{l1 with line := 0x30}], wb := [⟨0x31,.w,0⟩], evb := [⟨5,1,{l1 with line := 0x32}⟩]})
def role (s : State) (r : Nat) : State := s.setF (TWN_CSTATE 0) TWN_CSTATE.ROLE r
def cws : List State := [wRun, cwx, cwx.setF (CLK_ISTAT 0) CLK_ISTAT.STATE 3, {cwx with resScrub := [(0,5)]},
    {cwx with resScrub := [(0,65535)]}, mc cwx 0 (fun k => {k with scrub := 8191})] ++ [1,2,3,4,5].map (role cwx)
def dr : State := {wWords ((List.range 8).foldl (fun s n => s.setF (DRM_SSTAT n) DRM_SSTAT.STATE 0) wRun) 0x2000 [7,8] with poison := []}
def scr : State := dr.setF DRM_CFG DRM_CFG.SCRUB_EN 1
def drs : List State := [dr, {dr with poison := [0x2000/64]}, scr, {scr with scrubPos := [(3, 2^30-1)]},
    (dr.setF DRM_CFG DRM_CFG.ROW_THRESH 2), {(dr.setF DRM_CFG DRM_CFG.ROW_THRESH 2) with rowErrs := [(rowKey 3 5 7 77, 2)]},
    {(dr.setF DRM_CFG DRM_CFG.ROW_THRESH 2) with rowErrs := [(rowKey 3 5 7 77, 9)], rowsUsed := [(bankKey 3 5 7, 63)]},
  dr.setFs (DRM_SSTAT 3) [(DRM_SSTAT.SPARED,31),(DRM_SSTAT.COPYING,0)],
      {dr.setFs (DRM_SSTAT 3) [(DRM_SSTAT.SPARED,31),(DRM_SSTAT.COPYING,1)] with subst := [(3,9)]},
      {dr with staged := [(DRM_CFG, 0x123456789ABCDEF0)]},
      {dr with mem := [(0x7FE0000000,3),(0x7FF0000041,4)], dram := [(0x7FE0000000,3)]},
      {dr with poison := [0x7FE0000000/64,0x7FF0000000/64], rowErrs := [(rowKey 0 0 0 0, 5)]}]
def lg : State := wWords (wWords wRun 0x7FE0000000 [5,6,7,8,9,1,2,3]) 0x7FF0000000 [15,16,17,8,9,1,2,3]
def lgs : List State := [lg,
    {lg with poison := [0x7FE0000000/64]},{lg with poison := [0x7FF0000000/64]},{lg with poison := [0x7FE0000000/64,0x7FF0000000/64]}, {lg with live := [0]}, {lg with live := [1]}, lg.setF LGR_CNT1 LGR_CNT1.MIRROR_FIX LGR_CNT1.MIRROR_FIX.top, lg.setF LGR_RD LGR_RD.INDEX 1]
end D7

namespace D8
def bank (s : State) (b st stop : Nat) : State := (s.setF (CIS_BSTAT b) CIS_BSTAT.STATE st).setF (CIS_BCTL b) CIS_BCTL.STOP stop
def wb (b : Nat) : State := wWords wRun (0x10000000000 + b * 0x800000) [5,6,7]
def cis (b : Nat) : List State := [0,1,2,3,4,5].flatMap fun st => [0,1].map fun sp => bank (wb b) b st sp
def more (b : Nat) : List State := [{bank (wb b) b 4 0 with cisEnd := [(b,3)]},
    {bank (wb b) b 0 0 with poison := [0x10000000000/64]},
    {wb b with slots := [(3,⟨1, (List.range 32), 5, 0, 3, 7, 0, 1⟩)], mem := [(0x10004000000,5),(0x10004FFFFFF,6),(0x10005000000,7)]}, (wb b).setF CIS_SRSTAT CIS_SRSTAT.WIPING 1, (wb b).setF (CLK_ISTAT 8) CLK_ISTAT.STATE 2]
end D8

namespace D9
def mc (s : State) (c : Nat) (f : Core → Core) : State := s.modCore c f
def mg (s : State) (f : Group → Group) : State := s.setGroup 3 (f (s.group 3))
def iv2 : Interval := {wIv with sigOut := 9}
def mem2 (m : Member) : State := mg wTwin (fun g => {g with members := [(0,m),(1,Member.reset)]})
def m64 : Member := {Member.reset with retired := 64, outs := wIv.outs}
def tws : List State := [wTwin, mem2 m64,
    mc (mem2 m64) 0 (fun k => {k with inflight := [⟨0x100,0x108,0x40,0,1,[(0x101,7),(0x90,9)],4,none,0,none⟩], awaits := [⟨0x204,5,false,100⟩], sb := [⟨1,0x10,8,3,false⟩]}),
  mg (wTwinIv wIv iv2) (fun g => {g with members := [(0,{Member.reset with closed := [wIv]}),(1,{Member.reset with retired := 64})]}),
  wTwinIv wIv wIv, wTwinIv wIv iv2, wTwinIv wIv {wIv with sigState := 1},
      mg (wTwinIv wIv wIv) (fun g => {g with agreed := true}),
      mg (wTwinIv wIv wIv) (fun g => {g with agreed := true, released := 1}),
      mg (wTwinIv wIv wIv) (fun g => {g with agreed := true, cmd := some .stop}),
  mg (wTwinIv wIv wIv) (fun g => {g with agreed := true, later := [(1,XLT_CTX 0,1)]}),
  mc (mg wTwin (fun g => {g with refresh := some 1})) 10 (fun k => {k with sb := [⟨1,0x10,8,3,false⟩]}),
  (mg (wTwinIv wIv iv2) (fun g => {g with attempts := 1})),
  mc (mg (wTwinIv wIv wIv) (fun g => {g with agreed := true})) 0 (fun k => {k with cmq := [⟨.clean,0x20,1⟩], l2 := [(0,⟨0x20,.m,1⟩)], invq := [⟨0x3CA,0,0,1⟩], awaits := [⟨0x3C2,0,false,0⟩]}),
  (wTwinIv wIv iv2).setF (TWN_GCNT 3) TWN_GCNT.MISCOMPARES TWN_GCNT.MISCOMPARES.top,
      mg wTwin (fun g => {g with members := [(0,{Member.reset with closed := [wIv]}), (1,{Member.reset with closed := [wIv, wIv]})]})]
def req (p : Nat) (a : Nat) : BoundaryReq := ⟨p, a, 5, [0,0,0,0,0x10000,0]⟩
def bs : List State := [0x248,0x24E,0x250,0x3A8,0x3AD,0x408,0x409,0x40A,0x428,0x429,0x42A,0x448,0xF05,0x3E8,0xB4,0x3B0].flatMap fun p => [0x2000,0xE00000000000,0xF00018000000,0x10000000000].map fun a => mg wTwin (fun g => {g with request := some (req p a), confirmed := 7})
def cks : List State := [wTwin.setF (SPR_LEFT) SPR_LEFT.CHECKERS 4, wTwin.setF (SPR_LEFT) SPR_LEFT.CHECKERS 0,
    {wTwin with chkRetired := [5]}, wTwin.setF (TWN_GCFG 1) TWN_GCFG.CHECKER 5,
  wTwin.setFs (CST_MSAVE 0 0) [(⟨16,5⟩,0x12)],
      (mg (wTwin.setF (TWN_GSTAT 3) TWN_GSTAT.STATE 3) (fun g => {g with joining := [9], members := [(0,Member.reset)]})).setFs (TWN_GCFG 3) [(TWN_GCFG.M1,0x7F)], mg (wTwinIv wIv wIv) (fun g => {g with members := [(0,{Member.reset with closed := [wIv]}), (1,Member.reset)]}),
  mg (wTwinIv wIv wIv) (fun g => {g with members := [(1,{Member.reset with closed := [wIv]}), (0,Member.reset)]})]
def cmd (s : State) (g c l : Nat) (a : Word) : State := (s.setFs TWN_CMD [(TWN_CMD.GROUP,g),(TWN_CMD.CORE,c),(TWN_CMD.LEAD,l)]).wr TWN_CMDARG a
def tcs : List State := [cmd wRun 3 10 0 0x2000, cmd wRun 63 0 0 0x2000,
    cmd (wRun.setF (TWN_CSTATE 10) TWN_CSTATE.ROLE 1) 3 10 0 0x2000,
    cmd (wRun.setF (TWN_CSTATE 10) TWN_CSTATE.ROLE 1) 40 10 0 0x2000,
    cmd (wTwin.setF (TWN_CSTATE 20) TWN_CSTATE.ROLE 1) 3 20 0 0x2000,
  cmd wTwin 3 10 0 0x2000, cmd wTwin 3 0 0 0x2000, cmd wTwin 3 0 0 5,
      cmd ((wTwin.setF (TWN_GSTAT 3) TWN_GSTAT.STATE 3).setFs (TWN_GCFG 3) [(TWN_GCFG.M1,0x7F)]) 3 0 0 0x2000,
       cmd (mg wTwin (fun g => {g with cmd := some .stop})) 3 0 0 0x2000,
  cmd (wTwin.setF TWN_CFG TWN_CFG.NOTIFY_EN 1) 3 0 0 0x2000,
      cmd (mc wRun 0 (fun k => {k with inflight := [⟨0x100,0x108,0x40,0,1,[(0x101,7),(0x90,9)],4,none,0,none⟩], awaits := [⟨0x204,5,false,100⟩], sb := [⟨1,0x10,8,3,false⟩]})) 63 0 0 0]
end D9

namespace D10
def lk (s : State) (l : Nat) (f : Link → Link) : State := { s with links := s.links.put l (f (s.link l)) }
def u20 : State := wSesRun
def stt (n : Nat) : State := (u20.setF (LNK_STAT 20) LNK_STAT.STATE n).setFs (LNK_CFG 20) [(LNK_CFG.RETRAIN_MAX,3)]
def fr (n : Nat) : TxFrame := ⟨n, 1, List.replicate 30 5⟩
def ua : State := lk u20 20 (fun k => {k with unacked := [fr 65534, fr 65535, fr 0], next := 1, expect := 7, ownFreed := [1,2,3,4], initRx := true})
def lst : List State := (List.range 8).map stt ++ [stt 1 |>.setF (LNK_STAT 20) LNK_STAT.TRAINFAIL 1,
    stt 1 |>.setF (LNK_STAT 20) LNK_STAT.TRAINFAIL 2, ua, lk ua 20 (fun k => {k with move := some ⟨2,20,true,true,false⟩}),
    (stt 0).setF HWK_SSTAT HWK_SSTAT.PHASE 1, (stt 1).setF HWK_SSTAT HWK_SSTAT.PHASE 1, {stt 0 with lanesIdle := true},
    {stt 6 with lanesIdle := true}, lk (stt 4) 20 (fun _ => Link.cleared 7), lk (stt 3) 20 (fun _ => Link.cleared 7)]
def sp : State := (List.range 32).foldl (fun s k => s.setFs (LNK_SPCFG k) [(LNK_SPCFG.SERVES,255)]) u20
def mv (p l c : Bool) (s : State) : State := lk s 20 (fun k => {k with move := some ⟨2,20,p,l,c⟩})
def pss : List State := [u20, sp, lk sp 20 (fun k => {k with unacked := [fr 3]}), mv false false false sp,
    mv true false false sp, mv true true false sp, mv true true true sp,
    lk (mv true false false sp) 20 (fun k => {k with unacked := [fr 3]})]
def msgD (t d s ep tseq : Nat) (body : List Byte) : List Byte := furrowMsg t d s ep tseq 0 0 body
def fms : List Frame := [⟨0,7,0,false,0,1,5,msgD 6 9 7 4 0 []⟩,⟨0,7,0,false,3,1,5,msgD 0x30 9 7 4 5 []⟩,⟨0,7,0,false,0,1,5,List.replicate 24 0⟩,⟨1,0,65535,true,0,2,1023,[]⟩,⟨1,0,0,true,0,2,5,[]⟩,⟨3,0,65534,true,0,0,5,[]⟩,⟨2,0,65534,true,0,0,5,[]⟩,⟨2,0,65535,true,0,3,5,[]⟩, ⟨5,0,0,false,0,0,0,[1,2] ++ List.replicate 6 0⟩,
   ⟨4,0,0,false,0,0,0,(u20.initPayload 20)⟩,⟨4,0,0,false,0,0,0,List.replicate 32 1⟩,
       ⟨0,7,65535,true,0,1,5,msgD 0x30 9 7 4 5 []⟩]
def rxs : List State := [ua, lk ua 20 (fun k => {k with nakFor := some 7}),
    lk ua 20 (fun k => {k with move := some ⟨2,20,false,false,false⟩}), u20,
    lk ua 20 (fun k => {k with freed := [65535,65535,0,65535], lastCred := [4,1000,5,6]})]
def ms : List (List Byte) := [msgD 6 7 9 4 0 [], msgD 0x10 7 9 4 9 (List.replicate 24 5), msgD 0x10 7 8 4 9 [],
    msgD 4 7 linkScope 0 0 [], List.replicate 4096 0, List.replicate 20 0]
def txs : List State := [u20, ua, u20.setF SLU_STAT SLU_STAT.HOLDER 2, stt 4, lk (stt 4) 20 (fun _ => Link.cleared 7),
    lk ua 20 (fun k => {k with replays := 9}), lk ua 20 (fun k => {k with reported := k.ownFreed}),
    (lk ua 20 (fun k => {k with reported := k.ownFreed})).setF SLU_STAT SLU_STAT.HOLDER 2,
    ua.setF (LNK_CFG 20) LNK_CFG.RETRY_MAX 5,
    (lk ua 20 (fun k => {k with replays := 5})).setF (LNK_CFG 20) LNK_CFG.RETRY_MAX 5,
    lk ua 20 (fun k => {k with next := 65535, buf := [1,1,1,1], consumed := [65535,0,0,0], freed := [65535,0,0,0]})]
end D10

namespace D11
def cmdS (s : State) (n a : Nat) : State := (s.setF SES_CMD SES_CMD.SESSION n).setF SES_CMDARG SES_CMDARG.ADDR a
def down (s : State) : State := ((s.setF (LNK_STAT 20) LNK_STAT.STATE 0).setF (LNK_STAT 21) LNK_STAT.STATE 0)
def dsc (s : State) (l : List Byte) : State := wMem s 0x400000 l
def gd : List Byte := wDesc 3 6 20 21 0x1FF 0x1FF 0x100000 6 0x240000 6 20 0x300000 4 0 0 0
def ss (s : State) (f : Session → Session) : State := {s with sessions := [(9, f wSes)]}
def base : State := dsc (down wSesRun) gd
def sst : List State := [cmdS base 9 0x400000, cmdS base 9 0x400020, cmdS base 10 0x400000,
    cmdS (base.setF SES_STAT SES_STAT.RUNNING 0) 10 0x400000, cmdS (base.setF SLU_STAT SLU_STAT.HOLDER 2) 10 0x400000,
  cmdS (ss base (fun k => {k with state := 3, reason := 6})) 9 0x400000,
      cmdS (ss base (fun k => {k with state := 3, reason := 3})) 9 0x400000,
      cmdS (ss base (fun k => {k with state := 4})) 9 0x400000,
  cmdS (dsc base (wDesc 9 9 21 20 22 0x1FF 1 2 3 4 20 5 4 0 0 0)) 9 0x400000,
      cmdS (dsc base (wDesc 9 9 22 23 24 0x1FF 1 2 3 4 20 5 4 0 0 0)) 9 0x400000,
      cmdS (base.setF SES_CMDSTAT SES_CMDSTAT.BUSY 1) 9 0x400000,
  cmdS (wLed) 9 0x400000, down wRun, {cmdS base 9 0x400000 with poison := [0x400000/64]}]
def inb (s : State) (m : List Byte) : State := {s with inbox := [(20,m),(21,[5])]}
def mg (t tseq : Nat) (body : List Byte) : List Byte := furrowMsg t 9 7 4 tseq 0 0 body
def op (s : State) : State := {ss s (fun k => {k with state := 1, answered := []}) with sesBusy := some (1,9)}
def cl (s : State) : State := {ss s (fun k => {k with state := 4, closing := some .sent}) with sesBusy := some (2,9)}
def w (r : Rec) : State := wRec (wFlat wSesRun) 0 r
def pms : List State := [inb (op wSesRun) (mg 2 0 [0,11,1,0,0,0,0,0]), inb (op wSesRun) (mg 2 0 [1,11,1,0,0,0,0,0]),
    inb (op wSesRun) (mg 2 0 [0,13,1,0,0,0,0,0]), inb (op wSesRun) (mg 3 0 [1,0,0,0]), inb (cl wSesRun) (mg 4 0 [1,0,0,0]),
  inb wLed (mg 0x30 99 []), inb (w {wR with state := 3}) (mg 0x30 99 []), inb wLed (mg 0x30 98 []),
      inb wLed (mg 0x21 99 ([0,0,0,0,0,0,0,0] ++ List.replicate 20 7)),
      inb (w {wR with isSealed := true}) (mg 0x21 99 ([0,0,0,0,0,0,0,0] ++ List.replicate 20 7)),
  inb {wLed with xfers := [(0,{Xfer.none with nextOff := 20})]} (mg 0x21 99 ([0,0,0,20,0,0,0,0] ++ List.replicate 980 7)),
      inb {wLed with xfers := [(0,{Xfer.none with nextOff := 20})]} (mg 0x21 99 ([0,0,0,20,0,0,0,0] ++ List.replicate 981 7)),
  inb (w {wR with cmd := 8}) (mg 0x31 99 [0,0,1,2,0,0,0,5,0,0,0,9,0,0,0,0]),
      inb (w {wR with cmd := 8}) (mg 0x31 99 [2,0,1,2,0,0,0,5,0,0,0,9,1,2,3,4]),
      inb (w {wR with cmd := 9, ver := 65535}) (mg 0x31 99 [1,0,1,2,0,0,0,5,0,0,0,9,1,2,3,4]),
  inb wSesRun (mg 0x32 5 [1,2,3,4,5,6,7,8]), inb (ss wSesRun (fun k => {k with attn := 5})) (mg 0x32 5 [1,2,3,4,5,6,7,8]),
      inb (wSesRun.setF SLU_STAT SLU_STAT.HOLDER 2) (mg 0x32 5 [1,2,3,4,5,6,7,8]),
      inb {wSesRun with tailProd := [(0x200000,17)]} (mg 0x32 5 [1,2,3,4,5,6,7,8])]
def lk (s : State) (l : Nat) (f : Link → Link) : State := { s with links := s.links.put l (f (s.link l)) }
def d1 : List Byte := wDesc 3 5 20 0x1FF 0x1FF 0x1FF 0x100000 6 0x200000 6 20 0x300000 4 0 0 0
def tms : List State := [op wSesRun,
    {ss wSesRun (fun k => {k with state := 1, answered := [], desc := d1}) with sesBusy := some (1,9)}, cl wSesRun,
    {wSesRun with sessions := [], stalled := [20,22]},
    lk {wSesRun with sessions := [], stalled := [22]} 20 (fun k => {k with unacked := [⟨0,1,[]⟩]}),
  (ss wSesRun (fun k => {k with active := 1})).setF SES_CFG SES_CFG.REVERT 1, (ss (down wSesRun) (fun k => k)),
      ss wSesRun (fun k => {k with floorSent := 3}), wLed,
      {(ss wSesRun (fun k => {k with active := 1})).setF SES_CFG SES_CFG.REVERT 1 with stalled := [20]}]
end D11

namespace D12
def bellAt (s : State) (furrow : Nat) : State := wWords s (0x100000 + 16*50) [furrow, 50 + 3 * 2^48]
def ss (s : State) (f : Session → Session) : State := {s with sessions := [(9, f wSes)]}
def q (s : State) (n : Nat) : State := s.setF (ALT_SHARE 3) ALT_SHARE.QLIMIT n
def db (w0 : Nat) : State := q (ss (wWords (bellAt (wFlat wSesRun) 0x700000) 0x700000 [w0, 0x500000, 5 + 77*2^32,
    0]) (fun k => {k with bellDseq := 51})) 5
def fw (cmd count : Nat) : Nat := cmd + 2^5 + 7*65536 + count * 2^32
def dbs : List State := [db (fw 8 1000), db (fw 3 1000), q (db (fw 8 1000)) 0, db (fw 12 1000), db (fw 9 0), db (fw 8 0),
    {db (fw 8 1000) with tailProd := [(0x200000,17)]}, (db (fw 13 67108864)), {db (fw 8 1000) with basinQueue := [(0,5)]},
    {(db (fw 8 1000)).setF CIP_BSTAT CIP_BSTAT.FREE 3 with basinQueue := [(0,5)]},
    {(db (fw 8 1000)).setF CIP_BSTAT CIP_BSTAT.FREE 5 with basinQueue := [(0,5),(3,7)]},
  {(db (fw 8 1000)) with stageQueue := [(0,5),(3,7)]},
      {(db (fw 8 1000)).setF CMP_STAGE CMP_STAGE.SIZE 5 with stageQueue := [(0,5),(3,7)]},{(db (fw 8 1000)).setF CMP_STAGE CMP_STAGE.SIZE 9 with stageQueue := [(0,5),(3,7)], stageHeld := [(8,List.range 5)]},
  wRec (wFlat wSesRun) 0 {wR with state := 1},
      (wRec (wFlat wSesRun) 0 {wR with state := 1, cmd := 8, count := 9000}).setF (ALT_SHARE 3) ALT_SHARE.WEIGHT 2,
      (wRec (wFlat wSesRun) 0 {wR with state := 1, cmd := 8, count := 9000}).setF (ALT_SHARE 3) ALT_SHARE.WEIGHT 1023,
      (wRec (wFlat wSesRun) 0 {wR with state := 1, ver := 65535}).setF (ALT_SHARE 3) ALT_SHARE.WEIGHT 1023,
  {wLed with issueQueue := [0]},
      {wRec (wFlat wSesRun) 0 {wR with state := 4, tpv := true, tpos := 70} with tailQueue := [.record 0]},
      wRec (wFlat wSesRun) 0 {wR with state := 4, tpv := true, tpos := 70},
  wWords (wRec (wFlat wSesRun) 0 {wR with state := 4, tpv := true, tpos := 70}) 0x300000 [71],
      wWords (wRec (wFlat wSesRun) 0 {wR with state := 4, tpv := true, tpos := 70}) 0x300000 [70],
      wWords (wRec (wFlat wSesRun) 0 {wR with state := 5, tpv := true, tpos := 0xFFFFFFFF}) 0x300000 [0]]
def ac (s : State) (a arg st : Nat) : State := ((s.setF ALT_CMD ALT_CMD.ALLOT a).setF ALT_CMDARG ALT_CMDARG.ARG arg).setF (ALT_ASTAT a) ALT_ASTAT.STATE st
def t1 : TlbEnt := ⟨some 3,0x50,false,7,true,true,true,true,1,true⟩
def tb (s : State) : State := {s with iotlb := [(0,[t1,{t1 with tag := some 4}]),(ioSet 0x500000,[t1])]}
def ad : State := tb (wWords wRun 0x400000 [5+100*65536, 0, 0,0,0,0,0,0])
end D12

namespace D12alt
def ac (s : State) (a arg st : Nat) : State := ((s.setF ALT_CMD ALT_CMD.ALLOT a).setF ALT_CMDARG ALT_CMDARG.ARG arg).setF (ALT_ASTAT a) ALT_ASTAT.STATE st
def t1 : TlbEnt := ⟨some 3,0x50,false,7,true,true,true,true,1,true⟩
def tb (s : State) : State := {s with iotlb := [(0,[t1,{t1 with tag := some 4}]),(ioSet 0x500000,[t1])]}
def ad : State := tb (wWords wRun 0x400000 [5+100*65536, 0, 0,0,0,0,0,0])
def als : List State := [0,1,2,3].flatMap (fun st => [ac ad 3 0x400000 st, ac ad 3 0x400001 st, ac ad 0 0x400000 st,
    ac ad 3 0x500000 st, ac {wSesRun with iotlb := []} 3 0x400000 st, ac ad 4 (0x7FE0000000-64) st])
    ++ [ad.setF ALT_CMDSTAT ALT_CMDSTAT.BUSY 1, ac {ad with poison := [0x400000/64]} 3 0x400000 0,
    {ac ad 3 0x400000 2 with quiescing := some 3}, ac wLed 3 0x400000 2,
  wFlat ad, (wFlat ad).setFs (ALT_IOREACH 3 0) [(⟨9,1⟩,0)],
      wWords (wWords (ad.setFs (ALT_IOREACH 3 2) [(XLT_GREACH.TYPE,2),(XLT_GREACH.SIZE,30),(REACH_TABLED.ROOT,4)]) 0x40000 [5*65536+1]) 0x50280 [7*65536+0x3F], {(wWords (wWords (ad.setFs (ALT_IOREACH 3 2) [(XLT_GREACH.TYPE,2),(XLT_GREACH.SIZE,30),(REACH_TABLED.ROOT,4)]) 0x40000 [5*65536+1]) 0x50280 [7*65536+0x3F]) with iotlb := []}]
end D12alt

namespace D12slu
def sl (a b : Nat) (s : State) : State := s.setFs SLU_STAT [(SLU_STAT.ASTATE,a),(SLU_STAT.BSTATE,b)]
def sb : State := (sl 1 2 wRun).setFs SLU_OSEQ [(SLU_OSEQ.EMITTED,5)]
def sls : List State := [sb, {sb with sluB := {Sluice.reset with stopped := true}}, {sb with turnChange := 1},
    {sb with turnChange := 2}, sb.setF SLU_STAT SLU_STAT.HOLDER 2,
    (sb.setF SLU_STAT SLU_STAT.HOLDER 2).setF SLU_LEASE SLU_LEASE.QUIET 1,
    sl 4 2 ((sb.setF SLU_STAT SLU_STAT.HOLDER 2).setF SLU_LEASE SLU_LEASE.QUIET 1),
    sl 4 3 ((sb.setF SLU_STAT SLU_STAT.HOLDER 2).setF SLU_LEASE SLU_LEASE.QUIET 1),
    sl 2 2 ((sb.setF SLU_STAT SLU_STAT.HOLDER 2).setF SLU_LEASE SLU_LEASE.QUIET 1),
  sb.setF SLU_LEASE SLU_LEASE.FENCE_A 1, sb.setF HWK_SSTAT HWK_SSTAT.PHASE 1, sl 1 4 sb,
      sl 4 1 (sb.setF SLU_STAT SLU_STAT.HOLDER 1), sl 1 3 sb, sb.setF SLU_STAT SLU_STAT.BUSY 1,
      sb.setF SLU_CFG SLU_CFG.SWAP_EN 1, (sl 1 4 sb).setF SLU_CFG SLU_CFG.SWAP_EN 1,
      {sb with staged := [(SLU_CFG, 0x123456789ABCDEF)]}, wUp sb 20, sb.setF SLU_STAT SLU_STAT.HOLDER 1,
      sl 2 1 (sb.setF SLU_STAT SLU_STAT.HOLDER 1)]
end D12slu

namespace D13
def ky : KeySlot := ⟨1, (List.range 16), 5, 0, 3, 16, 0, 1⟩
def wrapped : List Byte := beBytes 24 0x1FA68B0A8112B447AEF34BD8FB5A7B829D3E862371D2CFE5
def kd (w0 : Nat) (wr : List Byte) : State := wMem {wRun with slots := [(5,ky)]} 0x400000 (le 8 w0 ++ wr)
def kc (s : State) (n a : Nat) : State := (s.setF CIP_KCMD CIP_KCMD.SLOT n).setF CIP_KARG CIP_KARG.ADDR a
def w0 : Nat := 5 + 7 * 2^32 + 3 * 2^44 + 2 * 2^49
def kst : List State := [kc (kd w0 wrapped) 8 0x400000, kc (kd w0 (wrapped.set 3 0)) 8 0x400000,
    kc (kd (w0+1) wrapped) 8 0x400000, kc (kd w0 wrapped) 5 0x400000, kc (kd w0 wrapped) 8 0x400020,
    kc (kd w0 wrapped) 8 0x7FE0000000, kc ((kd w0 wrapped).setF CIS_SRSTAT CIS_SRSTAT.WIPING 1) 8 0x400000,
    kc (kd w0 wrapped) 8 0x400000 |>.setF CIP_KSTAT CIP_KSTAT.BUSY 1,
    {wRun with staged := [(CIP_CFG, 0xFFFFFFFFFFFFFFFF)]},{wRun with staged := [(CIP_CFG, 0)]},
  kc {kd (w0 + 2^18) wrapped with kik := some ((List.range 16))} 8 0x400000, kc (kd (w0 + 2^18) wrapped) 8 0x400000,
      kc {(kd w0 wrapped) with slots := [(5,ky),(8,{KeySlot.empty with gen := 2^32-1})]} 8 0x400000]
def fb : State := {wRec (wFlat wSesRun) 0 {wR with isSealed := true, state := 3} with flumeBuf := (List.range 64).map (fun i => (20*65536+i, BitVec.ofNat 8 (i*7))), slots := [(6,{ky with use := 11}),(7,{ky with use := 11, owner := 9})]}
def fk : State := {fb with sessions := [(9,{wSes with desc := wDesc 3 5 20 21 0x1FF 0x1FF 0x100000 6 0x200000 6 20 0x300000 4 (6 + 6 * 2^32) 0 0})]}
def ba (ph : BasinPhase) (d : List Byte) (s : State) : State := {s with basins := [(0,⟨1,d,ph⟩)]}
def fls : List State := [fk, ba .filling [] fk, ba .filling (List.replicate 20 7) fk, ba .wiping [] fk,
    ba (.releasing 20) (List.replicate 20 7) fk,
    ba (.releasing 20) (List.replicate 20 7) (wRec (wFlat wSesRun) 0 {wR with isSealed := true, state := 3, squeeze := true}),
    wRun, fb,
   ba .filling [] ({fk with flumeBuf := []})]
def dss : List (Nat×Nat×Nat×Nat) := [(6*256 + 2*2^32, 0 + 32*65536 + 64*2^32, 0, 0), (6*256 + 1*2^32 + 16,
    0 + 32*65536 + 64*2^32, 0, 0),(5*256 + 2*2^32 + 32, 0, 0,
    0),(0,16+32*65536,10*2^32,0),(0,0+0*65536,20+ 20*2^32,0),(0,0+32*65536,20+ 20*2^32,0),(6*256 + 0, 0, 0, 0),(7*256 + 2*2^32,
    0 + 32*65536 + 64*2^32, 0, 0)]
def jd (op : Nat) : List Byte := ([op, 0x400000, 30 + 200*2^32, 0x500000, 0, 0, 0, 0]).flatMap (le 8)
def jb : Job := ⟨jd 2, 3, 0, .queued, none, [], 0, 0, 0, 0, 0, []⟩
def cw : State := wMem (wFlat wSesRun) 0x400000 (List.replicate 30 1)
def jst (s : State) : List State := [s, {s with cmpSession := [.stage 0]}, {s with cmpSession := [.inflate 0,.stage 0]},
    {s with cmpCore := [.core 3], cmpCoreNext := true, jobs := [(3,{jb with limit := some 7})]},
    {s with cmpCore := [.core 3], cmpCoreNext := true, jobs := [(3,jb)]},
    {s with engines := [(7,.core 3)], jobs := [(3,{jb with limit := some 7, out := [1,2,3], phase := .running})]},
  {s with engines := [(7,.stage 0)]}, s.setF CMP_STAT CMP_STAT.SPARES_LEFT 0,
      {s.setF CMP_STAT CMP_STAT.SPARES_LEFT 3 with engines := [(7,.stage 0)]}, s.setF CMP_STAT CMP_STAT.ACTIVE 0]
def cjs : List State := jst cw ++ jst (wRec cw 0 {wR with cmd := 8, squeeze := true, state := 1, count := 30, addr := 0x400000})
def inf (r : Rec) (x : Xfer) : State := {wRec cw 0 r with engines := [(7,.inflate 0)], xfers := [(0,x)]}
end D13

namespace D14
def isl (s : State) (n st d lock : Nat) : State := s.setFs (CLK_ISTAT n) [(CLK_ISTAT.STATE,st),(CLK_ISTAT.DIV,d),(CLK_ISTAT.LOCK,lock)]
def lockAll : State := (List.range 17).foldl (fun s n => isl s n 0 0 1) wRun
def ch (p : ClkPhase) (t o dv : Nat) : IslandChange := ⟨p,t,o,dv,2,0,0,false,0⟩
def cc (s : State) (c : IslandChange) : State := {s with clkChange := [(1,c)]}
def ctl (s : State) (n dv f : Nat) : State := s.setFs (CLK_ICTL n) [(CLK_ICTL.DIV,dv),(CLK_ICTL.FREQ,f),(CLK_ICTL.RUN_EN,1)]
def cst : List State := [lockAll, ctl lockAll 1 3 (islandFreq 1), ctl lockAll 1 0 (islandFreq 1), ctl lockAll 1 0 5,
    ctl lockAll 1 0 60000, {ctl lockAll 1 3 (islandFreq 1) with staggerOn := some 1},
    (lockAll.setF (CLK_ISTAT 1) CLK_ISTAT.BUSY 1), {lockAll with clkWait := [1,2], staggerOn := some 1},
    {cc lockAll (ch .waiting 0 0 3) with clkWait := [1,2], staggerOn := some 1},
  {cc lockAll (ch .waiting 0 0 3) with clkWait := [1], staggerOn := some 1}]
  ++ [0,2,3,4,7].flatMap (fun d => [0,5].flatMap fun cap => let s := (isl lockAll 1 4 d 1).setF (CLK_ISTAT 1) CLK_ISTAT.CAPDIV cap; [cc s (ch .ramp 0 0 3), cc s (ch .ramp 0 0 7), cc s (ch .locking 0 0 3), cc s (ch .draining 1 0 3), cc s (ch .draining 2 0 3), cc s (ch .draining 3 0 3), cc s (ch .waking 0 1 3), cc s (ch .waking 0 1 7), cc s {ch .ramp 0 0 1 with result := 5}, cc s (ch .down 0 0 3), cc s (ch .switching 0 0 3)])
def rf (s : State) (l h : Nat) : State := s.setFs CLK_REFSTAT [(CLK_REFSTAT.REFLOCK,l),(CLK_REFSTAT.HOLDOVER,h)]
def pw (s : State) (c l : Nat) : State := (s.setF LEV_PCEIL LEV_PCEIL.CEIL_W c).setF LEV_PLIMIT LEV_PLIMIT.LIMIT_W l
def rst : List State := [rf lockAll 1 0, rf lockAll 0 1, lockAll, {lockAll with culvertsBroken := [3*32+2]},
    isl (rf lockAll 1 0) 2 2 0 0, pw lockAll 1000 1000, pw (lockAll.setF LEV_PSTAT LEV_PSTAT.THROTTLE 7) 1000 1000,
    {pw (lockAll.setF LEV_PSTAT LEV_PSTAT.THROTTLE 3) 1000 1000 with fastLow := 63, slowLow := 99},
    {pw (lockAll.setF LEV_PSTAT LEV_PSTAT.THROTTLE 3) 1000 1000 with fastLow := 62, heatFloor := 4},
  {pw (lockAll.setF LEV_PSTAT LEV_PSTAT.CLAMPED 1) 1000 1000 with fastLow := 62, heatFloor := 4},{pw (lockAll.setF (CLK_ISTAT 2) CLK_ISTAT.CAPDIV 3) 1000 1000 with slowLow := 100}]
end D14

namespace D15
def bsts : List State := [wRun, wLed, State.reset, {wRun with prst := true, inReset := true},
    {wRun with prst := true, inReset := true, pwrLow := true}, {wRun with pwrLow := true, inReset := true},
    {wRun with vinLow := true, inReset := true}, {wRun with fallow := true},
    {wRun with slots := [(5,KeySlot.empty)], tamper := true}, {wRun with scanHold := true, prst := true},
    wRun.setF CLK_REFSTAT CLK_REFSTAT.HOLDOVER 1, {wRun with scanHold := true}, wRun.setF HWK_SSTAT HWK_SSTAT.PHASE 1,
    {wLed with dram := [(0x2000,3)]},(List.range 8).foldl (fun s n => s.setF (DRM_SSTAT n) DRM_SSTAT.STATE 0) {wRun with tamper := true, prst := true}, wRun.setF CLK_REFSTAT CLK_REFSTAT.REFLOCK 0, wRun.setF HWK_SSTAT HWK_SSTAT.WARMFAIL 1]
def wm (s : State) : State := (s.setF LGR_STAT LGR_STAT.STATE 2).setF HWK_SSTAT HWK_SSTAT.BASEMASK 0
def so : StartOutcome := ⟨true,[],[],[],[],none,77⟩
def st (s : State) (p k cf : Nat) : State := s.setFs HWK_SSTAT [(HWK_SSTAT.PHASE,p),(HWK_SSTAT.KIND,k),(HWK_SSTAT.COLDFAIL,cf)]
def c0 : State := st State.reset 0 0 0
def i1 (f : Bool) : State := {c0 with startStage := .image 1, bypass := false, imageIn := ⟨5,[1,2,3],f,0⟩}
def psts : List State := [c0, st c0 0 1 0, {st c0 0 1 0 with bypass := false}, st c0 0 0 2, st c0 0 0 1,
    {c0 with sluA := {Sluice.reset with stopped := true}}, c0.setF SLU_STAT SLU_STAT.ASTATE 4, i1 false, i1 true,
    {c0 with startStage := .loaded, bypass := false},
    {(c0.setF SLU_STAT SLU_STAT.ASTATE 4) with startStage := .loaded, bypass := false},
    {c0 with startStage := .loaded, bypass := false, mem := [(5,5),(0x7FFFFFFFFF,3),(0x8000000000,4)]}, wRun,
    {c0 with fallow := true}, {c0 with inReset := true}, {st c0 1 0 0 with startStage := .idle}, st c0 2 0 0, st c0 3 0 0,
    (st c0 0 1 0).setF HWK_SSTAT HWK_SSTAT.WARMFAIL 2,
  (List.range 8).foldl (fun s n => s.setF (DRM_SSTAT n) DRM_SSTAT.STATE 0) ((st c0 1 0 0).setF HWK_SSTAT HWK_SSTAT.BASEMASK 255), {(st c0 1 0 0).setF HWK_SSTAT HWK_SSTAT.BASEMASK 255 with startStage := .idle, fullRate := [96,97,98]}, {(st c0 1 0 0).setF HWK_SSTAT HWK_SSTAT.BASEMASK 0 with startStage := .idle, loopDone := List.range 288, bypass := false, lanesIdle := false}, {st c0 2 0 0 with startStage := .idle, bypass := false, lanesIdle := false}, {wRun with loopDone := []}, (List.range 32).foldl (fun s k => s.setFs (LNK_SPCFG k) [(LNK_SPCFG.SERVES,255)]) (st wRun 1 0 0), {c0 with badIslands := [3]}, {st c0 0 1 0 with startStage := .loaded, bypass := false}, {(st c0 0 1 0).setF SLU_STAT SLU_STAT.ASTATE 4 with startStage := .loaded, bypass := false}, (st c0 1 0 0).setF HWK_SCFG HWK_SCFG.HOLD_TRICKLE 1]
def oo : List StartOutcome := [so, {so with refLock := false}, {so with bist := [.core 3]}, {so with baseFail := [(3,4)]},
    {so with dramFail := [3]}, {so with dramFail := [0,3]}, {so with badCopies := [(3,false),(3,true),(5,false)]},
    {so with baseFail := [(3,0),(3,16)]}, {so with bist := [.vital]}]
def tag (s : State) : Nat := match s.startStage with | .image t => t | _ => 3
end D15

namespace D16
def hrc (s : State) (a : Nat) : State := s.setF HRC_ENUM HRC_ENUM.ADDR a
def fm (t hop : Nat) (p : List Byte) : HrFrame := ⟨BitVec.ofNat 8 t, 0xFF, BitVec.ofNat 8 hop, false, 0x1234, p, true, false⟩
def frs : List HrFrame := [fm 1 0 [], fm 1 5 [], fm 1 249 [], fm 1 250 [], fm 1 255 [], fm 0x84 0 (beBytes 8 77),
    fm 4 0 (beBytes 8 77), fm 2 0 (beBytes 8 1000 ++ beBytes 4 160 ++ beBytes 4 0), fm 2 4 (beBytes 8 1000 ++ beBytes 4 160
    ++ beBytes 4 0), fm 0x82 3 (List.replicate 16 5), {fm 1 0 [] with crcGood := false},
    {fm 0x84 0 (beBytes 8 77) with last := true}, fm 2 4 (beBytes 8 5 ++ beBytes 4 0xFFFFFF00 ++ beBytes 4 0)]
def tm (s : State) (v t : Nat) : State := (s.setF HRC_STAT HRC_STAT.TIMEVALID v).wr HRC_TIME (Word.ofNat t)
def hsts : List State := [hrc wRun 0, hrc wRun 1, hrc (tm wRun 1 1010) 5, hrc (tm wRun 0 1010) 5, hrc (tm wRun 1 99999) 5,
    hrc (tm wRun 1 312500) 1, {wRun with bypass := true}, {wRun with inReset := true}, {wRun with pings := 1, pingSum := 3200},
    {wRun with pings := 9, pingSum := 32}, {wRun with noticed := [5], noticeHeld := [(5,[1,2])]},
    {wRun with noticeHeld := [(5,[1,2])]}, wRun.setF HRC_STAT HRC_STAT.HOLDOVER 1, wRun.setF HRC_STAT HRC_STAT.SPARE_RX 1,
    (wRun.setF HRC_STAT HRC_STAT.SPARE_RX 1).setF HRC_STAT HRC_STAT.UPLOCK 1, (wRun.setF HRC_STAT HRC_STAT.SPARE_TX 1),
    (wRun.setF HRC_STAT HRC_STAT.SPARE_RX 1).setF HRC_STAT HRC_STAT.HOLDOVER 1, hrc (wRun.setF HRC_STAT HRC_STAT.TAIL 1) 3,
    {wRun with fallow := true}]
def ccm (a : Nat) (l : List Byte) : HrCmd := ⟨BitVec.ofNat 8 a, false, 0x77, l, true, false, false⟩
def z7 : List Byte := List.replicate 7 0
def cms : List HrCmd := [ccm 5 z7, {ccm 5 z7 with full := true}, ccm 6 z7, ccm 255 z7, ccm 5 (z7
    ++ beBytes 8 (0xF00000000000 + SES_CNT)), ccm 5 (z7 ++ beBytes 8 (0xF00000000000 + FLT_CFG) ++ beBytes 8 0xFFFF),
    ccm 5 (z7 ++ beBytes 8 (0xF00000000004)), ccm 5 (z7 ++ beBytes 8 (0xF0000FFFFFF8)), ccm 5 ([2] ++ List.replicate 6 0),
    ccm 5 ([1] ++ List.replicate 6 0), ccm 5 ([3] ++ List.replicate 6 0), ccm 5 ([7] ++ List.replicate 6 0
    ++ beBytes 7 0x1234), ccm 5 ([79] ++ List.replicate 6 0 ++ beBytes 7 0xFFFFFFFFFFFFFF),
  ccm 5 ([1, 0, 5, 0,0,0,3] ++ [9,9,9]), ccm 5 ([2, 0, 5, 0,0,0,3] ++ [9,9,9]),
      {ccm 5 ([0, 0, 5, 0,0,0,3] ++ [9,9,9]) with last := true}, ccm 1 (z7 ++ beBytes 8 1000), ccm 5 (z7 ++ beBytes 8 1000)]
def mss : List State := [hrc wRun 5, hrc wRun 1, {hrc wRun 5 with fallow := true},
    {hrc wRun 5 with startStage := .image 2, imageIn := ⟨5,[1,2,3],false,0⟩}, (hrc wRun 5).setF (HRC_MBOX 7) HRC_MBOX.FULL 1,
    hrc wTwin 5, (hrc wRun 5).setF (CLK_ISTAT 14) CLK_ISTAT.STATE 2, tm (hrc wRun 1) 1 5000000]
end D16

namespace D17
def tv (s : State) : State := s.setF HRC_STAT HRC_STAT.TIMEVALID 1
def one : State := { State.reset with csr := [(HRC_STAT, (tv State.reset).rd HRC_STAT),(LGR_CNT0,77)] }
def nm (s : State) (c : Nat) : State := (s.setF SPR_CMD SPR_CMD.CORE c)
def asks (s : State) (c : Nat) : State := (s.setFs SPR_REQ [(SPR_REQ.VALID,1),(SPR_REQ.CORE,c)])
def rts : List State := [wRun, tv wRun, one,
    {State.reset with csr := (if HRC_STAT < LGR_CNT0 then [(HRC_STAT, (tv State.reset).rd HRC_STAT),(LGR_CNT0,77)] else [(LGR_CNT0,77),(HRC_STAT, (tv State.reset).rd HRC_STAT)])}, {wRun with inReset := true}, wRun.setFs (FLT_SRC 5) [(FLT_SRC.CLASS,4)], (wRun.wr FLT_STATUS 0xFFFFFFFFFFFF).setFs (FLT_SRC 5) [(FLT_SRC.CLASS,4),(FLT_SRC.COUNT,65535)], wRun.setF FLT_CAP FLT_CAP.VALID 1,
  wRun.setF SPR_CFG SPR_CFG.RO_LIMIT_PPM 100, nm (asks wRun 5) 5, nm wRun 5,
      nm (asks (wRun.setF (TWN_CSTATE 5) TWN_CSTATE.ROLE 1) 5) 5, nm (asks wRun 5) 90,
      {wRun with sprDeferred := [5], sprNeeds := [(5,3)]}, {asks wRun 6 with sprDeferred := [5], sprNeeds := [(5,3)]},
      wRun.setF SPR_STAT SPR_STAT.BUSY 1, (nm (asks wRun 5) 5).setF (TWN_CSTATE 5) TWN_CSTATE.ROLE 2,
      (nm wRun 5).setF (TWN_CSTATE 5) TWN_CSTATE.ROLE 1,
      (wRun.setF (SPR_CWEAR 5) SPR_CWEAR.WARN 1).setF SPR_CFG SPR_CFG.RO_LIMIT_PPM 100]
def vss : List (Nat×Nat×Nat) := [(100 + (2*1000000)*2^24, 0x00, 40),(0, 0xB0,
    100),(1 + 1000 * 2^24,0x14,49),(3600001,0x7F,50),(3600000 + 2^40*2^24-2^24,0xFF,200),(2 + 999 * 2^24 ,0x95,131071),(0xFFFFFFFFFFFFFFFF,0x44,51)]
def lc (s : State) (n t : Nat) : State := (s.setF LCS_STAT LCS_STAT.STATE n).setF LCS_CMD LCS_CMD.TARGET t
def fu (s : State) (ty svn k a : Nat) : State := (s.setFs LCS_FCMD [(LCS_FCMD.TYPE,ty),(LCS_FCMD.SVN,svn),(LCS_FCMD.KEYIDX,k)]).setF LCS_FARG LCS_FARG.ADDR a
def area : State := wMem wRun 0x400000 (List.replicate 64 5)
def pns : List State := [wRun, {wRun with prst := true}, {wRun with tamper := true}, {wRun with vinLow := true},
    {wRun with scanHold := true}, {wRun with scanHold := true, prst := true}, wRun.setF LEV_TSTAT LEV_TSTAT.HIGH 1]
    ++ (List.range 5).flatMap (fun n => (List.range 6).map (fun t => lc wRun n t) ++ [lc {wRun with prst := true} n 0,
    fu (lc area n 0) 1 5 0 (0x400000/64), fu (lc area n 0) 0 5 3 (0x400000/64), fu (lc area n 0) 5 5 3 0,
    fu (lc {area with oemHash := some 5, kik := some [5]} n 0) 4 0 3 0x10000,
    fu (lc {area with svnRaises := [(2,32)]} n 0) 2 1 3 0, fu (lc {area with poison := [0x400000/64]} n 0) 2 1 3 (0x400000/64),
    (fu (lc area n 0) 2 1 3 0).setF LCS_FSTAT LCS_FSTAT.REVOKED 7,
    (fu (lc area n 0) 2 1 2 0).setF LCS_FSTAT LCS_FSTAT.REVOKED 7])
def wss : List State := [wRun, {wRun with inReset := true}, {wRun with fallow := true},
    wRun.setF (CLK_ISTAT 14) CLK_ISTAT.STATE 2, wRun.setFs (CLK_ISTAT 3) [(⟨9,1⟩,1),(⟨10,1⟩,1)],
    (wRun.setF CMP_STAGE CMP_STAGE.SIZE 5).setF CMP_STAT CMP_STAT.STOPPED 0, {wRun with staged := [(CIP_CFG,5)]},
    (wRun.setF CIP_CFG CIP_CFG.HARDEN 1), (List.range 17).foldl (fun s n => s.setF (CLK_ISTAT n) CLK_ISTAT.STATE 2) wRun]
end D17

namespace D19
def qs : List State := [{wRun with pending := [.cstLoad]}, wRun]
def decs : List (State × Word × Nat × Nat × Nat) :=
  [(wPorts wRun 0 [(0x381,0x1C)], 0x2D, 1, 1, 0), (wPorts wRun 0 [(0x381,0x15)], 0x2D, 1, 1, 0),
   (wPorts wRun 0 [(0x380,0xA000000000000000),(0x381,0xC)], 0x2D, 31, 1, 31),
   (wPorts wRun 0 [(0x381,0x1C),(0x382,0xA000000000000000)], 0xC, 1, 31, 31)]
def cmps : List State := [wRun.modCore 0 (fun k => {k with awaits := [⟨0x204,5,false,100⟩,⟨0x205,6,true,200⟩,⟨0x204,8,false,100⟩]})]
def wk (e2 : Nat) : State :=
  ((((wWords (wWords wRun 0x40000 [5*65536+1]) 0x50028 [e2]).setF (XLT_CTX 0) XLT_CTX.HXEN 1).setFs (XLT_HREACH 0 2) [(XLT_GREACH.TYPE,2),(XLT_GREACH.SIZE,30),(REACH_TABLED.ROOT,4)])).modCore 0 (fun k => {k with stall := some (.walk 0x50000 .write 2 0x248), reads := [(1,0x204)]})
def lats : List State := [(wRun.setF HWK_ID HWK_ID.LATERAL 1).modCore 0 (fun k => {k with sb := [⟨2,0xF05,8,9,false⟩,⟨2,0xF06,8,10,true⟩,⟨1,0x99,8,3,false⟩]})]
def slus : List State := [wRun.setF SLU_CFG SLU_CFG.SWAP_EN 0]
def alts : List State := [{wRun with altInit := true}]
def io (e2 : Nat) : State := (wWords (wWords wRun 0x40000 [5*65536+1]) 0x50028 [e2]).setFs (ALT_IOREACH 3 0) [(XLT_GREACH.TYPE,2),(XLT_GREACH.SIZE,30),(REACH_TABLED.ROOT,4)]
def cmds : List Instr := [.cstLoad]
def mgs : List (HrCmd × Nat) := [(⟨5, false, 0x77, [7,0,0,0,0,0,0] ++ beBytes 7 1, true, false, false⟩, 5)]
end D19

namespace D20
def lk (s : State) (l : Nat) (f : Link → Link) : State := { s with links := s.links.put l (f (s.link l)) }
def u20 : State := wSesRun
def stt (n : Nat) : State := (u20.setF (LNK_STAT 20) LNK_STAT.STATE n).setFs (LNK_CFG 20) [(LNK_CFG.RETRAIN_MAX,3)]
def sv (s : State) (k m : Nat) : State := s.setFs (LNK_SPCFG k) [(LNK_SPCFG.SERVES,m)]
def fr (n : Nat) : TxFrame := ⟨n, 1, List.replicate 30 5⟩
def ua : State := lk u20 20 (fun k => {k with unacked := [fr 65534, fr 65535, fr 0], next := 1, expect := 7, ownFreed := [1,2,3,4], initRx := true})
def tf (n : Nat) (s : State) : State := s.setF (LNK_STAT 20) LNK_STAT.TRAINFAIL n
def lst : List State := [tf 2 (stt 2), sv (tf 2 (stt 2)) 2 255, tf 7 (sv (stt 1) 2 16), tf 2 (sv (stt 3) 2 255),
    tf 2 (lk (sv (stt 2) 2 255) 20 (fun k => {k with move := some ⟨2,20,true,false,false⟩}))]
def mv (p l c : Bool) (s : State) : State := lk s 20 (fun k => {k with move := some ⟨2,20,p,l,c⟩})
def sp : State := sv u20 2 255
def pss : List State := [{mv true false false sp with fallow := true}, {mv true false false sp with lanesIdle := true},
    (mv true false false sp).setF (LNK_STAT 18) LNK_STAT.STATE 7, (mv true false true sp),
    (mv false false false (sp.setF (LNK_CTL 20) LNK_CTL.ENCAP 1)),
  {sp with rateDue := true}]
def nk (a : Nat) : Frame := ⟨2,0,a,true,0,3,5,[]⟩
def mvf (k : Nat) : Frame := ⟨5,0,0,false,0,0,0,[BitVec.ofNat 8 k,2] ++ List.replicate 6 0⟩
def ini (s : State) : Frame := ⟨4,0,0,false,0,0,0,(s.initPayload 20)⟩
def fms : List Frame := [nk 65533, nk 65534, nk 0, mvf 1, mvf 2, mvf 3, ini u20,
    ini (lk u20 20 (fun k => {k with initRx := false})), ini (lk u20 20 (fun k => {k with initRx := true})),
    ⟨0,7,0,false,0,1,5,List.replicate 24 0⟩, ⟨1,0,65535,true,0,2,1023,[]⟩]
def i4 : State := lk (stt 4) 20 (fun _ => Link.cleared 7)
def rxs : List State := [ua, ua.setF (LNK_CFG 20) LNK_CFG.RETRY_MAX 0,
    (lk ua 20 (fun k => {k with replays := 5})).setF (LNK_CFG 20) LNK_CFG.RETRY_MAX 5,
    lk ua 20 (fun k => {k with nakReplay := some 65534}), lk ua 20 (fun k => {k with nakReplay := some 65533}),
  mv false false false u20, mv false true false u20, mv true true true u20, sv (mv false true false u20) 2 255, i4,
      lk i4 20 (fun k => {k with initSeenTx := true}), lk i4 20 (fun k => {k with peerKnown := true, peerEpoch := 1}),
      {ua with lanesIdle := true}, {ua with fallow := true}, ua.setF (LNK_CTL 20) LNK_CTL.ENCAP 1,
      ua.setF (LNK_STAT 20) LNK_STAT.STATE 6, {lk i4 20 (fun k => {k with initSeenTx := true}) with lanesIdle := true}]
def vari (s : State) (f : Frame) : List (List Byte) := [f.bytes, f.bytes.set 9 77, f.bytes.take 3]
    ++ (if s.flag (LNK_CTL 20) LNK_CTL.ENCAP then [s.encapsulate 20 f.bytes] else [])
end D20

namespace D21
def mc (s : State) (c : Nat) (f : Core → Core) : State := s.modCore c f
def op1 : Op := ⟨0x100,0x108,0x40,0,1,[(0x101,7),(0x90,9)],4,none,5,none⟩
def cst : List State := [mc wRun 0 (fun k => {k with inflight := [op1]}),
    mc wRun 0 (fun k => {k with inflight := [op1], dist := 5}),
    mc wRun 0 (fun k => {k with inflight := [{op1 with seen := 0, poison := some 0x2000}]}),
    mc wRun 0 (fun k => {k with inflight := [{op1 with due := 9}]}),
   mc wRun 82 (fun k => {k with inflight := [{op1 with seen := 0, poison := some 0x2000}]}),
   mc wRun 0 (fun k => {k with sb := [⟨1,0x99,8,3,false⟩], fences := [⟨1,1,[],[]⟩,⟨2,0,[],[]⟩], awaits := fenceAwaits ++ fenceAwaits}),
   mc wRun 0 (fun k => {k with fences := [⟨2,0,[⟨0x204,5,false,100⟩],[]⟩,⟨1,0,[],[]⟩], awaits := ⟨0x204,5,false,100⟩ :: fenceAwaits}),
   mc wRun 82 (fun k => {k with fences := [⟨3,0,[],[]⟩,⟨1,0,[],[]⟩], awaits := ⟨0x204,5,false,100⟩ :: fenceAwaits})]
def wk (kind : AccKind) (e1 e2 : Nat) (guest : Bool) : State :=
  let s := wWords (wWords wRun 0x40000 [e1]) 0x50028 [e2]
  let s := if guest then wPorts s 0 [(0x8C,0),(0xB3,3)] else (s.setF (XLT_CTX 0) XLT_CTX.HXEN 1)
  let s := if guest then s.setFs (XLT_GREACH 0 2) [(XLT_GREACH.TYPE,2),(XLT_GREACH.SIZE,30),(REACH_TABLED.ROOT,4)] else s.setFs (XLT_HREACH 0 2) [(XLT_GREACH.TYPE,2),(XLT_GREACH.SIZE,30),(REACH_TABLED.ROOT,4)]
  mc s 0 (fun k => {k with stall := some (.walk 0x50000 kind 2 0x248), reads := [(1,0x204)]})
def wks : List State := [AccKind.probeR,.probeW,.pref,.read,.write].flatMap fun k => [false,true].flatMap fun g => [wk k (5*65536+1) (7*65536+0x3F) g, wk k (5*65536+1) (7*65536+0xF) g, wk k (5*65536+1) (7*65536+1) g, wk k 0 (7*65536+0x1F) g, wk k (5*65536+1) 0 g, wk k (5*65536+1+2^60) 0 g, wk k (5*65536+1) (1+2^62) g, wk k (5*65536+1) (7*65536+0x7F) g,
  {wk k (5*65536+1) (7*65536+0x3F) g with poison := [0x50028/64]}]
def fs (c : Nat) : List State := [mc wRun c (fun k => {k with cmq := [⟨.pref,0x20,0⟩]}),
    mc wRun c (fun k => {k with fills := [⟨0x21,1,false,false,false⟩], cmq := [⟨.pref,0x20,0⟩,⟨.clean,0x20,0⟩]}),
    mc wRun c (fun k => {k with fills := [⟨0x20,1,false,false,false⟩], cmq := [⟨.clean,0x20,0⟩]}),
    mc wRun c (fun k => {k with fills := [⟨0x20,0,false,true,false⟩,⟨0x20,1,false,false,true⟩]})]
def jb (op : Nat) : List Nat := [op, 0x400000, 100 + 200*2^32, 0x500000, 0, 0, 0, 0]
def gs : State := wPorts (wFlat wSesRun) 0 [(0x8C,0),(0xB3,3),(0x440,5)]
def cms : List State := [wWords gs 0x600000 (jb 1), wWords gs 0x600000 (jb 2), wWords gs 0x600000 (jb 0),
    (wWords gs 0x600000 (jb 1)).setF (CMP_AJOB 3) CMP_AJOB.JOBMAX 0]
def sv (u : StoreUnit) (cause : Nat) : State := wRun.wr (saveArea u 0) (Word.ofNat (2^20 + cause*65536 + 5))
def css : List State := [sv (.core 0) 2, mc (sv (.core 0) 2) 0 (fun k => {k with exc := some (plainExc 0x31 0 0)}),
    sv (.core 0) 1, mc (sv (.core 0) 1) 0 (fun k => {k with exc := some (plainExc 0x31 0 0)}),
    wRun.setFs (CST_SPATCH 3) [(CST_SPATCH.EN,1),(CST_SPATCH.SAVE,1),(CST_SPATCH.MATCH,0xF234)]]
def ck (line : Nat) : Nat := (resSlice line * 4096 + setRes line) * 16
def cwx (st : L2St) (w : Nat) (d : Nat) : State := {mc {wWords wRun 0x2000 [7,8] with dram := [(0x2000,1)], res := [(ck 0x20 + w,0x20*2+d)]} 0 (fun k => {k with l2 := [(setL2 0x20 * 16 + w,⟨0x20,st,0⟩)], scrub := setL2 0x20 * 16 + w}) with resScrub := [(resSlice 0x20, setRes 0x20 * 16 + w)]}
def dr : State := ((List.range 8).foldl (fun s n => s.setF (DRM_SSTAT n) DRM_SSTAT.STATE 0) wRun).setF DRM_CFG DRM_CFG.ROW_THRESH 2
def wb (b : Nat) : State := wWords wRun (0x10000000000 + b * 0x800000) [5,6,7]
def mg (s : State) (f : Group → Group) : State := s.setGroup 3 (f (s.group 3))
def jn (st : Nat) : State := ((mg (wTwin.setF (TWN_GSTAT 3) TWN_GSTAT.STATE st) (fun g => {g with joining := [9]})).setF (TWN_CSTATE 9) TWN_CSTATE.ROLE 3)
def cmdx (s : State) (g c l : Nat) (a : Word) : State := (s.setFs TWN_CMD [(TWN_CMD.GROUP,g),(TWN_CMD.CORE,c),(TWN_CMD.LEAD,l)]).wr TWN_CMDARG a
end D21

namespace D22
def cmdS (s : State) (n a : Nat) : State := (s.setF SES_CMD SES_CMD.SESSION n).setF SES_CMDARG SES_CMDARG.ADDR a
def down (s : State) : State := ((s.setF (LNK_STAT 20) LNK_STAT.STATE 0).setF (LNK_STAT 21) LNK_STAT.STATE 0)
def dsc (s : State) (l : List Byte) : State := wMem s 0x400000 l
def gd : List Byte := wDesc 3 6 20 21 0x1FF 0x1FF 0x100000 6 0x240000 6 20 0x300000 4 0 0 0
def gd5 : List Byte := wDesc 3 5 20 21 0x1FF 0x1FF 0x100000 6 0x240000 6 20 0x300000 4 0 0 0
def bad1 : List Byte := wDesc 0 6 20 21 0x1FF 0x1FF 0x100000 6 0x240000 6 20 0x300000 4 0 0 0
def ss (s : State) (f : Session → Session) : State := {s with sessions := [(9, f wSes)]}
def base : State := dsc (down wSesRun) gd
def sst : List State := [cmdS {base with poison := [0x400000/64]} 10 0x400000, cmdS base 10 0x7FE0000000,
    cmdS base 10 0x6000000000, cmdS (dsc base bad1) 10 0x400000, cmdS (dsc base gd5) 10 0x400000, cmdS base 10 0x400000,
    cmdS (wSesRun |> fun s => dsc s gd) 10 0x400000, cmdS (ss base (fun k => {k with state := 0, sepoch := 65535})) 9 0x400000,
    cmdS (ss (dsc wSesRun gd) (fun k => {k with state := 0, sepoch := 65535})) 9 0x400000]
def inb (s : State) (m : List Byte) : State := {s with inbox := [(20,m),(21,[5])]}
def mg (t tseq : Nat) (body : List Byte) : List Byte := furrowMsg t 9 7 4 tseq 0 0 body
def op (s : State) : State := {ss s (fun k => {k with state := 1, answered := []}) with sesBusy := some (1,9)}
def cl (s : State) : State := {ss s (fun k => {k with state := 4, closing := some .sent}) with sesBusy := some (2,9)}
def w (r : Rec) : State := wRec (wFlat wSesRun) 0 r
def pms : List State := [inb wSesRun (mg 2 0 [0,11,1,0,0,0,0,0]), inb wSesRun (mg 2 0 [1,11,1,0,0,0,0,0]),
    inb wSesRun (mg 3 0 [1,0,0,0]), inb (ss wSesRun (fun k => {k with opts := 0})) (mg 3 0 [5,0,0,0]),
  inb wLed (mg 0x21 99 ([0,0,0,9,0,0,0,0] ++ List.replicate 20 7)), inb wLed (mg 0x21 99 ([0,0,3,9,0,0,0,0]
      ++ List.replicate 600 7)), inb wLed (mg 0x31 99 [0,0,1,2,0,0,0,5,0,0,9,9,0,0,0,0]),
      inb wLed (mg 0x31 99 [0,0,1,2,0,0,0,5,0,0,0,0,0,0,0,0]),
      inb (w {wR with cmd := 9, state := 1}) (mg 0x21 99 ([0,0,0,0,0,0,0,0] ++ List.replicate 20 7)),
  inb (w {wR with cmd := 8}) (mg 0x31 99 [3,0,1,2,0,0,0,5,0,0,0,9,1,2,3,4]),
      inb {ss wSesRun (fun k => {k with attn := 5}) with tailQueue := [.other 9 none (5+4*2^56) 1 2 3]} (mg 0x32 5 [1,2,3,4,5,6,7,8]), inb {ss wSesRun (fun k => {k with attn := 5}) with tailQueue := [.other 9 none (4+4*2^56) 1 2 3]} (mg 0x32 5 [1,2,3,4,5,6,7,8])] ++
  [2,3,4,0x30,0x21,0x31,0x32].map (fun t => {inb wLed (mg t 99 (List.replicate 20 0)) with inbox := [(22, mg t 99 (List.replicate 20 0)),(21,[5])]}) ++ [2,3,4,0x30,0x21,0x31,0x32].map (fun t => {inb wLed (mg t 99 (List.replicate 20 0)) with sessions := [(9,{wSes with state := 3, reason := 4})]})
def lk (s : State) (l : Nat) (f : Link → Link) : State := { s with links := s.links.put l (f (s.link l)) }
def unk (s : State) : State := lk s 20 (fun k => {k with unacked := [⟨0,1,[]⟩]})
def tms : List State := [op wSesRun, wSesRun, cl wSesRun, unk wSesRun].map (fun s => s.setF SLU_STAT SLU_STAT.HOLDER 2)
    ++ [unk wSesRun, unk wLed, {unk wSesRun with stalled := [21]}, cl (down wSesRun), {cl wSesRun with stalled := [20,21]},
    ss (down wSesRun) (fun k => {k with state := 2}), ss wSesRun (fun k => {k with stranded := some 3}),
    {wSesRun with stalled := [20,21]}]
def dbs : List State := [{down wLed with issueQueue := [0]}, {wLed with resendLate := [0]}, {down wLed with resendLate := [0]},
    {w {wR with state := 1} with resendLate := [0]}, {wLed with resendLate := [0,0]},
    {wSesRun with tailQueue := [.other 9 (some 17) 5 6 7 8]}, {wSesRun with tailQueue := [.other 9 none 5 6 7 8]},
    {wSesRun with tailQueue := [.other 9 (some 17) (5+4*2^56) 6 7 8]}, wLed.setF SLU_STAT SLU_STAT.HOLDER 2,
    {wLed.setF SLU_STAT SLU_STAT.HOLDER 2 with issueQueue := [0], tailQueue := [.record 0]}]
end D22

namespace D23
def stt (n : Nat) : State := ((wSesRun.setF (LNK_STAT 20) LNK_STAT.STATE n).setFs (LNK_CFG 20) [(LNK_CFG.RETRAIN_MAX,3)]).setF (LNK_STAT 20) LNK_STAT.TRAINFAIL 2
def cmdS (s : State) (n a : Nat) : State := (s.setF SES_CMD SES_CMD.SESSION n).setF SES_CMDARG SES_CMDARG.ADDR a
def wS5 : Session := {wSes with desc := wDesc 3 5 22 23 0x1FF 0x1FF 0x100000 6 0x200000 6 22 0x300000 4 0 0 0, answered := [22,23]}
def ful (l : List Byte) (k : Session) : State := {wMem wSesRun 0x400000 l with sessions := (9, k) :: (List.range 4096).map (fun i => (100 + i, wS5))}
def io (e2 : Nat) : State := (wWords (wWords wRun 0x40000 [5*65536+1]) 0x50028 [e2]).setFs (ALT_IOREACH 3 0) [(XLT_GREACH.TYPE,2),(XLT_GREACH.SIZE,30),(REACH_TABLED.ROOT,4)]
def tl (r w : Bool) : TlbEnt := ⟨some 3,5,false,7,r,w,true,true,1,true⟩
def ios : List State := [io (7*65536+0x3F), io (7*65536+0x1F), io (7*65536+0x2F), io 0, io (7*65536+0xF),
    {io (7*65536+0x3F) with iotlb := [(ioSet 0x50000,[tl true true])]},
    {io (7*65536+0x3F) with iotlb := [(ioSet 0x50000,[tl false true])]},
    {io (7*65536+0x3F) with iotlb := [(ioSet 0x50000,[tl true false])]},
    (io (7*65536+0xF)).setF (ALT_ACTL 3) ALT_ACTL.LOGDIRTY 1]
def ky : KeySlot := ⟨1, (List.range 16), 5, 0, 3, 16, 0, 1⟩
def kd (w0 : Nat) : State := ((wMem {wRun with slots := [(5,ky)]} 0x400000 (le 8 w0)).setF CIP_KCMD CIP_KCMD.SLOT 8).setF CIP_KARG CIP_KARG.ADDR 0x400000
def cw : State := wRec (wMem (wFlat wSesRun) 0x400000 (List.replicate 30 1)) 0 {wR with cmd := 8, squeeze := true, state := 3, count := 30, addr := 0x400000}
def inf (b : Nat) (t : Nat × Nat × Nat × Nat × Nat) : State := {cw with engines := [(7,.inflate 0)], xfers := [(0,{Xfer.none with data := [1,2,3], bad := b, tend := some t})]}
def isl (s : State) (n st d lock : Nat) : State := s.setFs (CLK_ISTAT n) [(CLK_ISTAT.STATE,st),(CLK_ISTAT.DIV,d),(CLK_ISTAT.LOCK,lock)]
def lockAll : State := (List.range 17).foldl (fun s n => isl s n 0 0 1) wRun
def slp (n f : Nat) : State := lockAll.setFs (CLK_ICTL n) [(CLK_ICTL.FREQ,f),(CLK_ICTL.SLEEP_EN,1),(CLK_ICTL.RUN_EN,0)]
def so : StartOutcome := ⟨true,[],[],[],[],none,77⟩
def st (s : State) (p k cf : Nat) : State := s.setFs HWK_SSTAT [(HWK_SSTAT.PHASE,p),(HWK_SSTAT.KIND,k),(HWK_SSTAT.COLDFAIL,cf)]
def c0 : State := {st State.reset 0 0 0 with bypass := false}
def i1 (l : List Byte) (tr : Nat) : State := {c0 with startStage := .image 1, imageIn := ⟨5,l,true,tr⟩}
def ld : State := {c0 with startStage := .loaded}
def psts : List (State × StartOutcome × Nat) := [(c0,{so with bist := [.vital]},3), (i1 [1,2,3] 0,so,3),
    (i1 (List.replicate 400 0) 1,so,3),(i1 ([0x47,0x43,0x49,0x31] ++ List.replicate 400 0) 0,so,3),
    (ld.setFs (DRM_SSTAT 3) [(DRM_SSTAT.SPARED,31)],{so with baseFail := [(3,4),(3,16)]},3),
  ({st State.reset 0 1 0 with startStage := .loaded, bypass := false}, so, 3),
      ({st State.reset 0 1 0 with startStage := .loaded}, {so with dramFail := [3]}, 3),
      ({st wRun 1 0 0 with startStage := .idle}.setF HWK_SCFG HWK_SCFG.HOLD_TRICKLE 1, so, 3),
      ({st wRun 2 0 0 with startStage := .idle}.setF HWK_SCFG HWK_SCFG.HOLD_TRICKLE 1, so, 3), (c0,so,0), (c0,so,8),
      (wRun,so,15)]
def fm (t hop : Nat) (p : List Byte) : HrFrame := ⟨BitVec.ofNat 8 t, 0xFF, BitVec.ofNat 8 hop, false, 0x1234, p, true, false⟩
def hrc (s : State) (a : Nat) : State := s.setF HRC_ENUM HRC_ENUM.ADDR a
def ccm (l : List Byte) : HrCmd := ⟨5, false, 0x77, l, true, false, false⟩
def z7 : List Byte := List.replicate 7 0
def mss : List State := [hrc wRun 5, {hrc wRun 5 with fallow := true},
    (hrc (wRun.setF LGR_STAT LGR_STAT.STATE 2) 5).setF HWK_SSTAT HWK_SSTAT.BASEMASK 0]
def cms : List HrCmd := [ccm (z7 ++ beBytes 8 (0xF00000000000 + FLT_CFG) ++ beBytes 8 5), ccm (z7
    ++ beBytes 8 (0xF00000000004) ++ beBytes 8 5), ccm (z7 ++ beBytes 8 (0xF0001FFFFFF8) ++ beBytes 8 5), ccm ([1]
    ++ List.replicate 6 0), ccm ([80] ++ List.replicate 6 0 ++ beBytes 7 0x1234), ccm ([255] ++ List.replicate 6 0
    ++ beBytes 7 0x1234), ccm ([2] ++ List.replicate 6 0), ccm (z7 ++ beBytes 8 5)]
end D23

/-! Every clause has its witness -/

theorem test_hypotheses_StepRunsTheCommandInFront : covers 2 (
    (sel D19.qs [0, 1]).map
      (fun x => (hypStepRunsTheCommandInFront x))) = true := by decide +kernel

theorem test_hypotheses_AluTriggersComputeAsR72Gives : covers 1 (
    (sel D0.prs [0]).map
      (fun x => (hypAluTriggersComputeAsR72Gives (D0.st 0 0x120 x.1 []) 0 1 x.2))) = true := by decide +kernel

theorem test_hypotheses_ShTriggersComputeAsR72AndR482Give : covers 1 (
    (sel (D1.prs.take 25) [0]).map
      (fun x => (hypShTriggersComputeAsR72AndR482Give (D1.st 0 0x180 x.1 [(0x181,0x0F04)]) 0 x.2))) = true := by decide +kernel

theorem test_hypotheses_CmpTriggersWriteResultAndPredicate : covers 1 (
    (sel D0.prs [0]).map
      (fun x => (hypCmpTriggersWriteResultAndPredicate (D0.st 0 0x1A0 x.1 [(0x1A1,3)]) 0 x.2))) = true := by decide +kernel

theorem test_hypotheses_MulTriggersComputeAsR91Gives : covers 1 (
    (sel D0.prs [0]).map
      (fun x => (hypMulTriggersComputeAsR91Gives (D0.st 0 0x2A0 x.1 [(0x2A1,3)]) 0 x.2))) = true := by decide +kernel

theorem test_hypotheses_DivTriggersComputeAsR92ToR94Give : covers 7 (
    (sel D0.prs [0, 1, 56]).map
      (fun x => (hypDivTriggersComputeAsR92ToR94Give (D0.st 0 0x2C0 x.1 []) 0 x.2))
    ++ (sel D0.prs [0]).map
      (fun x => (hypDivTriggersComputeAsR92ToR94Give (D0.st 0 0x2C0 x.1 [(0x8C,0x10010)]) 0 x.2))) = true := by decide +kernel

theorem test_hypotheses_FpTriggersStartOneOperation : covers 1 (
    (sel D0.prs [0]).map
      (fun x => (hypFpTriggersStartOneOperation (D0.st 0 0x340 x.1 [(0x341,0x3FF0000000000000),(0x342,2)]) 0 1 .d true x.2))) = true := by decide +kernel

theorem test_hypotheses_DecTriggersComputeAsR107ToR111Give : covers 5 (
    (sel D1.dpr2 [0]).map
      (fun x => (hypDecTriggersComputeAsR107ToR111Give (D1.st 0 0x380 x.1.1 [(0x381,x.1.2),(0x382,x.2.1)]) 0 false x.2.2 0 0 0))
    ++ (sel D19.decs [1, 3]).map
      (fun x => (hypDecTriggersComputeAsR107ToR111Give x.1 0 false x.2.1 x.2.2.1 x.2.2.2.1 x.2.2.2.2))) = true := by decide +kernel

theorem test_hypotheses_HeadworksCoresTrapOnAbsentUnits : covers 1 (
    (sel D0.prs.head?.toList [0]).map
      (fun x => (hypHeadworksCoresTrapOnAbsentUnits (D0.st 82 0x300 x.1 [(0x8C,0x3E1000F)]) 82 2 1 .s false x.2))) = true := by decide +kernel

theorem test_hypotheses_CompletionsDeliverResults : covers 4 (
    (sel [D2.mc wRun 0 (fun k => {k with awaits := fenceAwaits, fences := [⟨1,0,[],[]⟩], returning := true})] [0]).map
      (fun s => (hypCompletionsDeliverResults s 0 0x204 ⟨0x204,5,false,100⟩ [] [] ⟨1,0,[],[]⟩ [] []))
    ++ (sel D2.compStates [5]).map
      (fun s => (hypCompletionsDeliverResults s 0 0x204 ⟨0x204,5,false,100⟩ [] [] ⟨1,0,[],[]⟩ [] []))
    ++ (sel D19.cmps [0]).map
      (fun x => (hypCompletionsDeliverResults x 0 0x204 ⟨0x204,5,false,100⟩ [] [⟨0x205,6,true,200⟩,⟨0x204,8,false,100⟩] ⟨0,0,[],[]⟩ [] []))
    ++ (sel D21.cst [0]).map
      (fun s => (hypCompletionsDeliverResults s 0 0x204 ⟨0x204,5,false,100⟩ [] [] ⟨1,0,[],[]⟩ [] []))) = true := by decide +kernel

theorem test_hypotheses_ControlMovesRedirectTheCore : covers 4 (
    (sel (D2.ctl.flatMap fun s => D2.vs.map fun v => (s,v)) [0]).map
      (fun x => (hypControlMovesRedirectTheCore x.1 0 x.2 true))) = true := by decide +kernel

theorem test_hypotheses_BundleOfOneMoveWritesItsRegister : covers 4 (
    (sel D3.bst [0, 7]).map
      (fun s => (hypBundleOfOneMoveWritesItsRegister s 0 3 0 0 5 0 7))
    ++ (sel D4.bst [0]).map
      (fun s => (hypBundleOfOneMoveWritesItsRegister s 0 3 0 0 5 0 7))) = true := by decide +kernel

theorem test_hypotheses_HostTrapEntryFollowsR117 : covers 1 (
    (sel (D3.tst 0) [0]).map
      (fun s => match (s.atBundle 0).nextCond 0 with | some d => (hypHostTrapEntryFollowsR117 s 0 d) | none => [])) = true := by decide +kernel

theorem test_hypotheses_HostTrapReturnFollowsR121 : covers 2 (
    (sel (D3.rst 0) [0]).map
      (fun s => (hypHostTrapReturnFollowsR121 s 0))
    ++ (sel ((D3.rst 0).map fun s => D3.mc s 0 (fun k => {k with invq := [⟨0x3C4,0,0,0⟩], awaits := [⟨0x3C2,0,false,0⟩]})) [0]).map
      (fun s => (hypHostTrapReturnFollowsR121 s 0))) = true := by decide +kernel

theorem test_hypotheses_InterruptsSetTheirLines : covers 5 (
    (sel (D3.ist.flatMap fun s => [0x205,0x203,5,0x100,0x905,0x105,0x90A,0xA05].map (fun v => (s,v))) [0, 2, 8]).map
      (fun x => (hypInterruptsSetTheirLines x.1 0 x.2 3 0))) = true := by decide +kernel

theorem test_hypotheses_LoadsAndStoresFollowR75 : covers 5 (
    (sel ((D4.lst 0x240).flatMap fun s => (D4.lds.zip D4.sts).flatMap fun l => [0,1,2,4,8].map fun b => (s,l,(b:Nat))) [11,
    140]).map
      (fun x =>
  let va := ((x.1.atBundle 0).core 0).port 0x240 + Word.ofNat x.2.2
  let pa := match (x.1.atBundle 0).dataAddr 0 va .read 0 0x248 accRead with | .ok p => p | _ => va.toNat
  (hypLoadsAndStoresFollowR75 x.1 0 1 x.2.1.1 x.2.1.2 (Word.ofNat x.2.2) pa))) = true := by decide +kernel

theorem test_hypotheses_HeadworksCoresReachTheirBankAtOnce : covers 2 (
    (sel (D5.hst.flatMap fun s => (D5.lds.zip D5.sts).flatMap fun l => [0,1,2,4,8,0x7FFFF8].map fun b => (s,l,(b:Nat))) [0]).map
      (fun x => (hypHeadworksCoresReachTheirBankAtOnce x.1 82 x.2.1.1 x.2.1.2 (Word.ofNat x.2.2)))) = true := by decide +kernel

theorem test_hypotheses_AtomicsReadAndModify : covers 6 (
    (sel (D4.ast 0) [0]).map
      (fun s => (hypAtomicsReadAndModify s 0 0x77 ((s.core 0).port 0x3A0).toNat))) = true := by decide +kernel

theorem test_hypotheses_FencesWaitForWhatTheirMaskNames : covers 2 (
    (sel ((D4.ast 0).flatMap fun s => [0,1,2,4,8,16,31].map fun b => (s,(b:Nat))) [0, 1]).map
      (fun x => (hypFencesWaitForWhatTheirMaskNames x.1 0 (Word.ofNat x.2)))) = true := by decide +kernel

theorem test_hypotheses_ProbesAndInvalidationsFollowR218AndR219 : covers 7 (
    (sel ((D4.pst 0).flatMap fun s => D4.pbs.map fun b => (s,(b:Nat))) [0]).map
      (fun x => 
  match (x.1.atBundle 0).probeResult 0 (Word.ofNat x.2) .probeR with | some v => (hypProbesAndInvalidationsFollowR218AndR219 x.1 0 (Word.ofNat x.2) v) | none => [])) = true := by decide +kernel

theorem test_hypotheses_WalksAndInvalidationsEnd : covers 7 (
    (sel (D5.wks ++ [D5.mc wRun 0 (fun k => {k with stall := some (.walk 0x50000 .read 2 0x248), invq := [⟨0x3CA,0,0,0⟩], awaits := [⟨0x3C2,0,false,0⟩]}) , D5.mc (D5.wk .read 0 0 false) 0 (fun k => {k with invq := [⟨0x3CA,0,0,0⟩], awaits := [⟨0x3C2,0,false,0⟩]})]) [0, 61]).map
      (fun s => match (s.core 0).stall with
  | some (.walk _ _ _ _) => (hypWalksAndInvalidationsEnd s 0 0 .ok false) | _ => [])
    ++ (sel [D19.wk (7*65536+0xF)] [0]).map
      (fun x => (hypWalksAndInvalidationsEnd x 0 100 .ok false))
    ++ (sel D21.wks [0, 2, 36]).map
      (fun s => (hypWalksAndInvalidationsEnd s 0 0 .ok false))) = true := by decide +kernel

theorem test_hypotheses_MaintenanceFollowsR187 : covers 7 (
    (sel ((D5.mts 0).flatMap fun s => [0x2000,0x20FF,0x2100].map fun b => (s,(b:Nat))) [0]).map
      (fun x => (hypMaintenanceFollowsR187 x.1 0 (Word.ofNat x.2) (x.2/256*256)))
    ++ (sel ((D5.mts 82).flatMap fun s => [0x2000,0x20FF,0x2100].map fun b => (s,(b:Nat))) [0]).map
      (fun x => (hypMaintenanceFollowsR187 x.1 82 (Word.ofNat x.2) (x.2/256*256)))) = true := by decide +kernel

theorem test_hypotheses_FillsAndMaintenanceComplete : covers 3 (
    (sel ((D5.fs 0).flatMap fun s => [0x2000,0x2040,0x2080,0x2100,0x2140,0x2200].map fun b => (s,(b:Nat))) [1, 11]).map
      (fun x => (hypFillsAndMaintenanceComplete x.1 0 (BitVec.ofNat 39 x.2) false false))
    ++ (sel ((D21.fs 0).flatMap fun s => [0x2000,0x2040].map fun b => (s,(b:Nat))) [0]).map
      (fun x => (hypFillsAndMaintenanceComplete x.1 0 (BitVec.ofNat 39 x.2) false false))) = true := by decide +kernel

theorem test_hypotheses_LateralMovesFollowR60 : covers 6 (
    (sel (D6.lts.flatMap fun s => D6.ll.map fun b => (s,b)) [17]).map
      (fun x => (hypLateralMovesFollowR60 x.1 0 x.2 0x1234 [] (0,0) []))
    ++ (sel D19.lats [0]).map
      (fun x => (hypLateralMovesFollowR60 x 0 [] 0 [(0xF05,9)] (0xF06,10) [⟨1,0x99,8,3,false⟩]))) = true := by decide +kernel

theorem test_hypotheses_CipRequestsAnswerR344AndR345 : covers 3 (
    (sel (D6cip.cst.flatMap fun s => [true,false].flatMap fun b => ([⟨.ok,none⟩,⟨.corrected,none⟩,⟨.uncorrectable,none⟩,⟨.ok,some 1⟩] : List KeyRead).map fun r => (s,b,r)) [0, 16]).map
      (fun x => (hypCipRequestsAnswerR344AndR345 x.1 0 0x1234 x.2.1 x.2.2))) = true := by decide +kernel

theorem test_hypotheses_CmxAndBellRequestsAreAnswered : covers 11 (
    (sel (D6cmx.cms.flatMap fun s => [0x600000,0x600020,0,32,31,2^48-32].map fun b => (s,(b:Nat))) [4, 24, 36, 50]).map
      (fun x => (hypCmxAndBellRequestsAreAnswered x.1 0 (Word.ofNat x.2)))
    ++ (sel (D21.cms.flatMap fun s => [0x600000,0x600020].map fun b => (s,(b:Nat))) [0]).map
      (fun x => (hypCmxAndBellRequestsAreAnswered x.1 0 (Word.ofNat x.2)))) = true := by decide +kernel

theorem test_hypotheses_TranslationAndPatchWritesTakeEffect : covers 14 (
    (sel ([wRun,D6.grp,D6.grp.setGroup 3 {Group.reset with members := [(0,{Member.reset with closed := [⟨0,0,0,0,[],[],[],⟨Arch.reset,[],[]⟩,none⟩]})], confirmed := 5}, (D6.grp.setF (TWN_GSTAT 3) TWN_GSTAT.STATE 3).setFs (TWN_GCFG 3) [(TWN_GCFG.M0,0),(TWN_GCFG.M1,10),(TWN_GCFG.M2,0x7F)]].flatMap fun s => D6.vs.map fun b => (s,(b:Nat))) [1, 18]).map
      (fun x => (hypTranslationAndPatchWritesTakeEffect x.1 0 15 7 (Word.ofNat x.2)))
    ++ (sel ([D21.mc wRun 0 (fun k => {k with stall := some .fence}),
    D21.mc wRun 0 (fun k => {k with stall := some (.walk 0x50000 .read 2 0x248)})].flatMap fun s => [0,2+29*4,1+24*4,0xFFFFFFFF,0x3F000FFFF].map fun b => (s,(b:Nat))) [0, 5]).map
      (fun x => (hypTranslationAndPatchWritesTakeEffect x.1 0 15 7 (Word.ofNat x.2)))) = true := by decide +kernel

theorem test_hypotheses_ControlStoresFollowR137ToR143 : covers 10 (
    (sel (D7.css.flatMap fun s => [true,false].flatMap fun b => [0x1234,0xFFFF].map fun m => (s,b,(m:Nat))) [24, 32]).map
      (fun x => (hypControlStoresFollowR137ToR143 x.1 0 x.2.1 (BitVec.ofNat 16 x.2.2)))
    ++ (sel (D21.css.flatMap fun s => [true,false].flatMap fun b => [0x1234,0xFFFF,0xF234].map fun m => (s,b,(m:Nat))) [0, 26]).map
      (fun x => (hypControlStoresFollowR137ToR143 x.1 0 x.2.1 (BitVec.ofNat 16 x.2.2)))) = true := by decide +kernel

theorem test_hypotheses_CacheCommandsAndScrubbersFollowR197 : covers 8 (
    (sel (D7.cws.flatMap fun s => [0,3,15].map fun b => (s,(b:Nat))) [6, 18]).map
      (fun x => (hypCacheCommandsAndScrubbersFollowR197 x.1 0 0 (BitVec.ofNat 4 x.2)))
    ++ (sel (([(L2St.m,0,1),(.e,3,0),(.s,3,1),(.p,2,0),(.m,15,0)].map fun x => D21.cwx x.1 x.2.1 x.2.2).flatMap fun s => [0,1,5,15].map fun b => (s,(b:Nat))) [0]).map
      (fun x => (hypCacheCommandsAndScrubbersFollowR197 x.1 0 (Fin.ofNat 16 (resSlice 0x20)) (BitVec.ofNat 4 x.2)))) = true := by decide +kernel

theorem test_hypotheses_DramFollowsR228ToR235 : covers 17 (
    (sel (D7.drs.flatMap fun s => [0x2000,0x203F,0x7FE0000000].flatMap fun a => [(0,0,Ecc.ok),(1,3,.ok),(2,0x155,.ok),(0x3FFFFF,0x5555,.corrected),(3,0x5555,.uncorrectable),(4,0x5555,.ok),(5,0x55,.ok)].map fun i => (s,(a:Nat),(i:Nat×Nat×Ecc))) [21, 105, 169, 191, 224]).map
      (fun x => (hypDramFollowsR228ToR235 x.1 5 (BitVec.ofNat 39 x.2.1) (BitVec.ofNat 144 x.2.2.2.1) x.2.2.2.2 (x.2.2.1==1) 3 5 7 77 16 (BitVec.ofNat 22 x.2.2.1) (BitVec.ofNat 512 (0x1234567890123 * 2^300 + 77 * 2 ^ 490 + 5)) (x.2.2.1 == 2)))
    ++ (sel [D7.dr.setF SLU_STAT SLU_STAT.HOLDER 2] [0]).map
      (fun s => (hypDramFollowsR228ToR235 s 0x90 0x7FE0000000 0 .ok false 3 5 7 77 16 0 0 true))
    ++ (sel [{D21.dr with rowErrs := [(rowKey 3 5 7 77, 9)], rowsUsed := [(bankKey 3 5 7, 64)]}] [0]).map
      (fun s => (hypDramFollowsR228ToR235 s 5 0x2000 0 .ok false 3 5 7 77 16 0 0 true))) = true := by decide +kernel

theorem test_hypotheses_LedgerReadsFollowR233 : covers 8 (
    (sel (D7.lgs.flatMap fun s => [true,false].flatMap fun b => [0,1,0x3FFFFF].flatMap fun i => [Ecc.ok,.corrected,.uncorrectable].flatMap fun e => [Ecc.ok,.corrected,.uncorrectable].map fun f => (s,b,(i:Nat),e,f)) [0, 27, 33, 35]).map
      (fun x => (hypLedgerReadsFollowR233 x.1 x.2.1 (BitVec.ofNat 22 x.2.2.1) x.2.2.2.1 x.2.2.2.2))
    ++ (sel [D7.lg.setF LGR_RDSTAT LGR_RDSTAT.BUSY 1, D7.lg.setF SLU_STAT SLU_STAT.HOLDER 2] [0, 1]).map
      (fun s => (hypLedgerReadsFollowR233 s true 0 .ok .ok))) = true := by decide +kernel

theorem test_hypotheses_CisternBanksFollowR239ToR243 : covers 21 (
    (sel ([0,8,9,14,15].flatMap fun b => (D8.cis b
    ++ D8.more b).flatMap fun s => [(0,0,0,0),(0x1FFF,1,8,12),(3,2,64,3),(0x1FFF,0,0x7FFFFF,8),(1,3,0,1)].map fun q => (s,(b:Nat),(q:Nat×Nat×Nat×Nat))) [10, 20, 40, 50, 75, 80]).map
      (fun x => (hypCisternBanksFollowR239ToR243 x.1 (Fin.ofNat 16 x.2.1) (BitVec.ofNat 13 x.2.2.1) (BitVec.ofNat 2 x.2.2.2.1) (BitVec.ofNat 23 x.2.2.2.2.1) (Fin.ofNat 13 x.2.2.2.2.2) 2 0xFFF))
    ++ (sel ([D21.wb 2, {D21.wb 2 with poison := [(0x10000000000 + 2 * 0x800000)/64]},
    {D21.wb 2 with poison := (List.range 1).map fun _ => (0x10000000000 + 2 * 0x800000)/8},
    (D21.wb 2).setF (CLK_ISTAT 8) CLK_ISTAT.STATE 3, {(D21.wb 2) with cisErrs := [(2048,7)]}]) [0, 2]).map
      (fun s => (hypCisternBanksFollowR239ToR243 s 2 0x1FF 2 0 3 1 0xFFF))
    ++ (sel ([D21.wb 8, (D21.wb 8).setF (CLK_ISTAT 8) CLK_ISTAT.STATE 3,
    {D21.wb 8 with slots := [(0,⟨1, (List.range 16), 5, 0, 3, 16, 7, 1⟩)]}]) [1]).map
      (fun s => (hypCisternBanksFollowR239ToR243 s 8 0x1FF 2 0 3 1 0xFFF))) = true := by decide +kernel

theorem test_hypotheses_IntervalsCloseCompareAndConfirm : covers 7 (
    (sel (D9.tws.flatMap fun s => [0,1,2].map fun i => (s,(i:Nat))) [0, 12, 15, 21, 34]).map
      (fun x => (hypIntervalsCloseCompareAndConfirm x.1 3 (Fin.ofNat 3 x.2) 5))) = true := by decide +kernel

theorem test_hypotheses_CheckersAndMembersAreReplaced : covers 6 (
    (sel ((D9.bs ++ D9.cks
    ++ D9.tws).flatMap fun s => [(0,5,0,some 7),(1,5,10,none),(2,4,9,none)].map fun i => (s,(i:Nat×Nat×Nat×Option Word))) [0]).map
      (fun x => (hypCheckersAndMembersAreReplaced x.1 3 (Fin.ofNat 3 x.2.1) (Fin.ofNat 40 x.2.2.1) (Fin.ofNat 80 x.2.2.2.1) x.2.2.2.2))
    ++ (sel [D21.jn 2, D21.jn 3,
    (D21.mg (D21.jn 3) fun g => {g with members := [(0,Member.reset)]}).setFs (TWN_GCFG 3) [(TWN_GCFG.M1,0x7F)],
    D21.mg (D21.jn 2) (fun g => {g with cmd := some .stop})] [0, 1]).map
      (fun s => (hypCheckersAndMembersAreReplaced s 3 0 4 9 none))) = true := by decide +kernel

theorem test_hypotheses_TwinCommandsFollowR166 : covers 10 (
    (sel D9.tcs [0, 2, 3, 4, 5, 8]).map
      (fun x => (hypTwinCommandsFollowR166 x))
    ++ (sel ([5,6].flatMap fun st => [D21.cmdx (wTwin.setF (TWN_GSTAT 3) TWN_GSTAT.STATE st) 3 0 0 0,
    D21.cmdx ((D21.mg (wTwin.setF (TWN_GSTAT 3) TWN_GSTAT.STATE st) (fun g => {g with members := [(0,Member.reset)]})).setFs (TWN_GCFG 3) [(TWN_GCFG.M1,0x7F)]) 3 0 0 0,
   D21.cmdx (D21.mc (D21.mg (wTwin.setF (TWN_GSTAT 3) TWN_GSTAT.STATE st) (fun g => {g with joining := [9]})) 0 (fun k => {k with inflight := [D21.op1], sb := [⟨1,0x99,8,3,false⟩]})) 3 0 0 0]) [0]).map
      (fun x => (hypTwinCommandsFollowR166 x))) = true := by decide +kernel

theorem test_hypotheses_LinksFollowTheStateMachineOfR248 : covers 29 (
    (sel (D10.lst) [0, 1, 2, 3, 4, 6]).map
      (fun x => (hypLinksFollowTheStateMachineOfR248 x 20))
    ++ (sel (D10.lst.map (fun s => wUp s 5)
    ++ [0,1,2,3,4,6,7].map (fun n => ((wUp {wRun with rateDue := true} 5).setF (LNK_STAT 5) LNK_STAT.STATE n))) [0]).map
      (fun x => (hypLinksFollowTheStateMachineOfR248 x 5))
    ++ (sel D20.lst [0, 1, 3]).map
      (fun x => (hypLinksFollowTheStateMachineOfR248 x 20))
    ++ (sel [D23.stt 3, D23.stt 4, (D23.stt 4).setFs (LNK_SPCFG 2) [(LNK_SPCFG.SERVES,255)]] [0, 1, 2]).map
      (fun x => (hypLinksFollowTheStateMachineOfR248 x 20))) = true := by decide +kernel

theorem test_hypotheses_PlannedSubstitutionFollowsR253 : covers 9 (
    (sel D10.pss [1, 3]).map
      (fun x => (hypPlannedSubstitutionFollowsR253 x 20))
    ++ (sel D20.pss [0, 1, 3]).map
      (fun x => (hypPlannedSubstitutionFollowsR253 x 20))) = true := by decide +kernel

theorem test_hypotheses_ReceivedFramesFollowR257ToR262 : covers 21 (
    (sel (D10.rxs.flatMap fun s => D10.fms.flatMap fun f => [true,false].flatMap fun r => [false,true].map fun bad => (s,f,r,bad)) [0, 3, 12, 36, 49, 128, 144]).map
      (fun x => (hypReceivedFramesFollowR257ToR262 x.1 20 (if x.2.2.2 then x.2.1.bytes.set 9 77 else x.2.1.bytes) x.2.1 x.2.2.1 false))
    ++ (sel (D20.rxs.flatMap fun s => D20.fms.flatMap fun f => [true,false].flatMap fun r => (D20.vari s f).map fun p => (s,f,r,p)) [0, 2, 66, 204, 360, 414, 486, 630, 696, 792]).map
      (fun x => (hypReceivedFramesFollowR257ToR262 x.1 20 x.2.2.2 x.2.1 x.2.2.1 false))) = true := by decide +kernel

theorem test_hypotheses_LinkTransmissionFollowsR256ToR267 : covers 13 (
    (sel (D10.txs.flatMap fun s => D10.ms.map fun m => (s,m)) [0, 8, 12, 18, 29, 30]).map
      (fun x => (hypLinkTransmissionFollowsR256ToR267 x.1 20 x.2))) = true := by decide +kernel

theorem test_hypotheses_SessionCommandsFollowR274 : covers 26 (
    (sel D11.sst [0, 1, 2, 5, 10, 11, 13]).map
      (fun x => (hypSessionCommandsFollowR274 x))
    ++ (sel [{wRun with sesInit := true}] [0]).map
      (fun x => (hypSessionCommandsFollowR274 x))
    ++ (sel D22.sst [0, 1, 4]).map
      (fun x => (hypSessionCommandsFollowR274 x))
    ++ (sel [D23.cmdS (D23.ful (wDesc 3 6 22 21 0x1FF 0x1FF 0x140000 6 0x240000 6 22 0x300000 4 0 0 0) wSes) 10 0x400000,
    D23.cmdS (D23.ful (wDesc 3 5 20 22 0x1FF 0x1FF 0x100000 6 0x200000 6 20 0x300000 4 0 0 0) wSes) 9 0x400000] [0, 1]).map
      (fun x => (hypSessionCommandsFollowR274 x))) = true := by decide +kernel

theorem test_hypotheses_PeerMessagesFollowR285 : covers 25 (
    (sel (D11.pms.flatMap fun s => [0,1].map fun i => (s,(i:Nat))) [0, 2, 6, 8, 10, 16, 18, 30, 34]).map
      (fun x => (hypPeerMessagesFollowR285 x.1 20 ((x.1.inbox.map Prod.snd).headD []) [(21,[5])] x.2))
    ++ (sel (D22.pms.flatMap fun s => [0,1].map fun i => (s,(i:Nat))) [0, 2, 4, 8, 10, 12, 14, 20, 22, 24, 26, 28, 30, 32, 34, 36]).map
      (fun x => (hypPeerMessagesFollowR285 x.1 ((x.1.inbox.map Prod.fst).headD 0) ((x.1.inbox.map Prod.snd).headD []) [(21,[5])] x.2))) = true := by decide +kernel

theorem test_hypotheses_SessionTimersAndPathsFollowR298 : covers 13 (
    (sel (D11.tms.flatMap fun s => [0,1].map fun i => (s,(i:Nat))) [0, 4, 10]).map
      (fun x => (hypSessionTimersAndPathsFollowR298 x.1 9 (Fin.ofNat 4 x.2) [20,5] [22]))
    ++ (sel [{(D11.ss wSesRun (fun k => {k with active := 1})).setF SES_CFG SES_CFG.REVERT 1 with turnChange := 1}] [0]).map
      (fun x => (hypSessionTimersAndPathsFollowR298 x 9 0 [20,5] [22]))
    ++ (sel (D22.tms.flatMap fun s => [0,1].map fun i => (s,(i:Nat))) [0, 10, 14]).map
      (fun x => (hypSessionTimersAndPathsFollowR298 x.1 9 (Fin.ofNat 4 x.2) [20,5] [22]))) = true := by decide +kernel

theorem test_hypotheses_DoorbellsReachTheTailrace : covers 24 (
    (sel (D12.dbs.flatMap fun s => [(0,5),(0,5)].map fun i => (s,(i:Nat×Nat))) [2, 4, 16, 18, 22, 24, 32, 36, 38, 42]).map
      (fun x => (hypDoorbellsReachTheTailrace x.1 9 (BitVec.ofNat 22 x.2.1) x.2.2 ((x.1.basinQueue ++ x.1.stageQueue).tail)))
    ++ (sel (D22.dbs.map fun s => (s,(0,5))) [0, 2, 3, 5, 8]).map
      (fun x => (hypDoorbellsReachTheTailrace x.1 9 (BitVec.ofNat 22 x.2.1) x.2.2 ((x.1.basinQueue ++ x.1.stageQueue).tail)))) = true := by decide +kernel

theorem test_hypotheses_SluiceMastersFollowR307ToR318 : covers 29 (
    (sel (D12slu.sls.flatMap fun s => [true,false].flatMap fun b => [(624,624,624,624,5),(625,624,0,0,6),(625,625,0,0,7),(0,625,0,0,0),(0,0,625,625,6)].map fun i => (s,b,(i:Nat×Nat×Nat×Nat×Nat))) [26, 36, 50, 70, 106, 115, 147, 171]).map
      (fun x => (hypSluiceMastersFollowR307ToR318 x.1 x.2.1 3 (BitVec.ofNat 16 x.2.2.1) (BitVec.ofNat 16 x.2.2.2.1) (BitVec.ofNat 16 x.2.2.2.2.1) (BitVec.ofNat 16 x.2.2.2.2.2.1) (Word.ofNat x.2.2.2.2.2.2)))
    ++ (sel D19.slus [0]).map
      (fun x => (hypSluiceMastersFollowR307ToR318 x true 0 0 0 0 0 0))) = true := by decide +kernel

theorem test_hypotheses_AllotmentsFollowR322ToR331 : covers 30 (
    (sel [{(D12.ac D12.ad 3 0x400000 0).setF HWK_SSTAT HWK_SSTAT.PHASE 0 with startStage := .begun}] [0]).map
      (fun s => (hypAllotmentsFollowR322ToR331 s 3 0x500000 5 .read 0 0))
    ++ (sel (D12alt.als.flatMap fun s => [0x500000,0x500000000,0xFFFF00000000].flatMap fun v => [AccKind.read,.write].map fun i => (s,(v:Nat),i)) [0, 18, 42, 72, 108, 132, 144, 162, 175]).map
      (fun x => (hypAllotmentsFollowR322ToR331 x.1 3 (Word.ofNat x.2.1) 5 x.2.2 0 0))
    ++ (sel D19.alts [0]).map
      (fun x => (hypAllotmentsFollowR322ToR331 x 3 0x50000 5 .read 100 0))
    ++ (sel [D19.io (7*65536+0xF)] [0]).map
      (fun x => (hypAllotmentsFollowR322ToR331 x 3 0x50000 5 .write 100 0))
    ++ (sel (D23.ios.flatMap fun s => [AccKind.read,.write].map fun k => (s,k)) [0, 3, 6, 10, 12]).map
      (fun x => (hypAllotmentsFollowR322ToR331 x.1 3 0x50000 5 x.2 0 0))) = true := by decide +kernel

theorem test_hypotheses_KeyCommandsFollowR346ToR349 : covers 17 (
    (sel (D13.kst.flatMap fun s => [Ecc.ok,.corrected,.uncorrectable].map fun e => (s,e)) [0, 8, 9, 12, 18, 21, 24]).map
      (fun x => (hypKeyCommandsFollowR346ToR349 x.1 x.2))
    ++ (sel [{(D13.kc (D13.kd D13.w0 D13.wrapped) 8 0x400000).setF HWK_SSTAT HWK_SSTAT.PHASE 0 with startStage := .begun},
    {D13.kc (D13.kd D13.w0 D13.wrapped) 8 0x400000 with culvertsBroken := List.range 1024}] [0, 1]).map
      (fun s => (hypKeyCommandsFollowR346ToR349 s .ok))
    ++ (sel [(D23.kd 5).setF (CIS_BSTAT 8) CIS_BSTAT.STATE 2 |>.setF (CIS_BSTAT 9) CIS_BSTAT.STATE 2, D23.kd (5 + 2^21),
    D23.kd (5 + 2^51), D23.kd (5+3*2^19), D23.kd (5+17*2^44)] [0, 1]).map
      (fun x => (hypKeyCommandsFollowR346ToR349 x .ok))) = true := by decide +kernel

theorem test_hypotheses_FlumeDescriptorsFollowR351ToR357 : covers 23 (
    (sel ((D13.fls.flatMap fun s => D13.dss.flatMap fun d => [0,10].map fun o => (s,d,(o:Nat))).flatMap (fun y => ([([],⟨.ok,none⟩),([(3,0x55),(700,1)],⟨.ok,none⟩),([],⟨.uncorrectable,none⟩),([],⟨.corrected,none⟩),([],⟨.ok,some 2⟩)] : List (List (BitVec 16 × Byte) × KeyRead)).map fun z => (y,z))) [70, 110, 140, 250, 320, 410, 510]).map
      (fun ⟨x,z⟩ => (hypFlumeDescriptorsFollowR351ToR357 x.1 20 (Word.ofNat x.2.1.1) (Word.ofNat x.2.1.2.1) (Word.ofNat x.2.1.2.2.1) (Word.ofNat x.2.1.2.2.2) (Fin.ofNat 11 x.2.2) 0 z.1 z.2 ((x.1.basins.map Prod.snd).headD ⟨0,[],.filling⟩)))
    ++ (sel [((D13.ba (.releasing 20) (List.replicate 20 7) D13.fk).setF (CIS_BSTAT 14) CIS_BSTAT.STATE 2, 0)] [0]).map
      (fun x => (hypFlumeDescriptorsFollowR351ToR357 x.1 20 0 0 0 0 0 0 [] ⟨.ok,none⟩ ((x.1.basins.map Prod.snd).headD ⟨0,[],.filling⟩)))) = true := by decide +kernel

theorem test_hypotheses_CompressionJobsFollowR360ToR377 : covers 16 (
    (sel (([{wR with state := 3, squeeze := true}, {wR with state := 2, squeeze := true},
    {wR with state := 3, squeeze := true, isSealed := true}].flatMap fun r => [(20,0),(21,0),(20,0x31)].map fun x => D13.inf r {Xfer.none with nextOff := x.1, tend := some (0,0,0,20,0), bad := x.2, data := List.replicate 20 7}) ++ [{D13.cw with cmpCore := [.core 3], cmpCoreNext := true, jobs := [(3,{D13.jb with limit := some 7})], culvertsBroken := List.range 1024}]) [0, 9]).map
      (fun s => (hypCompressionJobsFollowR360ToR377 s 7 (s.freeEngine.getD 0) 3 0 (if s.cmpCoreNext then s.cmpCore.headD (.core 3) else s.cmpSession.headD (.core 3)) (if s.cmpCoreNext then s.cmpCore.tail else s.cmpSession.tail) ((s.jobs.find 3).getD D13.jb)))
    ++ (sel D13.cjs [1, 3, 4, 5, 6]).map
      (fun s => (hypCompressionJobsFollowR360ToR377 s 7 (s.freeEngine.getD 0) 3 0 (if s.cmpCoreNext then s.cmpCore.headD (.core 3) else s.cmpSession.headD (.core 3)) (if s.cmpCoreNext then s.cmpCore.tail else s.cmpSession.tail) ((s.jobs.find 3).getD D13.jb)))
    ++ (sel [D23.inf 0 (0,0,0,3,0), D23.inf 0x30 (0,0,0,3,0), D23.inf 0 (0,0,0,4,0), D23.inf 0 (1,5,0,3,0)] [0]).map
      (fun s => (hypCompressionJobsFollowR360ToR377 s 7 0 3 0 (.core 3) [] ⟨[],3,0,.queued,none,[],0,0,0,0,0,[]⟩))) = true := by decide +kernel

theorem test_hypotheses_ClockIslandsFollowR380ToR386 : covers 24 (
    (sel (D14.cst.flatMap fun s => [(1,1),(9,1),(14,1),(17,16)].map fun g => (s,(g:Nat×Nat))) [4, 12, 24, 30, 32, 40, 48, 53, 56,
    60, 64, 76, 80]).map
      (fun x => match x.1.clkChange.find x.2.2 with
  | some c => (hypClockIslandsFollowR380ToR386 x.1 (Fin.ofNat 18 x.2.1) (Fin.ofNat 17 x.2.2) 17 c x.1.clkWait.tail) | none => (hypClockIslandsFollowR380ToR386 x.1 (Fin.ofNat 18 x.2.1) (Fin.ofNat 17 x.2.2) 3 (D14.ch .ramp 0 0 3) x.1.clkWait.tail))
    ++ (sel ([2,3].flatMap fun o => [0,1].map fun l => ({D23.isl D23.lockAll 1 o 2 l with clkChange := [(1,⟨.waking,0,o,3,2,0,0,false,0⟩)]},(o:Nat))) [1]).map
      (fun x => (hypClockIslandsFollowR380ToR386 x.1 1 1 17 ⟨.waking,0,x.2,3,2,0,0,false,0⟩ []))
    ++ (sel [(D23.slp 1 (islandFreq 1),1), (D23.slp 10 (islandFreq 10),10), (D23.slp 11 (islandFreq 11),11), (D23.slp 1 3,1),
    (D23.slp 13 (islandFreq 13),13),
    ((List.range 8).foldl (fun s n => s.setF (TWN_CSTATE n) TWN_CSTATE.ROLE 1) (D23.slp 0 (islandFreq 0)),0)] [0, 1]).map
      (fun x => (hypClockIslandsFollowR380ToR386 x.1 (Fin.ofNat 18 x.2) 1 17 ⟨.ramp,0,0,3,2,0,0,false,0⟩ []))) = true := by decide +kernel

theorem test_hypotheses_ReferenceCulvertsAndPowerFollowR380ToR396 : covers 20 (
    (sel (D14.rst.flatMap fun s => [0,899,900,950,951,1000,1001,4095].flatMap fun p => [0,1,4].flatMap fun e => [0,1,2,7].map fun k => (s,(p:Nat),(e:Nat),(k:Nat))) [4, 183, 672, 912, 962]).map
      (fun x => (hypReferenceCulvertsAndPowerFollowR380ToR396 x.1 2 3 2 (Fin.ofNat 5 x.2.2.1) (BitVec.ofNat 12 x.2.1) x.2.2.2))
    ++ (sel [(List.range 8).foldl (fun s n => D23.isl s n 0 7 1) ((D23.lockAll.setF LEV_PCEIL LEV_PCEIL.CEIL_W 1000).setF LEV_PLIMIT LEV_PLIMIT.LIMIT_W 1000)] [0]).map
      (fun x => (hypReferenceCulvertsAndPowerFollowR380ToR396 x 2 3 2 0 1001 0))) = true := by decide +kernel

theorem test_hypotheses_StartsBeginAsR399AndR465Give : covers 26 (
    (sel (D15.psts.flatMap fun s => D15.oo.flatMap fun o => [(3,true,3,1,20),(7,false,0,0,20),(1,true,15,16,21)].map fun k => (s,o,(k:Nat×Bool×Nat×Nat×Nat))) [0, 27, 189, 243, 432, 567, 702]).map
      (fun x => (hypStartsBeginAsR399AndR465Give x.1 true x.2.1 (BitVec.ofNat 4 x.2.2.1) (BitVec.ofNat 4 x.2.2.2.2.1) (Fin.ofNat 288 x.2.2.2.2.2.2) 3 (Fin.ofNat 17 ((x.1.nextTrain 3).getD x.2.2.2.2.2.1)) x.2.2.2.1 99))
    ++ (sel ((D15.bsts ++ D15.bsts.map D15.wm).flatMap fun s => [true,false].map fun b => (s,b)) [8, 10, 12, 24, 62]).map
      (fun x => (hypStartsBeginAsR399AndR465Give x.1 x.2 ⟨true,[],[],[],[],none,77⟩ 3 5 20 3 16 true 99))) = true := by decide +kernel

theorem test_hypotheses_StartsProceedAsR401ToR417Give : covers 35 (
    (sel (D15.psts.flatMap fun s => D15.oo.flatMap fun o => [(3,true,3,1,20),(7,false,0,0,20),(1,true,15,16,21)].map fun k => (s,o,(k:Nat×Bool×Nat×Nat×Nat))) [0, 3, 54, 81, 189, 243, 459, 486, 567, 648]).map
      (fun x => (hypStartsProceedAsR401ToR417Give x.1 x.2.1 (BitVec.ofNat 4 x.2.2.1) (BitVec.ofNat 4 x.2.2.2.2.1) (Fin.ofNat 288 x.2.2.2.2.2.2) 3 (Fin.ofNat 17 ((x.1.nextTrain 3).getD x.2.2.2.2.2.1)) x.2.2.2.1 99 (D15.tag x.1) (x.1.fld (LNK_PSTAT x.2.2.2.2.2.2) LNK_PSTAT.CARRIES) (({ x.1 with loopFail := insertNat x.1.loopFail x.2.2.2.2.2.2 }.freeSpare (x.1.fld (LNK_PSTAT x.2.2.2.2.2.2) LNK_PSTAT.CARRIES)).getD 2)))
    ++ (sel D23.psts [0, 1, 4, 5, 6, 8, 11]).map
      (fun x => (hypStartsProceedAsR401ToR417Give x.1 x.2.1 (BitVec.ofNat 4 x.2.2) 5 20 3 4 true 99 1 20 2))) = true := by decide +kernel

theorem test_hypotheses_ChainFramesFollowR419ToR434 : covers 24 (
    (sel (D16.hsts.flatMap fun s => D16.frs.flatMap fun f => [(3,100,5),(0,40,3)].map fun k => (s,f,(k:Nat×Nat×Nat))) [18, 20, 26,
    68, 156, 220, 246, 270, 350, 404]).map
      (fun x => (hypChainFramesFollowR419ToR434 x.1 x.2.1 (BitVec.ofNat 32 x.2.2.1) (BitVec.ofNat 32 x.2.2.2.1) (BitVec.ofNat 8 x.2.2.2.2)))
    ++ (sel ([wRun, wRun.setF HRC_STAT HRC_STAT.HOLDOVER 1].flatMap fun s => [0,7,8,40,41].map fun n => (s,(n:Nat))) [0, 7]).map
      (fun x => (hypChainFramesFollowR419ToR434 x.1 (D23.fm 0x81 3 (List.replicate x.2 5)) 3 4 5))) = true := by decide +kernel

theorem test_hypotheses_ManagementCommandsFollowR433 : covers 20 (
    (sel (D16.mss.flatMap fun s => D16.cms.flatMap fun f => [(0,2),(8,2),(255,1)].map fun k => (s,f,(k:Nat×Nat))) [0, 3, 6, 12, 18,
    24, 30, 33, 102, 201, 249]).map
      (fun x => (hypManagementCommandsFollowR433 x.1 x.2.1 (BitVec.ofNat 8 x.2.2.1) x.2.2.2 0))
    ++ (sel D19.mgs [0]).map
      (fun x => (hypManagementCommandsFollowR433 ({wRun with fallow := true, bypass := false}.setF HRC_ENUM HRC_ENUM.ADDR 5) x.1 9 0 x.2))
    ++ (sel (D23.mss.flatMap fun s => D23.cms.flatMap fun f => [3,4,5,6,7].map fun k => (s,f,(k:Nat))) [0, 5, 15, 20, 95]).map
      (fun x => (hypManagementCommandsFollowR433 x.1 x.2.1 9 x.2.2 0))) = true := by decide +kernel

theorem test_hypotheses_RotationsFaultsAndSparesFollowR436ToR452 : covers 22 (
    (sel (D17.rts.flatMap fun s => D17.vss.map fun v => (s,v)) [0, 19, 63, 77, 91, 105, 119]).map
      (fun x => match x.1.csr with
   | [(_,a),(_,b)] => (hypRotationsFaultsAndSparesFollowR436ToR452 x.1 b 0x1234 a (BitVec.ofNat 8 x.2.2.1) 77 3 5 5 (BitVec.ofNat 17 x.2.2.2) 3 ((x.1.clusterSpare 5).getD 9)) | _ => (hypRotationsFaultsAndSparesFollowR436ToR452 x.1 (Word.ofNat x.2.1) 0x1234 7 (BitVec.ofNat 8 x.2.2.1) 77 3 5 5 (BitVec.ofNat 17 x.2.2.2) 3 ((x.1.clusterSpare 5).getD 9)))) = true := by decide +kernel

theorem test_hypotheses_PinsLifeCycleAndTapFollowR467ToR472 : covers 35 (
    (sel (D17.pns.flatMap fun s => [(105,45,9),(100,43,1),(104,44,3),(3,46,5)].map fun v => (s,(v:Nat×Nat×Nat))) [4, 12, 16, 72,
    96, 128, 136, 140, 144, 288]).map
      (fun x => (hypPinsLifeCycleAndTapFollowR467ToR472 x.1 (BitVec.ofNat 8 x.2.1) (BitVec.ofNat 8 x.2.2.1) (BitVec.ofNat 8 x.2.2.2) 77 5))
    ++ (sel [wRun.setF LCS_STAT LCS_STAT.BUSY 1, wRun.setF LCS_FSTAT LCS_FSTAT.BUSY 1] [0, 1]).map
      (fun x => (hypPinsLifeCycleAndTapFollowR467ToR472 x 100 43 1 77 5))) = true := by decide +kernel

theorem test_hypotheses_CsrWritesFollowR2ToR8 : covers 9 (
    (sel (D17.wss.flatMap fun s => [FLT_CFG,SES_CNT,CLK_ISTAT 3,CLK_ISTAT 17,CIP_CFG,CMP_STAGE,4,0xFFFFF8,0x1FFFFFF8].flatMap fun a => [0,0xFFFFFFFFFFFFFFFF,0x600,1].flatMap fun v => [8,4,16].map fun w => (s,(a:Nat),(v:Nat),(w:Nat))) [0, 1, 12, 24, 84]).map
      (fun x => (hypCsrWritesFollowR2ToR8 x.1 .hrc (BitVec.ofNat 32 x.2.1) (BitVec.ofNat 5 x.2.2.2) (Word.ofNat x.2.2.1) (if x.2.1 = CLK_ISTAT 3 then 3 else 17)))
    ++ (sel (D17.wss.flatMap fun s => [FLT_CFG,SES_CNT,CLK_ISTAT 3,CIP_CFG,CMP_STAGE].flatMap fun a => [0,0xFFFFFFFFFFFFFFFF,0x600,1].flatMap fun v => [8,4,16].map fun w => (s,(a:Nat),(v:Nat),(w:Nat))) [36, 60, 348, 492]).map
      (fun x => (hypCsrWritesFollowR2ToR8 x.1 (.core 7) (BitVec.ofNat 32 x.2.1) (BitVec.ofNat 5 x.2.2.2) (Word.ofNat x.2.2.1) 3))) = true := by decide +kernel

theorem test_hypotheses_EveryCommandCompletesAndLeavesTheQueue : covers 2 (
    (sel D19.cmds [0]).map
      (fun x => (hypEveryCommandCompletesAndLeavesTheQueue State.reset x))) = true := by decide +kernel

theorem test_hypotheses_EveryStepKeepsMemoryCanonical : State.reset.Inv ∧ step State.reset = .next State.reset.tick :=
  ⟨by show Memory.wf State.reset.mem = true; rfl, by rfl⟩

end Sys2Proof.Tests
end

section
/-!
PROOFS. Control flow (R45-R49, R76, R77): what a branch of a group's trailing member comes to where the model takes the member
to stand at the place at which its leading member waits with a poisoned value (R161), and a twin in which the model takes it so
although the two places lie in different intervals.
-/

namespace Sys2Proof.Machine
open Sys2Proof Csr

/-! A bundle of one move to pc -/

/-- The move of a branch: a value to pc, from slot 0 under guard "always" (R45). -/
def pcMove (v : Word) (imm : Bool) : SlotMove := ⟨0, 0, 0x88, 0, .value v imm, false⟩

@[simp] theorem pcMove_dst (v : Word) (imm : Bool) : (pcMove v imm).dst = 0x88 := rfl
@[simp] theorem pcMove_src (v : Word) (imm : Bool) : (pcMove v imm).src = .value v imm := rfl

@[simp] theorem State.portCause_pc (s : State) (c : Nat) : s.portCause c 0x88 = none := by
  simp [State.portCause, isLateral, portInfo, specialInfo]

@[simp] theorem State.trapping_pcMove (s : State) (c : Nat) (v : Word) (imm : Bool) : s.trapping c [pcMove v imm] = [] := by
  simp only [State.trapping, List.filterMap_eq_nil_iff]
  intro m hm
  obtain rfl : m = pcMove v imm := List.mem_singleton.mp (List.mem_of_mem_filter hm)
  simp [pcMove, State.srcCause]

@[simp] theorem Core.formOf_pcMove (k : Core) (hw : Bool) (v : Word) (imm : Bool) :
    k.formOf hw [pcMove v imm] [pcMove v imm] = none := by
  simp [pcMove, Core.formOf, Core.slotForm, dualSlot, portInfo, specialInfo]

@[simp] theorem State.runUnits_pcMove (s : State) (c : Nat) (v : Word) (imm : Bool) (x : KeyRead) :
    s.runUnits c [⟨pcMove v imm, v, true⟩] x = .go s := by
  simp [State.runUnits, unitOrder, pcMove, isTrigger, trigRanges]

@[simp] theorem State.writeAll_pcMove (s : State) (c : Nat) (v : Word) (imm : Bool) :
    s.writeAll c [⟨pcMove v imm, v, true⟩] false = s.modCore c (fun k => k) := by
  have hfixed (k : Core) : k.fixed 0x88 v = none := by simp [Core.fixed, isTrigger, trigRanges]
  simp [State.writeAll, pcMove, Core.startOne, hfixed, State.writeMove, List.filter]

/-- From its reads on, a move of an aligned address to pc leaves the core as it is and redirects to that address. -/
theorem State.runReads_pcMove (s : State) (c : Nat) (v : Word) (imm : Bool) (hv : v.toNat % 32 = 0) (ht : v ≠ trapReturnAddr) :
    s.runReads c [pcMove v imm] .good = .go (s.modCore c (fun k => k)) ⟨some (v, imm), false, none⟩ := by
  have hread : s.readAll c [pcMove v imm] = (s, [⟨pcMove v imm, v, true⟩]) := rfl
  have hport : s.portRead c (pcMove v imm) = none := rfl
  have hop (k : Core) : k.writeOperands [⟨pcMove v imm, v, true⟩] = k := by simp [Core.writeOperands, operandPorts]
  have hjump (pc : Word) : redirect pc ⟨pcMove v imm, v, true⟩ = some v := rfl
  have htarget : targetExc ⟨pcMove v imm, v, true⟩ v = none := by simp [targetExc, ht, hv]
  simp [State.runReads, hread, hport, hop, hjump, htarget, ht, Core.divTraps, isTrigger, trigRanges]

/-- The bundle of a branch to an aligned address takes effect on every core: no form, port or target of it is at fault. -/
theorem State.runMoves_pcMove (s : State) (c : Nat) (v : Word) (imm : Bool) (hv : v.toNat % 32 = 0) (ht : v ≠ trapReturnAddr) :
    s.runMoves c [pcMove v imm] .good = .go (s.modCore c (fun k => k)) ⟨some (v, imm), false, none⟩ := by
  have hguard : (s.core c).guard (pcMove v imm).guard = true := by simp [Core.guard, pcMove]
  simp [State.runMoves, hguard, s.runReads_pcMove c v imm hv ht]

/-! A member at the place where its leading member waits with a poisoned value -/

/-- A bundle that would take effect there rolls the group back instead, whether or not it may retire (R161). -/
theorem State.runBundle_of_poisonDiffers (s u : State) (c d : Nat) (ms : List SlotMove) (n : Next) (l : List Nat)
    (hclear : (s.atBundle c).boundaryClear c = true) (hstall : ((s.atBundle c).core c).stall = none)
    (hgo : (s.atBundle c).runMoves c ms .good = .go u n) (hd : u.poisonDiffers c = some (d, l)) :
    s.runBundle c ms = u.poisonRollback d l := by
  have h : s.runBundle c ms = if (s.atBundle c).boundaryClear c && ((s.atBundle c).core c).stall.isNone then
      ((s.atBundle c).runMoves c ms .good).apply c
        (fun u n => if (s.atBundle c).retires c then u.retire c n else s.atBundle c)
    else s.atBundle c := rfl
  rw [h, hclear, hstall, hgo]
  simp [Res.apply, hd]

theorem exec_branch_of_poisonDiffers (s : State) (c : CoreId) (v : Word) (imm : Bool) (d : Nat) (l : List Nat)
    (hv : v.toNat % 32 = 0) (ht : v ≠ trapReturnAddr) (hclear : (s.atBundle c.val).boundaryClear c.val = true)
    (hstall : ((s.atBundle c.val).core c.val).stall = none) (hd : (s.atBundle c.val).poisonDiffers c.val = some (d, l)) :
    exec (.branch c v imm) s = .next ((s.atBundle c.val).poisonRollback d l) := by
  have hgo : (s.atBundle c.val).runMoves c.val [pcMove v imm] .good = .go (s.atBundle c.val) ⟨some (v, imm), false, none⟩ := by
    rw [State.runMoves_pcMove _ _ v imm hv ht]
    simp [State.atBundle]
  have hexec : exec (.branch c v imm) s = .next (s.runBundle c.val [pcMove v imm]) := rfl
  rw [hexec, s.runBundle_of_poisonDiffers _ c.val d _ _ l hclear hstall hgo hd]

/-! The counterexample -/

/-- A twin in service: cores 0 and 10 are the members of the GUARDED group 3, core 0 leads. -/
def guardedTwin : State :=
  let s := { State.reset with startStage := .idle, bypass := false }.setF HWK_SSTAT HWK_SSTAT.PHASE 3
  let s := s.setFs (TWN_CSTATE 0) [(TWN_CSTATE.ROLE, roleMember), (TWN_CSTATE.GROUP, 3), (TWN_CSTATE.INDEX, 0)]
  let s := s.setFs (TWN_CSTATE 10) [(TWN_CSTATE.ROLE, roleMember), (TWN_CSTATE.GROUP, 3), (TWN_CSTATE.INDEX, 1)]
  let s := s.setFs (TWN_GCFG 3) [(TWN_GCFG.M0, 0), (TWN_GCFG.M1, 10), (TWN_GCFG.MODE, 1), (TWN_GCFG.CHECKER, 0)]
  s.setF (TWN_GSTAT 3) TWN_GSTAT.STATE gGuarded

/-- The twin runs an interval again from its checkpoint at 0x1000: the leading member has retired one bundle and waits with a value
that it read poisoned again (R161), the trailing one has still to run that bundle. -/
def leadAtPoison : State :=
  let k := Core.reset.setPort 0x88 0x1000
  ((guardedTwin.setCore 0 { k.setPort 0x88 0x1020 with stall := some (.poison [0x4000]) }).setCore 10 k).setGroup 3
    { Group.reset with
      members := [(0, { Member.reset with retired := 1 }), (1, Member.reset)], attempts := 1, shadow := some k.shadow }

/-- The leading member then closes that interval of one bundle at the boundary where it stands (INTERVAL_CLOSE, R147 item 2). Its
count starts again at 0, as the trailing member's does in the interval before. -/
def leadClosedAtPoison : State :=
  match exec (.intervalClose 3 0) leadAtPoison with
  | .next t => t
  | _ => leadAtPoison

/-- The trailing member is clear to run its bundle and may retire it, for the leading one has closed its interval after it. -/
theorem leadClosedAtPoison_mayRetire :
    (leadClosedAtPoison.atBundle 10).boundaryClear 10 = true ∧ ((leadClosedAtPoison.atBundle 10).core 10).stall = none
      ∧ (leadClosedAtPoison.atBundle 10).retires 10 = true := by decide +kernel

/-- Yet the model takes it to stand where the leading one waits, for it compares the two counts and not their intervals. -/
theorem leadClosedAtPoison_poisonDiffers :
    (leadClosedAtPoison.atBundle 10).poisonDiffers 10 = some (0, [0x4000]) := by decide +kernel

/-- The rollback takes the trailing member to the checkpoint, not to a branch's target. -/
theorem leadClosedAtPoison_rollback_pc :
    (((leadClosedAtPoison.atBundle 10).poisonRollback 0 [0x4000]).core 10).port 0x88 = 0x1000 := by decide +kernel

/-- Refutes O11: a trailing member whose bundle may retire is rolled back by its branch where its leading member has closed the
interval while it waits with a poisoned value. -/
theorem not_controlMovesRedirectTheCore : ¬ Obligations.ControlMovesRedirectTheCore := by
  unfold Obligations.ControlMovesRedirectTheCore
  intro h
  obtain ⟨hclear, hstall, hretires⟩ := leadClosedAtPoison_mayRetire
  obtain ⟨hbranch, -⟩ := h leadClosedAtPoison 10 0x2000 true hclear hstall hretires
  obtain ⟨t, ht, -, hpc, -⟩ := hbranch (by decide) (by decide)
  rw [exec_branch_of_poisonDiffers leadClosedAtPoison 10 0x2000 true 0 [0x4000] (by decide) (by decide) hclear hstall
    leadClosedAtPoison_poisonDiffers] at ht
  obtain rfl := Host.Outcome.next.inj ht
  exact absurd (leadClosedAtPoison_rollback_pc.symm.trans hpc) (by decide)

end Sys2Proof.Machine
end

section
/-!
PROOFS. The sh unit (R72, R482): what a trigger of sh starts, and what its results are bit by bit: fields that may reach past
bit 63, counts of zeros and ones, byte reversal.
-/

namespace Sys2Proof.Machine
open Sys2Proof

/-! What a trigger of sh starts -/

theorem isTrigger_sh : ∀ off < 0x14, 8 ≤ off → isTrigger (0x180 + off) = true := by decide

theorem unitOf_sh : ∀ off < 0x14, unitOf (0x180 + off) = 0x180 := by decide

/-- Main and headworks cores have every trigger of sh (R83). -/
theorem portInfo_sh : ∀ off < 0x14, 8 ≤ off → ∀ hw, (portInfo hw (0x180 + off)).isSome = true := by decide

theorem Core.fixed_sh (k : Core) (b : Word) (off : Nat) (hlo : 8 ≤ off) (hhi : off < 0x14) :
    k.fixed (0x180 + off) b = some (shFixed k off b) := by
  simp [Core.fixed, isTrigger_sh off hhi hlo, unitOf_sh off hhi]

theorem Core.divTraps_sh (k : Core) (b : Word) (off : Nat) (hhi : off < 0x14) : k.divTraps (0x180 + off) b = false := by
  simp [Core.divTraps, unitOf_sh off hhi]

/-- A trigger of sh on a core that may start it: its result goes to sh.res 1 cc later, without a flag or a trap. -/
theorem State.trigFixed_sh (s : State) (c : Nat) (b : Word) (off : Nat) (hr : s.ready c)
    (hlo : 8 ≤ off := by decide) (hhi : off < 0x14 := by decide) :
    s.trigFixed c (0x180 + off) b
      = s.withOp c 0x180 (0x180 + off) 1 (shFixed (s.settled c) off b).writes 0 none :=
  s.trigFixed_go c _ b _ hr (portInfo_sh off hhi hlo _) (Core.fixed_sh _ b off hlo hhi) (Core.divTraps_sh _ b off hhi)

section
variable (s : State) (c : CoreId) (b : Word) (hr : s.ready c.val)
include hr

theorem exec_shShift (op : ShOp) :
    exec (.shShift c op b) s
      = .next (s.withOp c.val 0x180 (shOpOff op) 1 [(0x182, shRes op ((s.settled c.val).port 0x180) b)] 0 none) := by
  cases op with
  | shl => exact congrArg _ (s.trigFixed_sh c.val b 0x08 hr)
  | shr => exact congrArg _ (s.trigFixed_sh c.val b 0x09 hr)
  | sar => exact congrArg _ (s.trigFixed_sh c.val b 0x0A hr)
  | rol => exact congrArg _ (s.trigFixed_sh c.val b 0x0B hr)
  | ror => exact congrArg _ (s.trigFixed_sh c.val b 0x0C hr)

theorem exec_shExtract (signed : Bool) :
    exec (.shExtract c signed b) s
      = .next (s.withOp c.val 0x180 (0x18D + b2n signed) 1 [(0x182, shExt signed ((s.settled c.val).port 0x181) b)] 0 none) := by
  cases signed with
  | false => exact congrArg _ (s.trigFixed_sh c.val b 0x0D hr)
  | true => exact congrArg _ (s.trigFixed_sh c.val b 0x0E hr)

theorem exec_shInsert :
    exec (.shInsert c b) s
      = .next (s.withOp c.val 0x180 0x18F 1
          [(0x182, shIns ((s.settled c.val).port 0x181) ((s.settled c.val).port 0x180) b)] 0 none) :=
  congrArg _ (s.trigFixed_sh c.val b 0x0F hr)

theorem exec_shCount (op : ShCount) :
    exec (.shCount c op b) s = .next (s.withOp c.val 0x180 (shCountOff op) 1 [(0x182, shCountRes op b)] 0 none) := by
  cases op with
  | clz => exact congrArg _ (s.trigFixed_sh c.val b 0x10 hr)
  | ctz => exact congrArg _ (s.trigFixed_sh c.val b 0x11 hr)
  | pop => exact congrArg _ (s.trigFixed_sh c.val b 0x12 hr)
  | bswap => exact congrArg _ (s.trigFixed_sh c.val b 0x13 hr)

end

/-! Fields of sh.f -/

theorem bits_testBit (x lo w i : Nat) : (bits x lo w).testBit i = (decide (i < w) && x.testBit (lo + i)) := by
  rw [bits, Nat.testBit_mod_two_pow, Nat.testBit_shiftRight]

theorem shLen_eq (f : Word) : shLen f = f.toNat / 256 % 64 + 1 := by
  rw [shLen, bits, Nat.shiftRight_eq_div_pow]; rfl

theorem shLen_le (f : Word) : shLen f ≤ 64 := by
  rw [shLen_eq]; omega

theorem shExt_false_getLsbD (f b : Word) (i : Nat) :
    (shExt false f b).getLsbD i = (decide (i < shLen f) && b.getLsbD (shPos f + i)) := by
  have hlen := shLen_le f
  have hbit : b.toNat.testBit (shPos f + i) = b.getLsbD (shPos f + i) := rfl
  have hi : (decide (i < 64) && decide (i < shLen f)) = decide (i < shLen f) := by
    rw [← Bool.decide_and, decide_eq_decide]; omega
  simp only [shExt, Bool.false_eq_true, if_false, BitVec.getLsbD_ofNat, bits_testBit, hbit, ← Bool.and_assoc, hi]

/-- Sign extension from w bits as the library has it. -/
theorem sextW_eq_signExtend (x : Word) (w : Nat) (hw : 0 < w) : sextW x w = (x.setWidth w).signExtend 64 := by
  have hpow : 2 ^ w = 2 * 2 ^ (w - 1) := by rw [← pow_succ', Nat.sub_add_cancel hw]
  have hhalf : 2 * (x.toNat % 2 ^ w) < 2 ^ w ↔ x.toNat % 2 ^ w < 2 ^ (w - 1) := by omega
  simp only [sextW, BitVec.signExtend, BitVec.toInt_eq_toNat_cond, BitVec.toNat_setWidth, hhalf]
  push_cast
  rfl

theorem sextW_getLsbD (x : Word) (w i : Nat) (hw : 0 < w) (hi : i < 64) :
    (sextW x w).getLsbD i = if i < w then x.getLsbD i else x.getLsbD (w - 1) := by
  have hmsb : (x.setWidth w).msb = x.getLsbD (w - 1) := by simp [BitVec.msb_setWidth, hw]
  rw [sextW_eq_signExtend x w hw, BitVec.getLsbD_signExtend, decide_eq_true hi, Bool.true_and]
  split
  · next hlt => simp [hlt]
  · exact hmsb

/-- The sign bit of a field that reaches past bit 63 is one of the zeros read there (R482). -/
theorem shExt_true_getLsbD (f b : Word) (i : Nat) (hi : i < 64) :
    (shExt true f b).getLsbD i
      = if i < shLen f then b.getLsbD (shPos f + i) else b.getLsbD (shPos f + shLen f - 1) := by
  have hpos : 0 < shLen f := Nat.succ_pos _
  have hsext : shExt true f b = sextW (shExt false f b) (shLen f) := rfl
  have htop : shPos f + (shLen f - 1) = shPos f + shLen f - 1 := by omega
  rw [hsext, sextW_getLsbD _ _ i hpos hi]
  split
  · next hlt => simp [shExt_false_getLsbD, hlt]
  · simp [shExt_false_getLsbD, htop, hpos]

/-- Inserting is setting a field: what the mask drops is nothing of the field's bits below bit 64. -/
theorem shIns_eq_set (f a b : Word) : shIns f a b = (Fld.mk (shPos f) (shLen f)).set a b.toNat := by
  have hmask : shIns f a b = (a &&& ~~~ (Fld.mk (shPos f) (shLen f)).mask)
      ||| (Word.ofNat ((b.toNat % 2 ^ shLen f) <<< shPos f) &&& (Fld.mk (shPos f) (shLen f)).mask) := rfl
  rw [hmask, Fld.set]
  congr 1
  apply BitVec.eq_of_getLsbD_eq
  intro i hi
  rw [BitVec.getLsbD_and, Fld.mask_getLsbD, BitVec.getLsbD_ofNat, Nat.testBit_shiftLeft, Nat.testBit_mod_two_pow]
  by_cases hlo : shPos f ≤ i
  · have hhi : i - shPos f < shLen f ↔ i < shPos f + shLen f := by omega
    simp [hi, hlo, hhi, Bool.and_right_comm]
  · simp [hlo]

theorem shIns_getLsbD (f a b : Word) (i : Nat) (hi : i < 64) :
    (shIns f a b).getLsbD i
      = if shPos f ≤ i ∧ i < shPos f + shLen f then b.getLsbD (i - shPos f) else a.getLsbD i := by
  rw [shIns_eq_set, Fld.set_getLsbD, decide_eq_true hi, Bool.true_and]
  rfl

/-! Counts -/

/-- A number reaches above bit m exactly where its bit length does. -/
theorem lt_bitLen_iff (n x m : Nat) (hx : x < 2 ^ n) : m < bitLen n x ↔ 2 ^ m ≤ x := by
  induction n generalizing x m with
  | zero =>
    obtain rfl : x = 0 := by omega
    simp [bitLen]
  | succ n ih =>
    rw [bitLen]
    split
    · next h => simp [h]
    · next h =>
      cases m with
      | zero => simp; omega
      | succ m =>
        have hhalf : m < bitLen n (x / 2) ↔ 2 ^ m ≤ x / 2 := ih _ _ (by omega)
        rw [pow_succ, ← Nat.le_div_iff_mul_le (by decide), ← hhalf]
        omega

theorem bitLen_le (n x : Nat) : bitLen n x ≤ n := by
  induction n generalizing x with
  | zero => simp [bitLen]
  | succ n ih =>
    have := ih (x / 2)
    rw [bitLen]
    split <;> omega

theorem shCountRes_clz_toNat (b : Word) : (shCountRes .clz b).toNat = 64 - bitLen 64 b.toNat := by
  simp only [shCountRes, BitVec.toNat_ofNat]
  omega

/-- clz counts the zeros above the highest bit set: b lies below 2^(64 - clz), and not below half of that (R72). -/
theorem shCountRes_clz_spec (b : Word) :
    (shCountRes .clz b).toNat ≤ 64 ∧ b.toNat < 2 ^ (64 - (shCountRes .clz b).toNat)
      ∧ ((shCountRes .clz b).toNat < 64 → 2 ^ (63 - (shCountRes .clz b).toNat) ≤ b.toNat) := by
  have hlen := bitLen_le 64 b.toNat
  have hiff (m : Nat) := lt_bitLen_iff 64 b.toNat m b.isLt
  rw [shCountRes_clz_toNat]
  refine ⟨by omega, ?_, fun hlt => (hiff _).mp (by omega)⟩
  rw [← not_le, ← hiff]
  omega

theorem ctzN_le (n x : Nat) : ctzN n x ≤ n := by
  induction n generalizing x with
  | zero => simp [ctzN]
  | succ n ih =>
    have := ih (x / 2)
    rw [ctzN]
    split <;> omega

theorem testBit_of_lt_ctzN (n x i : Nat) (hi : i < ctzN n x) : x.testBit i = false := by
  induction n generalizing x i with
  | zero => simp [ctzN] at hi
  | succ n ih =>
    rw [ctzN] at hi
    split at hi
    · omega
    · next heven =>
      cases i with
      | zero => simp [Nat.testBit_zero, heven]
      | succ i => rw [Nat.testBit_succ]; exact ih _ _ (by omega)

theorem testBit_ctzN (n x : Nat) (h : ctzN n x < n) : x.testBit (ctzN n x) = true := by
  induction n generalizing x with
  | zero => omega
  | succ n ih =>
    rw [ctzN] at h ⊢
    split at h
    · next hodd => simp [hodd]
    · next heven =>
      rw [if_neg heven, Nat.add_comm, Nat.testBit_succ]
      exact ih _ (by omega)

theorem shCountRes_ctz_toNat (b : Word) : (shCountRes .ctz b).toNat = ctzN 64 b.toNat := by
  have hle := ctzN_le 64 b.toNat
  simp only [shCountRes, BitVec.toNat_ofNat]
  omega

/-- ctz is the place of the lowest bit set, 64 where none is (R72). -/
theorem shCountRes_ctz_spec (b : Word) :
    (shCountRes .ctz b).toNat ≤ 64 ∧ (∀ i, i < (shCountRes .ctz b).toNat → b.getLsbD i = false)
      ∧ ((shCountRes .ctz b).toNat < 64 → b.getLsbD (shCountRes .ctz b).toNat = true) := by
  rw [shCountRes_ctz_toNat]
  exact ⟨ctzN_le _ _, testBit_of_lt_ctzN 64 b.toNat, testBit_ctzN 64 b.toNat⟩

theorem popcount_eq_countP (n x : Nat) : popcount n x = (List.range n).countP x.testBit := by
  induction n generalizing x with
  | zero => rfl
  | succ n ih =>
    have hshift : x.testBit ∘ Nat.succ = (x / 2).testBit := funext fun i => Nat.testBit_succ x i
    have hlow : x % 2 = if x.testBit 0 then 1 else 0 := by
      rcases Nat.mod_two_eq_zero_or_one x with h | h <;> simp [h]
    rw [popcount, ih, List.range_succ_eq_map, List.countP_cons, List.countP_map, hshift, hlow, Nat.add_comm]

/-! Byte reversal -/

theorem leNat_testBit (l : List Byte) (i : Nat) : (leNat l).testBit i = (l.getD (i / 8) 0).getLsbD (i % 8) := by
  induction l generalizing i with
  | nil => simp [leNat]
  | cons b t ih =>
    have hsum : leNat (b :: t) = 2 ^ 8 * leNat t + b.toNat := by rw [leNat]; omega
    rw [hsum, Nat.testBit_two_pow_mul_add _ b.isLt]
    split
    · next hlow =>
      rw [Nat.div_eq_of_lt hlow, Nat.mod_eq_of_lt hlow]
      rfl
    · next hhigh =>
      have hdiv : i / 8 = (i - 8) / 8 + 1 := by omega
      have hmod : i % 8 = (i - 8) % 8 := by omega
      rw [ih, hdiv, hmod, List.getD_cons_succ]

theorem leBytes_getD_getLsbD (n x j m : Nat) (hj : j < n) (hm : m < 8) :
    ((leBytes n x).getD j 0).getLsbD m = x.testBit (8 * j + m) := by
  induction n generalizing x j with
  | zero => omega
  | succ n ih =>
    rw [leBytes]
    cases j with
    | zero =>
      rw [List.getD_cons_zero, BitVec.getLsbD_ofNat, decide_eq_true hm, Bool.true_and, Nat.mul_zero, Nat.zero_add]
    | succ j =>
      have hup : 8 * (j + 1) + m = 8 * j + m + 8 := by omega
      rw [List.getD_cons_succ, ih _ _ (by omega), hup, ← Nat.testBit_div_two_pow (n := 8)]

theorem shCountRes_bswap_getLsbD (b : Word) (i : Nat) (hi : i < 64) :
    (shCountRes .bswap b).getLsbD i = b.getLsbD (8 * (7 - i / 8) + i % 8) := by
  have hbyte : i / 8 < 8 := by omega
  have hrev : (leBytes 8 b.toNat).reverse.getD (i / 8) 0 = (leBytes 8 b.toNat).getD (7 - i / 8) 0 := by
    rw [List.getD_eq_getElem?_getD, List.getElem?_reverse (by rw [leBytes_length]; omega), leBytes_length,
      List.getD_eq_getElem?_getD]
  rw [shCountRes, BitVec.getLsbD_ofNat, beNat, leNat_testBit, hrev, leBytes_getD_getLsbD _ _ _ _ (by omega) (by omega),
    decide_eq_true hi, Bool.true_and]
  rfl

/-- Settles O3: each trigger starts one operation, and its result is what the lemmas on fields, counts and bytes say. -/
theorem shTriggersComputeAsR72AndR482Give : Obligations.ShTriggersComputeAsR72AndR482Give := by
  unfold Obligations.ShTriggersComputeAsR72AndR482Give
  intro s c b hr a f p n m started
  have hn : shLen ((s.settled c.val).port 0x181) = n := shLen_eq _
  have hpop : shCountRes .pop b = Word.ofNat ((List.range 64).countP fun i => b.getLsbD i) :=
    congrArg Word.ofNat (popcount_eq_countP 64 b.toNat)
  refine ⟨exec_shShift s c b hr .shl, exec_shShift s c b hr .shr, exec_shShift s c b hr .sar, exec_shShift s c b hr .rol,
    exec_shShift s c b hr .ror, ⟨_, exec_shExtract s c b hr false, ?ext⟩, ⟨_, exec_shExtract s c b hr true, ?exts⟩,
    ⟨_, exec_shInsert s c b hr, ?ins⟩, ⟨_, exec_shCount s c b hr .clz, shCountRes_clz_spec b⟩,
    ⟨_, exec_shCount s c b hr .ctz, shCountRes_ctz_spec b⟩, ?pop,
    ⟨_, exec_shCount s c b hr .bswap, shCountRes_bswap_getLsbD b⟩⟩
  case ext => rw [← hn]; exact shExt_false_getLsbD _ b
  case exts => rw [← hn]; exact shExt_true_getLsbD _ b
  case ins => rw [← hn]; exact shIns_getLsbD _ _ b
  case pop => rw [exec_shCount s c b hr .pop, hpop]; rfl

end Sys2Proof.Machine
end

section
/-!
PROOFS. The div unit (R92-R94): what a trigger of div starts, and the exception that a zero divisor raises under DZ_TE.
-/

namespace Sys2Proof.Machine
open Sys2Proof

/-! A trigger that raises its exception at once (R69) -/

/-- At a clear boundary no exception waits for its trap entry: it would be the next condition of R114. -/
theorem State.exc_of_boundaryClear (s : State) (c : Nat) (h : s.boundaryClear c = true) : (s.core c).exc = none := by
  simp only [State.boundaryClear, Bool.and_eq_true, Option.isNone_iff_eq_none] at h
  obtain ⟨-, hcond⟩ := h
  unfold State.nextCond at hcond
  dsimp only at hcond
  split at hcond
  · cases hcond
  · split at hcond
    · cases hcond
    · split at hcond
      · cases hcond
      · split at hcond
        · cases hcond
        · exact Option.map_eq_none_iff.mp hcond

theorem State.raise_of_exc_none (s : State) (c : Nat) (e : Exc) (h : (s.core c).exc = none) :
    s.raise c e = s.setCore c { s.core c with exc := some e } := by
  simp [State.raise, State.modCore, h]

/-- A div trigger of 0 under DZ_TE on a core that may start it: nothing happens but the exception (R94). -/
theorem State.trigFixed_divTraps (s : State) (c p : Nat) (b : Word) (hr : s.ready c) (hu : unitThere c p)
    (hd : (s.settled c).divTraps p b = true) :
    s.trigFixed c p b = s.setCore c { s.settled c with exc := some (plainExc 0x31 0 0) } := by
  have hthere : (portInfo (decide (80 ≤ c)) p).isNone = false := by
    rw [← Option.not_isSome, hu, Bool.not_true]
  have hsettle : s.modCore c (fun k => k.settle (s.clock c)) = s.atBundle c := rfl
  have hraise : (s.atBundle c).raise c (plainExc 0x31 0 0)
      = s.setCore c { s.settled c with exc := some (plainExc 0x31 0 0) } := by
    rw [State.raise_of_exc_none _ c _ (State.exc_of_boundaryClear _ c hr), State.atBundle_core, State.atBundle,
      State.modCore, State.setCore_setCore]
  unfold State.ready at hr
  simp only [State.trigFixed, hsettle, hr, hthere, State.atBundle_core, hd, hraise, if_true, if_false, Bool.false_eq_true]

/-! What a trigger of div starts -/

/-- Main and headworks cores have both triggers of div (R83). -/
theorem unitThere_div (c off : Nat) (hlo : 8 ≤ off) (hhi : off < 0xA) : unitThere c (0x2C0 + off) := by
  have h : ∀ off < 0xA, 8 ≤ off → ∀ hw, (portInfo hw (0x2C0 + off)).isSome = true := by decide
  exact h off hhi hlo _

theorem isTrigger_div : ∀ off < 0xA, 8 ≤ off → isTrigger (0x2C0 + off) = true := by decide

theorem unitOf_div : ∀ off < 0xA, unitOf (0x2C0 + off) = 0x2C0 := by decide

theorem Core.fixed_div (k : Core) (b : Word) (off : Nat) (hlo : 8 ≤ off) (hhi : off < 0xA) :
    k.fixed (0x2C0 + off) b = some (divFixed k off b) := by
  simp [Core.fixed, isTrigger_div off hhi hlo, unitOf_div off hhi]

theorem Core.divTraps_div (k : Core) (b : Word) (off : Nat) (hlo : 8 ≤ off) (hhi : off < 0xA) :
    k.divTraps (0x2C0 + off) b = (b == 0 && (k.port 0x8C).getLsbD 4) := by
  simp [Core.divTraps, isTrigger_div off hhi hlo, unitOf_div off hhi, bit, bitDzTe]

/-- A division that starts: both its results come 26 cc later, those of an edge row too (R93). -/
theorem State.trigFixed_div (s : State) (c : Nat) (b : Word) (off : Nat) (hr : s.ready c)
    (hd : b ≠ 0 ∨ ((s.settled c).port 0x8C).getLsbD 4 = false) (hlo : 8 ≤ off := by decide) (hhi : off < 0xA := by decide) :
    let f := divFixed (s.settled c) off b
    s.trigFixed c (0x2C0 + off) b = s.withOp c 0x2C0 (0x2C0 + off) 26 f.writes f.flags none := by
  have hgo : (s.settled c).divTraps (0x2C0 + off) b = false := by
    rw [Core.divTraps_div _ b off hlo hhi, Bool.and_eq_false_iff, beq_eq_false_iff_ne]
    exact hd
  exact s.trigFixed_go c _ b _ hr (unitThere_div c off hlo hhi) (Core.fixed_div _ b off hlo hhi) hgo

/-- A division by zero that traps (R94). -/
theorem State.trigFixed_div_zero (s : State) (c off : Nat) (hr : s.ready c)
    (hd : ((s.settled c).port 0x8C).getLsbD 4 = true) (hlo : 8 ≤ off := by decide) (hhi : off < 0xA := by decide) :
    s.trigFixed c (0x2C0 + off) 0 = s.setCore c { s.settled c with exc := some (plainExc 0x31 0 0) } := by
  refine s.trigFixed_divTraps c _ 0 hr (unitThere_div c off hlo hhi) ?_
  rw [Core.divTraps_div _ 0 off hlo hhi, hd]
  rfl

section
variable (s : State) (c : CoreId) (b : Word) (hr : s.ready c.val)
  (hd : b ≠ 0 ∨ ((s.settled c.val).port 0x8C).getLsbD 4 = false)
include hr hd

theorem exec_divS (q r flags : Word) (h : divS ((s.settled c.val).port 0x2C0) b = (q, r, flags)) :
    exec (.divS c b) s = .next (s.withOp c.val 0x2C0 0x2C8 26 [(0x94, q), (0x95, r)] flags none) := by
  have hgo := s.trigFixed_div c.val b 8 hr hd
  simp only [divFixed, if_true, h] at hgo
  exact congrArg _ hgo

theorem exec_divU (q r flags : Word) (h : divU ((s.settled c.val).port 0x2C0) b = (q, r, flags)) :
    exec (.divU c b) s = .next (s.withOp c.val 0x2C0 0x2C9 26 [(0x94, q), (0x95, r)] flags none) := by
  have hgo := s.trigFixed_div c.val b 9 hr hd
  simp only [divFixed, Nat.reduceEqDiff, if_false, h] at hgo
  exact congrArg _ hgo

end

/-! Quotient and remainder -/

theorem divS_of_ne (a b : Word) (hb : b ≠ 0) (hab : a ≠ 0x8000000000000000 ∨ b ≠ 0xFFFFFFFFFFFFFFFF) :
    divS a b = (BitVec.ofInt 64 (a.toInt.tdiv b.toInt), BitVec.ofInt 64 (a.toInt.tmod b.toInt), 0) := by
  have hedge : ¬ (decide (a = 0x8000000000000000) && decide (b = 0xFFFFFFFFFFFFFFFF)) = true := by
    rw [Bool.and_eq_true, decide_eq_true_iff, decide_eq_true_iff]
    tauto
  rw [divS, if_neg hb, if_neg hedge]

theorem divS_overflow : divS 0x8000000000000000 0xFFFFFFFFFFFFFFFF = (0x8000000000000000, 0, 4) := rfl

theorem divS_zero (a : Word) : divS a 0 = (0, a, 8) := rfl

theorem divU_of_ne (a b : Word) (hb : b ≠ 0) :
    divU a b = (BitVec.ofNat 64 (a.toNat / b.toNat), BitVec.ofNat 64 (a.toNat % b.toNat), 0) := if_neg hb

theorem divU_zero (a : Word) : divU a 0 = (0, a, 8) := rfl

/-- Settles O6: a division that does not trap starts with the results of its row, and one that traps leaves only its exception. -/
theorem divTriggersComputeAsR92ToR94Give : Obligations.DivTriggersComputeAsR92ToR94Give := by
  unfold Obligations.DivTriggersComputeAsR92ToR94Give
  intro s c b hr k a dzTe done traps
  refine ⟨?signed, ?overflow, ?signedZero, ?signedTrap, ?unsigned, ?unsignedZero, ?unsignedTrap⟩
  case signed => exact fun hb hab => exec_divS s c b hr (.inl hb) _ _ _ (divS_of_ne a b hb hab)
  case overflow =>
    rintro ha rfl
    refine exec_divS s c _ hr (.inl (by decide)) a 0 4 ?_
    change divS a _ = _
    rw [ha]
    exact divS_overflow
  case signedZero =>
    rintro rfl hdz
    exact exec_divS s c 0 hr (.inr hdz) _ _ _ (divS_zero a)
  case signedTrap =>
    rintro rfl hdz
    exact congrArg _ (s.trigFixed_div_zero c.val 8 hr hdz)
  case unsigned => exact fun hb => exec_divU s c b hr (.inl hb) _ _ _ (divU_of_ne a b hb)
  case unsignedZero =>
    rintro rfl hdz
    exact exec_divU s c 0 hr (.inr hdz) _ _ _ (divU_zero a)
  case unsignedTrap =>
    rintro rfl hdz
    exact congrArg _ (s.trigFixed_div_zero c.val 9 hr hdz)

end Sys2Proof.Machine
end

section
/-!
PROOFS. The dec unit (R107-R111): what a trigger of dec starts, which nibble a data exception names, the significant digits, and
an exact result packed into its digits.
-/

namespace Sys2Proof.Machine
open Sys2Proof

/-! What a trigger of dec starts -/

/-- What a trigger of dec leaves: an operation that completes with a result and its flags, or with a data exception (R109). -/
def State.withDec (s : State) (c off lat : Nat) : (Nat × Word) ⊕ Nat → State
  | .inl (v, flags) =>
    s.withOp c 0x380 (0x380 + off) lat [(0x383, Word.ofNat (v / 2 ^ 64)), (0x384, Word.ofNat v)] flags none
  | .inr detail => s.withOp c 0x380 (0x380 + off) lat [(0x383, 0), (0x384, 0)] 0 (some (0x41, detail))

theorem isTrigger_dec : ∀ off < 0xB, 8 ≤ off → isTrigger (0x380 + off) = true := by decide

theorem unitOf_dec : ∀ off < 0xB, unitOf (0x380 + off) = 0x380 := by decide

/-- Every main core has the triggers of dec, and no headworks core has (R83). -/
theorem unitThere_dec (c off : Nat) (hc : c < 80) (hlo : 8 ≤ off) (hhi : off < 0xB) : unitThere c (0x380 + off) := by
  have h : ∀ off < 0xB, 8 ≤ off → (portInfo false (0x380 + off)).isSome = true := by decide
  rw [unitThere, decide_eq_false (Nat.not_le.mpr hc)]
  exact h off hhi hlo

theorem Core.fixed_dec (k : Core) (b : Word) (off : Nat) (hlo : 8 ≤ off) (hhi : off < 0xB) :
    k.fixed (0x380 + off) b = some (decFixed k off b) := by
  simp [Core.fixed, isTrigger_dec off hhi hlo, unitOf_dec off hhi]

theorem Core.divTraps_dec (k : Core) (b : Word) (off : Nat) (hhi : off < 0xB) : k.divTraps (0x380 + off) b = false := by
  simp [Core.divTraps, unitOf_dec off hhi]

/-- A trigger of dec on a core that may start it, by its offset (0xA is dec.t.chk, 9 dec.t.sub). -/
theorem State.trigFixed_dec (s : State) (c : Nat) (b : Word) (off : Nat) (hr : s.ready c) (hc : c < 80)
    (hlo : 8 ≤ off := by decide) (hhi : off < 0xB := by decide) :
    let x := decWide ((s.settled c).port 0x380) ((s.settled c).port 0x381)
    let y := decWide ((s.settled c).port 0x382) b
    s.trigFixed c (0x380 + off) b
      = s.withDec c off (if off = 0xA then decLatency (decSig y) else decLatency (max (decSig x) (decSig y)))
          (if off = 0xA then decChk y else decAddSub (off == 9) x y) := by
  intro x y
  rw [s.trigFixed_go c _ b _ hr (unitThere_dec c off hc hlo hhi) (Core.fixed_dec _ b off hlo hhi) (Core.divTraps_dec _ b off hhi)]
  simp only [decFixed]
  generalize (if off = 0xA then decChk y else decAddSub (off == 9) x y) = r
  cases r <;> rfl

section
variable (s : State) (c : CoreId) (b : Word) (hr : s.ready c.val) (hc : c.val < 80)
include hr hc

theorem exec_decAddSub (sub : Bool) :
    let x := decWide ((s.settled c.val).port 0x380) ((s.settled c.val).port 0x381)
    let y := decWide ((s.settled c.val).port 0x382) b
    exec (.decAddSub c sub b) s
      = .next (s.withDec c.val (if sub then 9 else 8) (decLatency (max (decSig x) (decSig y))) (decAddSub sub x y)) := by
  intro x y
  have hexec : exec (.decAddSub c sub b) s = .next (s.trigFixed c.val (0x380 + if sub then 9 else 8) b) := by
    cases sub <;> rfl
  have hop : ((if sub then 9 else 8) == 9) = sub := by cases sub <;> rfl
  have hne : (if sub then 9 else 8) ≠ 0xA := by cases sub <;> decide
  rw [hexec, s.trigFixed_dec c.val b _ hr hc (by split <;> decide) (by split <;> decide), if_neg hne, if_neg hne, hop]

theorem exec_decChk :
    let y := decWide ((s.settled c.val).port 0x382) b
    exec (.decChk c b) s = .next (s.withDec c.val 10 (decLatency (decSig y)) (decChk y)) := by
  intro y
  have hexec : exec (.decChk c b) s = .next (s.trigFixed c.val (0x380 + 10) b) := rfl
  rw [hexec, s.trigFixed_dec c.val b 10 hr hc, if_pos rfl, if_pos rfl]

end

/-! Nibbles -/

theorem nib_eq (x i : Nat) : nib x i = x / 16 ^ i % 16 := by
  rw [nib, bits, Nat.shiftRight_eq_div_pow, Nat.pow_mul]
  rfl

theorem nib_succ (x i : Nat) : nib x (i + 1) = nib (x / 16) i := by
  rw [nib_eq, nib_eq, Nat.pow_succ', Nat.div_div_eq_div_mul]

/-- The lowest nibble of a sum whose other part is a multiple of 16. -/
theorem nib_add_zero (p c : Nat) (hp : 16 ∣ p) (hc : c < 16) : nib (p + c) 0 = c := by
  rw [nib_eq]
  omega

/-- The other nibbles are those of the multiple of 16. -/
theorem nib_add_succ (p c i : Nat) (hp : 16 ∣ p) (hc : c < 16) : nib (p + c) (i + 1) = nib p (i + 1) := by
  have hdiv : (p + c) / 16 = p / 16 := by omega
  rw [nib_succ, nib_succ, hdiv]

theorem nib_eq_zero_of_div (x n i : Nat) (h : x / 16 ^ n = 0) (hi : n ≤ i) : nib x i = 0 := by
  have hlt : x < 16 ^ n := (Nat.div_eq_zero_iff_lt (by positivity)).mp h
  rw [nib_eq, Nat.div_eq_of_lt (hlt.trans_le (Nat.pow_le_pow_right (by decide) hi)), Nat.zero_mod]

/-! The first invalid nibble (R109) -/

theorem badNibble_eq_none (x : Nat) (h : ∀ i, i < 32 → nibValid x i = true) : badNibble x = none :=
  List.find?_range_eq_none.mpr fun i hi => by rw [h i hi]; rfl

theorem badNibble_eq_some (x i : Nat) (hi : i < 32) (hbad : nibValid x i = false)
    (hpre : ∀ j, j < i → nibValid x j = true) : badNibble x = some i :=
  List.find?_range_eq_some.mpr
    ⟨by rw [hbad]; rfl, List.mem_range.mpr hi, fun j hj => by rw [hpre j hj]; rfl⟩

theorem decDetail_eq (operandB : Bool) (i : Nat) : decDetail operandB i = (if operandB then 0x60 else 0x20) + 128 * i := by
  cases operandB <;> simp [decDetail] <;> omega

section
variable {x y : Nat}

theorem decAddSub_of_valid (sub : Bool) (hx : ∀ i, i < 32 → nibValid x i = true) (hy : ∀ i, i < 32 → nibValid y i = true) :
    decAddSub sub x y = .inl (decResult (if sub then decValue x - decValue y else decValue x + decValue y)) := by
  rw [decAddSub, badNibble_eq_none x hx, badNibble_eq_none y hy]

theorem decAddSub_of_bad_a (sub : Bool) (i : Nat) (hi : i < 32) (hbad : nibValid x i = false)
    (hpre : ∀ j, j < i → nibValid x j = true) : decAddSub sub x y = .inr (0x20 + 128 * i) := by
  rw [decAddSub, badNibble_eq_some x i hi hbad hpre]
  exact congrArg _ (decDetail_eq false i)

theorem decAddSub_of_bad_b (sub : Bool) (i : Nat) (hi : i < 32) (hx : ∀ j, j < 32 → nibValid x j = true)
    (hbad : nibValid y i = false) (hpre : ∀ j, j < i → nibValid y j = true) :
    decAddSub sub x y = .inr (0x60 + 128 * i) := by
  rw [decAddSub, badNibble_eq_none x hx, badNibble_eq_some y i hi hbad hpre]
  exact congrArg _ (decDetail_eq true i)

theorem decChk_of_valid (hy : ∀ i, i < 32 → nibValid y i = true) : decChk y = .inl (y, 0) := by
  rw [decChk, badNibble_eq_none y hy]

theorem decChk_of_bad (i : Nat) (hi : i < 32) (hbad : nibValid y i = false) (hpre : ∀ j, j < i → nibValid y j = true) :
    decChk y = .inr (0x60 + 128 * i) := by
  rw [decChk, badNibble_eq_some y i hi hbad hpre]
  exact congrArg _ (decDetail_eq true i)

end

/-! Significant digits (R111) -/

/-- A scan that keeps the last index at which a predicate holds ends with it, or with 0 where there is none. -/
theorem foldl_range_last (p : Nat → Bool) (m n : Nat) (hm : m < n) (habove : ∀ i, m < i → p i = false)
    (hat : m = 0 ∨ p m = true) : (List.range n).foldl (fun l i => if p i then i else l) 0 = m := by
  induction n with
  | zero => omega
  | succ n ih =>
    rw [List.range_succ, List.foldl_append, List.foldl_cons, List.foldl_nil]
    obtain hlt | rfl := Nat.lt_succ_iff_lt_or_eq.mp hm
    · rw [habove n hlt, ih hlt]
      rfl
    · obtain rfl | hp := hat
      · simp
      · rw [if_pos hp]

theorem decSig_eq (x n : Nat) (hn : n ≤ 31) (hhigh : x / 16 ^ (n + 1) = 0) (hat : n = 0 ∨ nib x n ≠ 0) : decSig x = n := by
  refine foldl_range_last (fun i => i != 0 && nib x i != 0) n 32 (by omega) (fun i hi => ?_) ?_
  · simp [nib_eq_zero_of_div x (n + 1) i hhigh hi]
  · obtain rfl | hne := eq_or_ne n 0
    · exact .inl rfl
    · exact .inr (by simp [hne, hat.resolve_left hne])

/-! Digits and their number -/

theorem decDigits_eq_sum (x n : Nat) : decDigits x n = ((List.range n).map (fun i => nib x (i + 1) * 10 ^ i)).sum := by
  induction n with
  | zero => rfl
  | succ n ih => rw [decDigits, ih, List.sum_range_succ]

theorem decDigits_of_digits (x v n : Nat) (h : ∀ i, i < n → nib x (i + 1) = v / 10 ^ i % 10) : decDigits x n = v % 10 ^ n := by
  induction n with
  | zero => simp [decDigits, Nat.mod_one]
  | succ n ih => rw [decDigits, ih fun i hi => h i (by omega), h n (by omega), Nat.mod_pow_succ, Nat.mul_comm (10 ^ n)]

theorem dvd_decPack (n v : Nat) : 16 ∣ decPack n v := by
  cases n with
  | zero => exact dvd_zero _
  | succ n => rw [decPack]; omega

/-- A packed number leaves room for its sign nibble. -/
theorem decPack_le (n v : Nat) : decPack n v + 16 ≤ 16 ^ (n + 1) := by
  induction n generalizing v with
  | zero => simp [decPack]
  | succ n ih =>
    have hrest := ih (v / 10)
    rw [decPack, Nat.pow_succ]
    omega

theorem nib_decPack (n v i : Nat) (hi : i < n) : nib (decPack n v) (i + 1) = v / 10 ^ i % 10 := by
  induction n generalizing v i with
  | zero => omega
  | succ n ih =>
    have hdvd := dvd_decPack n (v / 10)
    have hdigit : v % 10 < 16 := by omega
    have hup : decPack (n + 1) v / 16 = decPack n (v / 10) + v % 10 := by rw [decPack]; omega
    rw [nib_succ, hup]
    cases i with
    | zero => rw [nib_add_zero _ _ hdvd hdigit, pow_zero, Nat.div_one]
    | succ i => rw [nib_add_succ _ _ _ hdvd hdigit, ih _ _ (by omega), Nat.div_div_eq_div_mul, ← Nat.pow_succ']

/-! An exact result packed (R108, R110) -/

theorem decWide_halves (z : Nat) (hz : z < 2 ^ 128) : decWide (Word.ofNat (z / 2 ^ 64)) (Word.ofNat z) = z := by
  simp only [decWide, BitVec.toNat_ofNat]
  omega

theorem ofNat_decWide_high (h l : Word) : Word.ofNat (decWide h l / 2 ^ 64) = h := by
  apply BitVec.eq_of_toNat_eq
  simp only [decWide, BitVec.toNat_ofNat]
  omega

theorem ofNat_decWide_low (h l : Word) : Word.ofNat (decWide h l) = l := by
  apply BitVec.eq_of_toNat_eq
  simp only [decWide, BitVec.toNat_ofNat]
  omega

theorem decResult_lt (v : Int) : (decResult v).1 < 2 ^ 128 := by
  have hpack := decPack_le 31 (v.natAbs % 10 ^ 31)
  simp only [decResult]
  split <;> omega

theorem nib_decResult_zero (v : Int) : nib (decResult v).1 0 = if v < 0 then 13 else 12 :=
  nib_add_zero _ _ (dvd_decPack _ _) (by split <;> decide)

theorem nib_decResult_succ (v : Int) (i : Nat) (hi : i < 31) :
    nib (decResult v).1 (i + 1) = v.natAbs % 10 ^ 31 / 10 ^ i % 10 := by
  rw [decResult, nib_add_succ _ _ _ (dvd_decPack _ _) (by split <;> decide), nib_decPack _ _ _ hi]

theorem nibValid_decResult (v : Int) (i : Nat) (hi : i < 32) : nibValid (decResult v).1 i = true := by
  cases i with
  | zero =>
    rw [nibValid, if_pos rfl, nib_decResult_zero]
    split <;> decide
  | succ i =>
    rw [nibValid, if_neg (Nat.succ_ne_zero i), nib_decResult_succ v i (by omega), decide_eq_true_eq]
    omega

theorem decDigits_decResult (v : Int) : decDigits (decResult v).1 31 = v.natAbs % 10 ^ 31 := by
  rw [decDigits_of_digits _ _ _ (nib_decResult_succ v), Nat.mod_mod]

/-- Settles O8: each trigger starts one operation whose outcome is the packed exact result or the first invalid nibble. -/
theorem decTriggersComputeAsR107ToR111Give : Obligations.DecTriggersComputeAsR107ToR111Give := by
  unfold Obligations.DecTriggersComputeAsR107ToR111Give
  intro s c sub b hr hc k x y nibble valid magnitude value exact sig lat done traps addOff n m hn hm hx hy
  have hnib : nibble = nib := funext₂ fun z i => (nib_eq z i).symm
  have hvalid : valid = nibValid := by funext z i; simp only [valid, hnib, nibValid]
  have hmag (z : Nat) : magnitude z = decDigits z 31 := by simp only [magnitude, hnib, decDigits_eq_sum]
  have hvalue : value = decValue := by funext z; simp [value, hnib, hmag, decValue, decNeg]
  have hsig (z l : Nat) (hl : l ≤ 31) (h : sig z l) : decSig z = l := by
    simp only [sig, hnib] at h
    obtain ⟨hhigh, hat⟩ := h
    exact decSig_eq z l hl hhigh hat
  have hadd : exec (.decAddSub c sub b) s = .next (s.withDec c.val addOff (lat (max n m)) (decAddSub sub x y)) := by
    rw [← hsig x n hn hx, ← hsig y m hm hy]
    exact exec_decAddSub s c b hr hc sub
  have hchk : exec (.decChk c b) s = .next (s.withDec c.val 10 (lat m) (decChk y)) := by
    rw [← hsig y m hm hy]
    exact exec_decChk s c b hr hc
  rw [hvalid, hadd, hchk]
  refine ⟨fun hvx hvy => ?sum, fun i hi hbad hpre => ?badA, fun i hi hvx hbad hpre => ?badB, fun hvy => ?chk,
    fun i hi hbad hpre => ?badChk⟩
  case sum =>
    have hexact : exact = if sub then decValue x - decValue y else decValue x + decValue y := by simp only [exact, hvalue]
    rw [decAddSub_of_valid sub hvx hvy, ← hexact]
    refine ⟨Word.ofNat ((decResult exact).1 / 2 ^ 64), Word.ofNat (decResult exact).1, rfl, ?_⟩
    rw [← decWide, decWide_halves _ (decResult_lt exact)]
    intro z
    rw [hmag, hnib]
    exact ⟨nibValid_decResult exact, decDigits_decResult exact, nib_decResult_zero exact⟩
  case badA => rw [decAddSub_of_bad_a sub i hi hbad hpre]; rfl
  case badB => rw [decAddSub_of_bad_b sub i hi hvx hbad hpre]; rfl
  case chk =>
    have hhigh : Word.ofNat (y / 2 ^ 64) = k.port 0x382 := ofNat_decWide_high _ _
    have hlow : Word.ofNat y = b := ofNat_decWide_low _ _
    rw [decChk_of_valid hvy, State.withDec, hhigh, hlow]
  case badChk => rw [decChk_of_bad i hi hbad hpre]; rfl

end Sys2Proof.Machine
end

section
/-!
PROOFS. Starts and pins (R399, R400, R407, R465, R466). First, what an event of the fault collector leaves as it was.
-/

namespace Sys2Proof.Machine
open Sys2Proof Csr

/-! What an event of the collector leaves as it was (R442-R449) -/

/-- The registers that the recording of an event of source n writes beside FLT_STATUS; a fatal one stops the islands (R444). -/
def eventRegs (n : Nat) : List Nat :=
  [FLT_SUMMARY, FLT_CAP, FLT_CAPADDR, FLT_CAPTIME, FLT_SRC n, FLT_SRCADDR n] ++ (List.range 17).map CLK_ISTAT

/-- What recording an event of source n leaves: memory, what the start holds, every register but its own. -/
structure EventFrame (n : Nat) (s t : State) : Prop where
  mem : t.mem = s.mem
  inReset : t.inReset = s.inReset
  fullRate : t.fullRate = s.fullRate
  badIslands : t.badIslands = s.badIslands
  find : ∀ a, a ∉ eventRegs n → t.csr.find a = s.csr.find a

namespace EventFrame
variable {n : Nat} {s t u : State}

theorem refl (s : State) : EventFrame n s s := ⟨rfl, rfl, rfl, rfl, fun _ _ => rfl⟩

theorem trans (h : EventFrame n s t) (k : EventFrame n t u) : EventFrame n s u :=
  ⟨k.mem.trans h.mem, k.inReset.trans h.inReset, k.fullRate.trans h.fullRate, k.badIslands.trans h.badIslands,
    fun a ha => (k.find a ha).trans (h.find a ha)⟩

theorem wr (h : EventFrame n s t) {b : Nat} (hb : b ∈ eventRegs n) (v : Word) : EventFrame n s (t.wr b v) :=
  h.trans ⟨rfl, rfl, rfl, rfl, fun _ ha => Table.find_put_ne _ _ _ _ fun e => ha (e ▸ hb)⟩

theorem setF (h : EventFrame n s t) {b : Nat} (hb : b ∈ eventRegs n) (f : Fld) (v : Nat) : EventFrame n s (t.setF b f v) :=
  h.wr hb _

theorem bump (h : EventFrame n s t) {b : Nat} (hb : b ∈ eventRegs n) (f : Fld) (v : Nat) : EventFrame n s (t.bump b f v) :=
  h.wr hb _

theorem foldl {α : Type} {f : State → α → State} (h : EventFrame n s t) (l : List α)
    (hf : ∀ t, ∀ x ∈ l, EventFrame n s t → EventFrame n s (f t x)) : EventFrame n s (l.foldl f t) :=
  List.foldlRecOn l f h fun t ht x hx => hf t x hx ht

theorem ite {c : Prop} [Decidable c] (ht : EventFrame n s t) (hu : EventFrame n s u) : EventFrame n s (if c then t else u) := by
  split <;> assumption

theorem setCore (h : EventFrame n s t) (c : Nat) (k : Core) : EventFrame n s (t.setCore c k) :=
  h.trans ⟨rfl, rfl, rfl, rfl, fun _ _ => rfl⟩

theorem setGroup (h : EventFrame n s t) (g : Nat) (k : Group) : EventFrame n s (t.setGroup g k) :=
  h.trans ⟨rfl, rfl, rfl, rfl, fun _ _ => rfl⟩

theorem sendUp (h : EventFrame n s t) (typ tag : Nat) (p : List Byte) : EventFrame n s (t.sendUp typ tag p) :=
  h.trans ⟨rfl, rfl, rfl, rfl, fun _ _ => rfl⟩

theorem notice (h : EventFrame n s t) (code : Nat) (p : List Byte) : EventFrame n s (t.notice code p) := by
  have hsent (t : State) (l : List Nat) (x : Table (List Byte)) : EventFrame n t { t with noticed := l, noticeHeld := x } :=
    ⟨rfl, rfl, rfl, rfl, fun _ _ => rfl⟩
  unfold State.notice
  exact .ite h (.ite (h.sendUp ..) (.ite (h.trans (hsent t ..)) ((h.sendUp ..).trans (hsent _ _ _))))

theorem setLine (h : EventFrame n s t) (c line : Nat) : EventFrame n s (t.setLine c line) := by
  unfold State.setLine
  split
  · exact h.setGroup ..
  · exact h.setCore ..

theorem need (h : EventFrame n s t) (c reason : Nat) : EventFrame n s (t.need c reason) := by
  unfold State.need
  exact .ite h (h.trans ⟨rfl, rfl, rfl, rfl, fun _ _ => rfl⟩)

theorem routeSevere (h : EventFrame n s t) (m : Nat) : EventFrame n s (t.routeSevere m) := by
  unfold State.routeSevere
  exact .ite (.ite (h.setCore ..) (.ite (h.setCore ..) h)) h

theorem notifyLine (h : EventFrame n s t) (cls : Nat) : EventFrame n s (t.notifyLine cls) := by
  unfold State.notifyLine
  exact .ite (h.setLine ..) h

theorem escalated (h : EventFrame n s t) (src m : Nat) : EventFrame n s (t.escalated src m) := by
  have hrouted := (h.notifyLine 3).routeSevere m
  unfold State.escalated
  exact .ite (.ite (hrouted.need ..) (.ite (hrouted.setCore ..) hrouted)) hrouted

theorem countWindow (h : EventFrame n s t) (src cls m : Nat) : EventFrame n s (t.countWindow src cls m).1 := by
  unfold State.countWindow
  split
  · exact h
  · exact h.trans ⟨rfl, rfl, rfl, rfl, fun _ _ => rfl⟩

theorem summarise (h : EventFrame n s t) : EventFrame n s t.summarise := by
  have hset := h.wr (b := FLT_SUMMARY) (by simp [eventRegs])
  unfold State.summarise
  extract_lets _ _ u
  have hu : EventFrame n s u := hset _
  exact .ite hu (hu.notice ..)

theorem capture (h : EventFrame n s t) (code cls m acc : Nat) (addr : Word) : EventFrame n s (t.capture code cls m acc addr) := by
  have hcap : FLT_CAP ∈ eventRegs n := by simp [eventRegs]
  have haddr : FLT_CAPADDR ∈ eventRegs n := by simp [eventRegs]
  have htime : FLT_CAPTIME ∈ eventRegs n := by simp [eventRegs]
  unfold State.capture
  exact .ite (.ite ((h.setF hcap _ _).bump hcap _ _) (((h.wr hcap _).wr haddr _).wr htime _)) h

theorem enterFallow (h : EventFrame n s t) : EventFrame n s t.enterFallow := by
  unfold State.enterFallow
  have hstop : EventFrame n s { t with fallow := true, lanesIdle := true } := h.trans ⟨rfl, rfl, rfl, rfl, fun _ _ => rfl⟩
  have hreg (i : Nat) (hi : i ∈ List.range 17) : CLK_ISTAT i ∈ eventRegs n :=
    List.mem_append_right _ (List.mem_map_of_mem hi)
  exact hstop.foldl _ fun t i hi ht => ht.setF (hreg i hi) _ _

end EventFrame

/-- FLT_STATUS with its bit set, an event leaves every register but its own. -/
theorem State.fault_frame (s : State) (code m acc : Nat) (addr : Word) :
    EventFrame (fltSource code) (s.wr FLT_STATUS (setBit (s.rd FLT_STATUS) (fltSource code) true)) (s.fault code m acc addr) := by
  have hsrc : FLT_SRC (fltSource code) ∈ eventRegs (fltSource code) := by simp [eventRegs]
  have haddr : FLT_SRCADDR (fltSource code) ∈ eventRegs (fltSource code) := by simp [eventRegs]
  unfold State.fault
  extract_lets n cls s1 s2 s3
  have h3 : EventFrame n s1 s3 := (((EventFrame.refl s1).bump hsrc _ _).setF hsrc _ _).wr haddr _
  clear_value s3
  have h4 := h3.countWindow n cls m
  generalize s3.countWindow n cls m = p at h4 ⊢
  obtain ⟨s4, crossed⟩ := p
  dsimp -zeta only
  extract_lets s5 s6 s7 s8 s9
  have h5 : EventFrame n s1 s5 := h4.setF hsrc _ _
  have h6 : EventFrame n s1 s6 := (h5.capture ..).notifyLine _
  have h7 : EventFrame n s1 s7 := .ite (h6.routeSevere _) h6
  have h9 : EventFrame n s1 s9 := EventFrame.summarise (.ite (h7.escalated ..) h7)
  exact .ite h9.enterFallow h9

end Sys2Proof.Machine
end

section
/-!
PROOFS. What leaves HWK_SSTAT as it stands: memory and caches, links, records, sessions, the turn.
-/

namespace Sys2Proof.Machine
open Sys2Proof Csr

/-! What keeps HWK_SSTAT (R418): every register that a service writes lies above it -/

/-- HWK_SSTAT is listed with a word, or unlisted. -/
def SStat (w : Option Word) (s : State) : Prop := s.csr.find HWK_SSTAT = w

/-- An indexed register lies above HWK_SSTAT where the first of its kind does. -/
theorem above {base k : Nat} (h : HWK_SSTAT < base := by decide) : HWK_SSTAT < base + k := Nat.lt_add_right _ h

theorem above_LNK_PSTAT (l : Nat) : HWK_SSTAT < LNK_PSTAT l := by
  unfold LNK_PSTAT
  split <;> exact above

theorem above_LNK_PCNT (l : Nat) : HWK_SSTAT < LNK_PCNT l := by
  unfold LNK_PCNT
  split <;> exact above

theorem above_of_mem_eventRegs {n a : Nat} (h : a ∈ eventRegs n) : HWK_SSTAT < a := by
  unfold eventRegs at h
  obtain h | h := List.mem_append.mp h
  · simp only [List.mem_cons, List.not_mem_nil, or_false] at h
    obtain rfl | rfl | rfl | rfl | rfl | rfl := h
    case inr.inr.inr.inr.inl => exact above
    case inr.inr.inr.inr.inr => exact above
    all_goals decide
  · obtain ⟨i, -, rfl⟩ := List.mem_map.mp h
    exact above

namespace SStat
variable {w : Option Word} {s t : State}

/-! Registers -/

theorem wr (h : SStat w s) {a : Nat} (ha : HWK_SSTAT < a) (v : Word) : SStat w (s.wr a v) :=
  (Table.find_put_ne _ _ _ _ ha.ne).trans h

theorem setF (h : SStat w s) {a : Nat} (ha : HWK_SSTAT < a) (f : Fld) (v : Nat) : SStat w (s.setF a f v) := h.wr ha _

theorem setFs (h : SStat w s) {a : Nat} (ha : HWK_SSTAT < a) (l : List (Fld × Nat)) : SStat w (s.setFs a l) := h.wr ha _

theorem bump (h : SStat w s) {a : Nat} (ha : HWK_SSTAT < a) (f : Fld) (n : Nat) : SStat w (s.bump a f n) := h.wr ha _

theorem drop (h : SStat w s) {a : Nat} (ha : HWK_SSTAT < a) (f : Fld) : SStat w (s.drop a f) := h.wr ha _

theorem ite {c : Prop} [Decidable c] (hs : SStat w s) (ht : SStat w t) : SStat w (if c then s else t) := by
  split <;> assumption

theorem foldl {α : Type} {f : State → α → State} (h : SStat w s) (l : List α) (hf : ∀ t x, SStat w t → SStat w (f t x)) :
    SStat w (l.foldl f s) :=
  List.foldlRecOn l f h fun t ht x _ => hf t x ht

end SStat

/-! Operations that answer a state and a value -/

/-- The state of an answer has HWK_SSTAT listed with a word, or unlisted. -/
def SStatFst {α : Type} (w : Option Word) (p : State × α) : Prop := SStat w p.1

namespace SStatFst
variable {α β : Type} {w : Option Word} {p q : State × α}

theorem fst (h : SStatFst w p) : SStat w p.1 := h

theorem mk {s : State} (h : SStat w s) (x : α) : SStatFst w (s, x) := h

theorem ite {c : Prop} [Decidable c] (hp : SStatFst w p) (hq : SStatFst w q) : SStatFst w (if c then p else q) := by
  split <;> assumption

theorem foldl {f : State × α → β → State × α} (h : SStatFst w p) (l : List β)
    (hf : ∀ q x, SStatFst w q → SStatFst w (f q x)) : SStatFst w (l.foldl f p) :=
  List.foldlRecOn l f h fun t ht x _ => hf t x ht

end SStatFst

namespace SStat
variable {w : Option Word} {s t : State}

/-! Events -/

theorem of_event {n : Nat} (h : SStat w s) (e : EventFrame n s t) : SStat w t :=
  (e.find _ fun hm => (above_of_mem_eventRegs hm).ne rfl).trans h

theorem fault (h : SStat w s) (code m acc : Nat) (addr : Word) : SStat w (s.fault code m acc addr) :=
  (h.wr (by decide) _).of_event (s.fault_frame code m acc addr)

theorem fault0 (h : SStat w s) (code m acc : Nat) : SStat w (s.fault0 code m acc) := h.fault ..

theorem setLine (h : SStat w s) (c line : Nat) : SStat w (s.setLine c line) :=
  h.of_event (n := 0) ((EventFrame.refl s).setLine c line)

theorem addrFault (h : SStat w s) (m : Master) (acc pa : Nat) : SStat w (s.addrFault m acc pa) := h.fault ..

/-! Memory and caches -/

theorem setPoison (h : SStat w s) (pa : Nat) : SStat w (s.setPoison pa) := by
  unfold State.setPoison
  exact .ite h h

theorem spoilDram (h : SStat w s) (pa : Nat) : SStat w (s.spoilDram pa) := by
  unfold State.spoilDram
  exact .ite h (h.setPoison pa)

theorem writeThrough (h : SStat w s) (pa : Nat) (l : List Byte) : SStat w (s.writeThrough pa l) := h

theorem syncDram (h : SStat w s) (pa n : Nat) : SStat w (s.syncDram pa n) := h

theorem invalidateOthers (h : SStat w s) (line : Nat) (keep : Option Nat) : SStat w (s.invalidateOthers line keep) := h

theorem leaveCaches (h : SStat w s) (line : Nat) : SStat w (s.leaveCaches line) := by
  unfold State.leaveCaches
  exact .ite h h

theorem backInvalidate (h : SStat w s) (line : Nat) (keep : Option Nat) : SStat w (s.backInvalidate line keep) :=
  (h.invalidateOthers line keep).leaveCaches line

theorem touchRes (h : SStat w s) (line : Nat) : SStat w (s.touchRes line) := by
  unfold State.touchRes
  split <;> exact h

theorem resInstall (h : SStat w s) (line : Nat) (dirty : Bool) (ways : Nat) : SStat w (s.resInstall line dirty ways) := by
  unfold State.resInstall
  extract_lets base s1 may free unheld p way s2
  have h1 : SStat w s1 := .ite h h
  have h2 : SStat w s2 := by
    unfold s2
    split
    · exact h1.backInvalidate ..
    · exact h1
  clear_value s1 s2
  split
  · exact h1
  · exact h2

theorem snoopRead (h : SStat w s) (line : Nat) (keep : Option Nat) : SStat w (s.snoopRead line keep) := by
  unfold State.snoopRead
  extract_lets owned s1
  have h1 : SStat w s1 := h
  exact .ite (h1.resInstall ..) h1

theorem writeBackRes (h : SStat w s) (line : Nat) : SStat w (s.writeBackRes line) := h

theorem cleanReservoir (h : SStat w s) : SStat w s.cleanReservoir := by
  unfold State.cleanReservoir
  extract_lets dirty s1
  have h1 : SStat w s1 := h.foldl _ fun t line ht => ht.writeBackRes line
  clear_value s1
  exact h1

theorem writeCached (h : SStat w s) (pa : Nat) (l : List Byte) : SStat w (s.writeCached pa l) := h

theorem writeNormal (h : SStat w s) (pa : Nat) (l : List Byte) (dma : Bool) : SStat w (s.writeNormal pa l dma) := by
  unfold State.writeNormal
  extract_lets ways alloc lines s1
  have h1 : SStat w s1 := h.foldl _ fun t line ht => ht.invalidateOthers line none
  clear_value s1
  refine (h1.writeCached pa l).foldl _ fun t line ht => .ite (ht.resInstall ..) ?_
  split <;> exact ht

theorem blockRead (h : SStat w s) (pa n : Nat) (dma : Bool) : SStat w (s.blockRead pa n dma) := by
  unfold State.blockRead
  extract_lets lines held s1
  have h1 : SStat w s1 := h.foldl _ fun t line ht => ht.snoopRead line none
  clear_value s1
  exact .ite (.ite (h1.foldl _ fun t line ht => ht.touchRes line) (h1.foldl _ fun t line ht => ht.resInstall ..)) h

theorem blockWrite (h : SStat w s) (pa : Nat) (l : List Byte) (dma : Bool) : SStat w (s.blockWrite pa l dma) := by
  unfold State.blockWrite
  exact .ite (h.writeNormal ..) (h.writeThrough ..)

theorem imageWrite (h : SStat w s) (pa : Nat) (l : List Byte) : SStat w (s.imageWrite pa l) :=
  (h.blockWrite pa l false).syncDram pa l.length

theorem dramRead (h : SStat w s) (pa : Nat) (e : Ecc) (m acc : Nat) : SStat w (s.dramRead pa e m acc) := by
  have hcorrected : SStat w (s.dramCorrected pa m acc) := by
    unfold State.dramCorrected
    extract_lets s1 s2
    have h1 : SStat w s1 := h.bump above ..
    clear_value s1
    exact SStat.fault (s := s2) h1 ..
  have huncorr : SStat w (s.dramUncorr pa m acc) := ((h.bump above ..).spoilDram pa).fault ..
  unfold State.dramRead
  refine .ite h ?_
  cases e
  case ok => exact h
  case corrected => exact hcorrected
  case uncorrectable => exact huncorr

theorem ledgerPut (h : SStat w s) (i : Nat) (l : List Byte) : SStat w (s.ledgerPut i l) := h

theorem ledgerGet (h : SStat w s) (i : Nat) (e1 e2 : Ecc) (m : Nat) : SStatFst w (s.ledgerGet i e1 e2 m) := by
  unfold State.ledgerGet
  extract_lets p bad s1 q bad2 s2 s3
  have h1 : SStat w s1 := h.dramRead ..
  have h2 : SStat w s2 := h1.dramRead ..
  have h3 : SStat w s3 := SStat.bump (s := s2.rewriteFrom p q) h2 (by decide) ..
  exact .ite (.mk h1 _) (.ite (.mk (h2.fault ..) _) (.mk (h3.fault ..) _))

end SStat
end Sys2Proof.Machine
end

section
/-!
PROOFS. What keeps HWK_SSTAT, continued: the turn, links, records of the ledger, I/O translation.
-/

namespace Sys2Proof.Machine
open Sys2Proof Csr

namespace SStat
variable {w : Option Word} {s : State}

/-! The masters and the turn (R307-R315) -/

theorem setSlu (h : SStat w s) (b : Bool) (st : Nat) : SStat w (s.setSlu b st) := h.setF (by decide) ..

theorem putSlu (h : SStat w s) (b : Bool) (m : Sluice) : SStat w (s.putSlu b m) := by
  unfold State.putSlu
  exact .ite h h

theorem restartSwap (h : SStat w s) : SStat w s.restartSwap :=
  SStat.setF (s := { s with swapHc := 0, swapRetry := 0 }) h (by decide) ..

theorem turnChanged (h : SStat w s) : SStat w s.turnChanged := by
  have h0 : SStat w { s with turnChange := 0 } := h
  unfold State.turnChanged
  split
  · exact h
  · exact (h0.bump (by decide) ..).restartSwap
  · exact ((h0.bump (by decide) ..).setFs (by decide) _).restartSwap

theorem compute (h : SStat w s) (n : Nat) : SStat w (s.compute n) := by
  unfold State.compute
  exact h.foldl _ fun t b ht => ht.putSlu ..

theorem emit (h : SStat w s) (n : Nat) : SStat w (s.emit n) := by
  unfold State.emit
  split
  · exact ((h.compute _).setF (by decide) ..).turnChanged
  · exact h

theorem markHolding (h : SStat w s) : SStat w s.markHolding := by
  unfold State.markHolding
  exact h.foldl _ fun t l ht => .ite (ht.setF above ..) ht

/-! Links (R257-R290) -/

theorem setLink (h : SStat w s) (l : Nat) (k : Link) : SStat w (s.setLink l k) := h

theorem sendFrame (h : SStat w s) (l typ seq cls crcls : Nat) (p : List Byte) : SStat w (s.sendFrame l typ seq cls crcls p) := by
  unfold State.sendFrame
  extract_lets k ack f told s1
  have h1 : SStat w s1 := .ite (h.setLink ..) h
  clear_value s1
  exact h1

theorem sendNew (h : SStat w s) (l : Nat) (f : TxFrame) : SStat w (s.sendNew l f) := by
  unfold State.sendNew
  extract_lets k g used s1
  have h1 : SStat w s1 := h.setLink ..
  exact (h1.sendFrame ..).bump above ..

theorem sendReplay (h : SStat w s) (l : Nat) : SStat w (s.sendReplay l) := by
  unfold State.sendReplay
  extract_lets q s1
  have h1 : SStat w s1 := h.setLink ..
  exact h1.foldl _ fun t f ht => (ht.sendFrame ..).bump above ..

theorem leveeFault (h : SStat w s) (l : Nat) (m : List Byte) : SStat w (s.leveeFault l m) := h.fault ..

theorem pump (h : SStat w s) (l : Nat) : SStat w (s.pump l) := by
  unfold State.pump
  extract_lets s1 q s2
  have h2 : SStat w s2 := SStat.setLink (s := s1) (h.sendReplay l) ..
  clear_value s2
  refine .ite (h2.foldl _ fun t f ht => ?_) h
  exact .ite (.ite (ht.sendNew ..) (ht.leveeFault ..)) (ht.setLink ..)

theorem sendData (h : SStat w s) (l cls : Nat) (p : List Byte) : SStat w (s.sendData l cls p) := by
  have hqueued (f : Link → Link) : SStat w (s.modLink l f) := h.setLink ..
  exact (hqueued _).pump l

/-! Records (R291, R319) -/

theorem countFree (h : SStat w s) : SStat w s.countFree := by
  unfold State.countFree
  extract_lets n mark low was s1
  have h1 : SStat w s1 := h.setFs (by decide) _
  exact .ite (h1.fault0 ..) h1

theorem putRec (h : SStat w s) (i : Nat) (r : Rec) : SStat w (s.putRec i r) := by
  unfold State.putRec
  extract_lets t
  have ht : SStat w t := (h.emit 1).ledgerPut ..
  exact .ite ht ht.countFree

theorem altSync (h : SStat w s) (a : Nat) : SStat w (s.altSync a) := by
  unfold State.altSync
  exact .ite (h.imageWrite ..) h

theorem setQueued (h : SStat w s) (a n : Nat) : SStat w (s.setQueued a n) := by
  unfold State.setQueued
  extract_lets s1
  have h1 : SStat w s1 := h.setF above ..
  exact SStat.altSync (.ite (h1.setF above ..) h1) a

theorem syncRefs (h : SStat w s) (id : Nat) : SStat w (s.syncRefs id) := by
  unfold State.syncRefs
  exact .ite h (h.foldl _ fun t n ht => ht.setF above ..)

theorem syncCmp (h : SStat w s) : SStat w s.syncCmp := h.setFs (by decide) _

theorem takeSlot (h : SStat w s) (n : Nat) : SStatFst w (s.takeSlot n) := by
  have htaken (p : Table Nat) : SStat w { s with tailProd := p } := h
  unfold State.takeSlot
  exact .ite (.mk (htaken _) _) (.mk h _)

theorem withTailQueue (h : SStat w s) (q : List TailItem) : SStat w { s with tailQueue := q } := h

theorem pushKind (h : SStat w s) (n tseq st kind tag widx us d : Nat) :
    SStat w (s.pushKind n tseq st kind tag widx us d) := (h.takeSlot n).fst.withTailQueue _

theorem wipeBasin (h : SStat w s) (i : Nat) : SStat w (s.wipeBasin i) := by
  unfold State.wipeBasin
  split <;> exact h

theorem syncBasin (h : SStat w s) : SStat w s.syncBasin := h.setFs (by decide) _

theorem syncStage (h : SStat w s) : SStat w s.syncStage := (h.setF (by decide) ..).syncCmp

theorem dropWork (h : SStat w s) (i : Nat) : SStat w (s.dropWork i) := by
  unfold State.dropWork
  extract_lets s1
  have h1 : SStat w s1 := h
  clear_value s1
  exact (h1.wipeBasin i).syncBasin.syncStage

/-! Translation of I/O (R322-R345) -/

theorem siphonIrq (h : SStat w s) (a : Nat) : SStat w (s.siphonIrq a) := by
  unfold State.siphonIrq
  exact .ite (h.setLine ..) h

theorem siphonAppend (h : SStat w s) (a va reach : Nat) : SStat w (s.siphonAppend a va reach) := by
  unfold State.siphonAppend
  extract_lets slog p e s1 s2
  have h2 : SStat w s2 := ((h.blockWrite ..).setF above ..).altSync a
  clear_value s2
  exact .ite (.ite ((((h.bump above ..).setF above ..).altSync a).siphonIrq a) (.ite (h2.siphonIrq a) h2)) h

theorem ioFault (h : SStat w s) (a va m : Nat) (f : XFault) (k : AccKind) : SStat w (s.ioFault a va m f k) := by
  unfold State.ioFault
  extract_lets s1 s2
  have h1 : SStat w s1 := (h.wr above _).wr above _
  have h2 : SStat w s2 := (h1.bump above ..).altSync a
  exact .ite (h2.fault ..) h2

theorem ioDropClash (h : SStat w s) (a va e : Nat) (k : AccKind) : SStat w (s.ioDropClash a va e k) := by
  unfold State.ioDropClash
  exact .ite h h

theorem ioWalk (h : SStat w s) (a n va m : Nat) (k : AccKind) (fails : Nat) : SStatFst w (s.ioWalk a n va m k fails) := by
  unfold State.ioWalk
  split
  · exact .mk (SStat.ioFault (.ite (h.ioDropClash ..) h) ..) _
  · extract_lets new s1 s2 l t s3
    have h1 : SStat w s1 := .ite h (h.blockWrite ..)
    have h2 : SStat w s2 := .ite (h1.siphonAppend ..) h1
    clear_value s2
    have h3 : SStat w s3 := .ite h2 h2
    exact .ite (.mk ((h.ioDropClash ..).ioFault ..) _) (.mk h3 _)

theorem ioXlat (h : SStat w s) (a va m : Nat) (k : AccKind) : SStatFst w (s.ioXlat a va m k) := by
  have hfault (f : XFault) : SStatFst w (s.ioFault a va m f k, (none : Option Nat)) := .mk (h.ioFault ..) _
  unfold State.ioXlat State.ioXlatCas
  split
  · exact hfault _
  · refine .ite (.ite (.mk h _) (hfault _)) ?_
    split
    · exact h.ioWalk ..
    · exact .ite (h.ioWalk ..) (.ite (.mk h _) (hfault _))
    · exact SStat.ioWalk (s := { s with iotlb := s.iotlb.erase (ioSet va) }) h ..

theorem dmaRead (h : SStat w s) (m : Master) (a va n : Nat) : SStatFst w (s.dmaRead m a va n) := by
  unfold State.dmaRead
  refine (SStatFst.mk h _).foldl _ fun q x hq => ?_
  obtain ⟨t, l, bad⟩ := q
  have ht : SStat w t := hq.fst
  have hx := ht.ioXlat a x.1 (t.masterCode m) .read
  refine .ite (.mk ht _) ?_
  generalize t.ioXlat a x.1 (t.masterCode m) .read = r at hx ⊢
  obtain ⟨u, _ | pa⟩ := r
  · exact .mk hx.fst _
  · exact .ite (.mk (hx.fst.blockRead ..) _) (.mk (hx.fst.addrFault ..) _)

theorem stageRead (h : SStat w s) (i : Nat) : SStatFst w (s.stageRead i) := by
  unfold State.stageRead
  exact (SStatFst.mk h _).foldl _ fun q x hq => .ite (.mk hq.fst _) (.mk (hq.fst.blockRead ..) _)

end SStat
end Sys2Proof.Machine
end

section
/-!
PROOFS. What keeps HWK_SSTAT, continued: sessions, and what waits for the turn.
-/

namespace Sys2Proof.Machine
open Sys2Proof Csr

namespace SStat
variable {w : Option Word} {s : State}

/-! Sessions and their messages (R262-R306) -/

theorem syncSession (h : SStat w s) (n : Nat) : SStat w (s.syncSession n) := by
  unfold State.syncSession
  exact .ite ((h.emit 1).imageWrite ..) h

theorem putSession (h : SStat w s) (n : Nat) (k : Session) : SStat w (s.putSession n k) :=
  SStat.syncSession (s := { s with sessions := s.sessions.put n k }) h n

theorem syncGauges (h : SStat w s) (ls : List Nat) : SStat w (s.syncGauges ls) := by
  unfold State.syncGauges
  extract_lets s1
  have h1 : SStat w s1 := h.setF (by decide) ..
  exact h1.foldl _ fun t l ht => ht.setFs above _

theorem frameWork (h : SStat w s) (l : Nat) (m : List Byte) : SStat w (s.frameWork l m) := by
  unfold State.frameWork
  extract_lets s1
  have h1 : SStat w s1 := h.emit 1
  exact .ite (h1.sendData ..) (h1.leveeFault ..)

theorem frameFirst (h : SStat w s) (l : Nat) (ms : List (List Byte)) : SStat w (s.frameFirst l ms) := by
  unfold State.frameFirst
  extract_lets s1 s2 fs
  have h1 : SStat w s1 := h.emit _
  have h2 : SStat w s2 := h1.foldl _ fun t m ht => ht.leveeFault ..
  have hqueued (f : Link → Link) : SStat w (s2.modLink l f) := h2.setLink ..
  exact (hqueued _).pump l

theorem sesSend (h : SStat w s) (n l t tseq : Nat) (body : List Byte) : SStat w (s.sesSend n l t tseq body) := h.frameWork ..

theorem sendReset (h : SStat w s) (n l reason : Nat) : SStat w (s.sendReset n l reason) :=
  (h.sesSend ..).bump (by decide) ..

theorem drawn (h : SStat w s) : SStat w s.drawn := h

theorem sendOpen (h : SStat w s) (n l : Nat) : SStat w (s.sendOpen n l) := by
  unfold State.sendOpen
  extract_lets k isn s1
  have h1 : SStat w s1 := .ite h h.drawn
  exact h1.sesSend ..

theorem sendOpens (h : SStat w s) (n : Nat) : SStat w (s.sendOpens n) := by
  unfold State.sendOpens
  exact h.foldl _ fun t l ht => ht.sendOpen ..

theorem closeAdvance (h : SStat w s) (n : Nat) : SStat w (s.closeAdvance n) := by
  unfold State.closeAdvance
  extract_lets k s1
  have h1 : SStat w s1 := h.putSession ..
  refine .ite ?_ h
  split
  · exact h1.sendReset ..
  · exact h1

theorem endRec (h : SStat w s) (i st status us residual d wl : Nat) :
    SStat w (s.endRec i st status us residual d wl) := by
  unfold State.endRec
  extract_lets r k s1 s2
  have h1 : SStat w s1 := h.dropWork i
  have h2 : SStat w s2 := .ite (h1.setQueued ..) h1
  refine .ite ?_ h
  have hslot := h2.takeSlot r.session
  generalize s2.takeSlot r.session = p at hslot ⊢
  obtain ⟨s3, slot⟩ := p
  dsimp -zeta only
  extract_lets s4 s5 s6
  have h4 : SStat w s4 := hslot.fst.putRec ..
  have h5 : SStat w s5 := h4.withTailQueue _
  have h6 : SStat w s6 := (h5.bump (by decide) ..).syncRefs _
  exact (h6.syncSession _).closeAdvance _

theorem failAll (h : SStat w s) (n reason : Nat) : SStat w (s.failAll n reason) := by
  unfold State.failAll State.failRec
  exact h.foldl _ fun t i ht => ht.endRec ..

theorem refuseBells (h : SStat w s) (n : Nat) : SStat w (s.refuseBells n) := by
  unfold State.refuseBells
  extract_lets k s1
  have h1 : SStat w s1 := h.foldl _ fun t d ht => ht.pushKind ..
  exact h1.putSession ..

theorem endSes (h : SStat w s) (r : Nat) : SStat w (s.endSes r) := by
  have hdone := h.setFs (a := SES_CMDSTAT) (by decide) [(SES_CMDSTAT.BUSY, 0), (SES_CMDSTAT.DONE, 1), (SES_CMDSTAT.RESULT, r)]
  unfold State.endSes
  generalize s.setFs SES_CMDSTAT _ = t at hdone ⊢
  exact hdone

theorem closeSession (h : SStat w s) (n r : Nat) : SStat w (s.closeSession n r) := by
  unfold State.closeSession
  extract_lets k s1 s2
  have h1 : SStat w s1 := h.putSession ..
  have h2 : SStat w s2 := (h1.syncGauges _).syncRefs _
  exact .ite (h2.endSes r) h2

theorem breakSession (h : SStat w s) (n reason : Nat) : SStat w (s.breakSession n reason) := by
  unfold State.breakSession
  extract_lets s1 k s2 s3
  have h1 : SStat w s1 := h.failAll ..
  have h2 : SStat w s2 := h1.putSession ..
  have h3 : SStat w s3 := h2.pushKind ..
  exact ((h3.refuseBells n).syncGauges _).closeAdvance n

theorem resetSession (h : SStat w s) (n reason : Nat) : SStat w (s.resetSession n reason) := by
  unfold State.resetSession
  extract_lets k s1
  have h1 : SStat w s1 := h.breakSession ..
  refine .ite ?_ h
  split
  · exact h1.sendReset ..
  · exact h1.putSession ..

theorem ledgerLost (h : SStat w s) (i : Nat) (old : Rec) : SStat w (s.ledgerLost i old) := by
  unfold State.ledgerLost
  extract_lets s1 k s2 s3 s4
  have h1 : SStat w s1 := (h.emit 1).ledgerPut ..
  have h2 : SStat w s2 := h1.dropWork i
  have h3 : SStat w s3 := .ite (h2.setQueued ..) h2
  clear_value s3
  have h4 : SStat w s4 := h3
  clear_value s4
  exact .ite ((h4.countFree.syncRefs _).resetSession ..) h1

theorem holderRead (h : SStat w s) (i : Nat) (e1 e2 : Ecc) : SStatFst w (s.holderRead i e1 e2) := by
  have hread := (h.emit 1).ledgerGet i e1 e2 (s.masterCode .sluice)
  unfold State.holderRead
  generalize (s.emit 1).ledgerGet i e1 e2 (s.masterCode .sluice) = r at hread ⊢
  exact .ite (.mk (hread.fst.ledgerLost ..) _) (.mk hread.fst _)

theorem markBad (h : SStat w s) (i status d : Nat) : SStat w (s.markBad i status d) := by
  unfold State.markBad
  exact .ite h h

/-! Resending (R295-R297) -/

theorem wireData (h : SStat w s) (i l : Nat) : SStatFst w (s.wireData i l) := by
  unfold State.wireData
  extract_lets r k d1 d2
  have h1 : SStatFst w d1 := h.stageRead i
  have h2 : SStatFst w d2 := h.dmaRead ..
  have hplain : SStatFst w (if r.squeeze then (d1.1.markBad i d1.2.2 0, d1.2.1) else (d2.1.markBad i d2.2.2 0, d2.2.1)) :=
    .ite (.mk (h1.fst.markBad ..) _) (.mk (h2.fst.markBad ..) _)
  generalize (if r.squeeze then (d1.1.markBad i d1.2.2 0, d1.2.1) else (d2.1.markBad i d2.2.2 0, d2.2.1)) = p at hplain ⊢
  obtain ⟨t, plain⟩ := p
  have ht : SStat w t := hplain.fst
  exact .ite (.ite (.mk (ht.bump (by decide) ..) _) (.mk (ht.markBad ..) _)) hplain

theorem resendRec (h : SStat w s) (l i : Nat) : SStatFst w (s.resendRec l i) := by
  unfold State.resendRec
  extract_lets s1 r fresh data again s2 x s3 ended _ s4 s5
  have h1 : SStat w s1 := (h.holderRead ..).fst
  have h2 : SStat w s2 := h1.putRec ..
  clear_value s2
  have h3 : SStat w s3 := h2
  have h4 : SStat w s4 := h3
  clear_value s4
  have h5 : SStat w s5 := by
    unfold s5
    split
    · exact .ite h4 h4
    · exact h4
  have hwire : SStatFst w (if data then s5.wireData i l else (s5, [])) := .ite (h5.wireData ..) (.mk h5 _)
  refine .ite (.ite (.mk (h1.endRec ..) _) ?_) (.mk h1 _)
  generalize (if data then s5.wireData i l else (s5, [])) = p at hwire ⊢
  exact .mk hwire.fst _

theorem noteFloor (h : SStat w s) (n : Nat) : SStat w (s.noteFloor n) := h

theorem resendSession (h : SStat w s) (l n : Nat) : SStatFst w (s.resendSession l n) := by
  unfold State.resendSession
  extract_lets r
  have hr : SStatFst w r :=
    (SStatFst.mk h _).foldl _ fun q i hq => .ite (.mk (hq.fst.resendRec ..).fst _) (.mk hq.fst _)
  exact .mk (hr.fst.noteFloor n) _

theorem resumeOn (h : SStat w s) (l cause from_ : Nat) (ns : List Nat) : SStat w (s.resumeOn l cause from_ ns) := by
  unfold State.resumeOn
  extract_lets r ms resume
  have hr : SStatFst w r := (SStatFst.mk h _).foldl _ fun q n hq => .mk (hq.fst.resendSession ..).fst _
  exact (hr.fst.frameFirst ..).bump (by decide) ..

theorem failover (h : SStat w s) (from_ cause : Nat) (ns : List Nat) : SStat w (s.failover from_ cause ns) := by
  unfold State.failover
  extract_lets goes stays s1 s2 alts s3
  have h1 : SStat w s1 := h.foldl _ fun t n ht => ht.putSession ..
  have h2 : SStat w s2 := h1.foldl _ fun t nj ht => SStat.putSession (.ite ht (ht.bump above ..)) ..
  have h3 : SStat w s3 := h2.foldl _ fun t l ht => ht.resumeOn ..
  exact h3.syncGauges _

theorem revive (h : SStat w s) (l : Nat) : SStat w (s.revive l) := by
  unfold State.revive
  exact h.foldl _ fun t f ht => ht.failover ..

theorem dueResets (h : SStat w s) (l : Nat) : SStat w (s.dueResets l) := by
  have hdue : SStat w { s with coldDue := removeNat s.coldDue l } := h
  unfold State.dueResets
  extract_lets cold r
  have hr : SStatFst w r := by
    refine (SStatFst.mk hdue _).foldl _ fun q n hq => ?_
    dsimp only
    split
    · exact .mk (.ite ((hq.fst.putSession ..).breakSession ..) (hq.fst.putSession ..)) _
    · exact hq
  exact .ite hr.fst ((hr.fst.frameFirst ..).bump (by decide) ..)

theorem upMessages (h : SStat w s) (l : Nat) : SStat w (s.upMessages l) := by
  unfold State.upMessages
  extract_lets s1 s2 lost s3 own s4 s5
  have h1 : SStat w s1 := h.dueResets l
  have h2 : SStat w s2 := h1.foldl _ fun t n ht => .ite (ht.sendOpen ..) ht
  have h3 : SStat w s3 := h2.setLink ..
  clear_value s3
  have hdue : SStat w { s3 with warmDue := removeNat s3.warmDue l } := h3
  have h4 : SStat w s4 := .ite (hdue.resumeOn ..) (.ite (h3.resumeOn ..) h3)
  have h5 : SStat w s5 := .ite (h4.foldl _ fun t n ht => ht.putSession ..) h4
  exact (h5.revive l).syncGauges _

/-! Commands of SES that wait (R272) -/

theorem readDesc (h : SStat w s) (addr : Nat) : SStatFst w (s.readDesc addr) := by
  unfold State.readDesc
  extract_lets s1
  have h1 : SStat w s1 := h.emit 1
  exact .ite (.mk (h1.blockRead ..) _) (.mk (h1.addrFault ..) _)

theorem sesOpen (h : SStat w s) (n addr : Nat) : SStat w (s.sesOpen n addr) := by
  unfold State.sesOpen
  extract_lets old
  refine .ite (h.endSes 1) ?_
  have hread := h.readDesc addr
  generalize s.readDesc addr = p at hread ⊢
  obtain ⟨s1, _ | d⟩ := p
  · exact hread.fst.endSes 2
  · have h1 : SStat w s1 := hread.fst
    dsimp -zeta only
    extract_lets isn _ k s2 s3
    have h2 : SStat w s2 := .ite h1 h1
    clear_value s2
    have h3 : SStat w s3 := h2
    refine .ite (h1.endSes 2) (.ite (h1.endSes 3) (.ite (h1.endSes 4) ?_))
    exact (((h3.putSession ..).syncGauges _).syncRefs _).sendOpens n

theorem sesClose (h : SStat w s) (n : Nat) (force : Bool) : SStat w (s.sesClose n force) := by
  unfold State.sesClose
  extract_lets k s1 s2 _ s3
  have h1 : SStat w s1 := h
  have h2 : SStat w s2 := .ite (h1.failAll ..) h1
  have h3 : SStat w s3 := h2.putSession ..
  exact .ite (h.endSes 1) (.ite (h1.closeSession ..) (((h3.refuseBells n).syncGauges _).closeAdvance n))

theorem sesPaths (h : SStat w s) (n addr : Nat) : SStat w (s.sesPaths n addr) := by
  unfold State.sesPaths
  extract_lets k was
  refine .ite (h.endSes 1) ?_
  have hread := h.readDesc addr
  generalize s.readDesc addr = p at hread ⊢
  obtain ⟨s1, _ | d⟩ := p
  · exact hread.fst.endSes 2
  · have h1 : SStat w s1 := hread.fst
    dsimp -zeta only
    extract_lets v keeps v' s2 s3
    have h2 : SStat w s2 := h1.putSession ..
    have h3 : SStat w s3 := .ite h2 (h2.failover ..)
    exact .ite (h1.endSes 2) (.ite (h1.endSes 4) (((h3.syncGauges _).sendOpens n).endSes 0))

theorem sesRead (h : SStat w s) (n addr : Nat) : SStat w (s.sesRead n addr) := by
  unfold State.sesRead
  extract_lets s1
  have h1 : SStat w s1 := h.emit 1
  exact .ite ((h1.blockWrite ..).endSes 0) ((h1.addrFault ..).endSes 0)

theorem sesRun (h : SStat w s) (op n addr : Nat) : SStat w (s.sesRun op n addr) := by
  unfold State.sesRun
  refine .ite (h.endSes 8) (.ite (h.endSes 7) (.ite (h.endSes 9) (.ite h ?_)))
  split
  · exact h.sesOpen ..
  · exact h.sesClose ..
  · exact h.sesClose ..
  · exact h.sesPaths ..
  · exact h.sesRead ..
  · exact h.endSes 0

theorem sesResume (h : SStat w s) : SStat w s.sesResume := by
  unfold State.sesResume
  split
  · exact .ite (SStat.sesRun (s := { s with sesBusy := none, sesWait := false }) h ..) h
  · exact h

/-! What waits for a holder that acts (R297, R311, R317, R321) -/

theorem endByTend (h : SStat w s) (i : Nat) : SStat w (s.endByTend i) := by
  unfold State.endByTend
  extract_lets x r
  split
  · exact h
  · exact .ite (h.endRec ..) (.ite (h.endRec ..) (.ite (h.endRec ..) (h.drawn.endRec ..)))

theorem tryEnd (h : SStat w s) (i : Nat) : SStat w (s.tryEnd i) := by
  unfold State.tryEnd
  extract_lets x r
  split
  · exact h
  · exact .ite h (.ite (h.endByTend i) (.ite h (.ite (h.endByTend i) h)))

theorem runUpWait (h : SStat w s) : SStat w s.runUpWait := by
  unfold State.runUpWait
  exact SStat.foldl (s := { s with upWait := [] }) h _ fun t l ht => .ite ((ht.upMessages l).pump l) ht

theorem readRecord (h : SStat w s) (e1 e2 : Ecc) : SStat w (s.readRecord e1 e2) := by
  unfold State.readRecord
  extract_lets i bad r src words s1
  have hr : SStatFst w r := h.holderRead ..
  have h1 : SStat w s1 := hr.fst.foldl _ fun t n ht => ht.wr above _
  exact h1.setFs (by decide) _

theorem sluResume (h : SStat w s) : SStat w s.sluResume := by
  unfold State.sluResume
  extract_lets s1 s2
  have h1 : SStat w s1 := h.runUpWait.sesResume
  have h2 : SStat w s2 := h1.foldl _ fun t i ht => ht.tryEnd i
  exact .ite (.ite (h2.readRecord ..) h2) h

/-- A turn granted, HWK_SSTAT stands. -/
theorem grantTurn (h : SStat w s) (b : Bool) : SStat w (s.grantTurn b) := by
  unfold State.grantTurn
  extract_lets s1 s2 s3
  have h1 : SStat w s1 := h.setF (by decide) ..
  have h2 : SStat w s2 := .ite (h1.setSlu ..) h1
  have h3 : SStat w s3 := (h2.setSlu ..).setFs (by decide) _
  exact h3.markHolding.sluResume

end SStat
end Sys2Proof.Machine
end

section
/-!
PROOFS. What keeps HWK_SSTAT, continued: commands of the ciphers and allotments that wait, links enabled, islands that change.
-/

namespace Sys2Proof

variable {α : Type}

/-- A filter that takes every entry of a key leaves what the key reads. -/
theorem Table.find_filter (t : Table α) (p : Nat × α → Bool) (n : Nat) (h : ∀ v, p (n, v) = true) :
    Table.find (t.filter p) n = t.find n := by
  induction t with
  | nil => rfl
  | cons e t ih =>
    obtain ⟨k, v⟩ := e
    by_cases hk : k = n
    · subst hk
      rw [List.filter_cons_of_pos (h v), Table.find, Table.find, if_pos rfl, if_pos rfl]
    · rw [Table.find, if_neg hk, ← ih]
      by_cases hp : p (k, v) = true
      · rw [List.filter_cons_of_pos hp, Table.find, if_neg hk]
      · rw [List.filter_cons_of_neg hp]

/-- A filter that takes no entry of a key leaves it unlisted. -/
theorem Table.find_filter_none (t : Table α) (p : Nat × α → Bool) (n : Nat) (h : ∀ v, p (n, v) = false) :
    Table.find (t.filter p) n = none := by
  induction t with
  | nil => rfl
  | cons e t ih =>
    obtain ⟨k, v⟩ := e
    by_cases hp : p (k, v) = true
    · have hk : k ≠ n := fun hk => by rw [hk, h] at hp; cases hp
      rw [List.filter_cons_of_pos hp, Table.find, if_neg hk, ih]
    · rw [List.filter_cons_of_neg hp, ih]

end Sys2Proof

namespace Sys2Proof.Machine
open Sys2Proof Csr

namespace SStat
variable {w : Option Word} {s : State}

/-! A key load that waited (R346-R349) -/

theorem repaired (h : SStat w s) (kind unit : Nat) : SStat w (s.repaired kind unit) := by
  unfold State.repaired
  extract_lets s1
  have h1 : SStat w s1 := h
  exact .ite (h1.setFs (by decide) _) (h.fault0 ..)

theorem exhausted (h : SStat w s) : SStat w s.exhausted := h.fault0 ..

theorem withCisErrs (h : SStat w s) (t : Table Nat) : SStat w { s with cisErrs := t } := h

theorem cisCorrected (h : SStat w s) (b off m acc : Nat) : SStat w (s.cisCorrected b off m acc) := by
  unfold State.cisCorrected
  extract_lets key n s1 s2
  have h1 : SStat w s1 := h.fault ..
  have h2 : SStat w s2 := h1.withCisErrs _
  exact .ite (h1.withCisErrs _) (.ite ((h2.drop above ..).repaired ..) h2.exhausted)

theorem cisUncorr (h : SStat w s) (b off m acc : Nat) : SStat w (s.cisUncorr b off m acc) := by
  have hlost (t : State) (n : Nat) (ht : SStat w t) : SStat w (t.loseSlot n) := ht
  unfold State.cisUncorr
  exact .ite ((hlost _ _ (h.fault ..)).fault ..) ((h.setPoison _).fault ..)

theorem keyRead (h : SStat w s) (n : Nat) (e : Ecc) : SStat w (s.keyRead n e) := by
  unfold State.keyRead State.cisRead
  refine .ite (.ite h ?_) (h.addrFault ..)
  cases e
  case ok => exact h
  case corrected => exact h.cisCorrected ..
  case uncorrectable => exact h.cisUncorr ..

theorem endKey (h : SStat w s) (r : Nat) : SStat w (s.endKey r) := h.setFs (by decide) _

theorem keyLoad (h : SStat w s) (slot addr : Nat) (e : Ecc) : SStat w (s.keyLoad slot addr e) := by
  unfold State.keyLoad
  extract_lets w0 ksize n use s1
  have h1 : SStat w s1 := .ite h (h.keyRead ..)
  clear_value s1
  refine .ite (h.endKey _) (.ite ((h.keyRead ..).endKey _) (.ite (h.endKey _) (.ite (h.endKey _) (.ite ?_ (.ite (h.endKey _) ?_)))))
  · exact (h.addrFault ..).endKey _
  · split
    · exact h1.endKey _
    · split
      · exact (h1.bump (by decide) ..).endKey _
      · exact SStat.endKey (s := { s1 with slots := _ }) h1 _

theorem keyResume (h : SStat w s) : SStat w s.keyResume := by
  unfold State.keyResume
  split
  · exact SStat.keyLoad (s := { s with keyWait := none }) h ..
  · exact h

/-! A command of ALT that waited (R322-R331) -/

theorem ioInv (h : SStat w s) (p : TlbEnt → Bool) : SStat w (s.ioInv p) := h

theorem resetContext (h : SStat w s) (a : Nat) : SStat w (s.resetContext a) := by
  have hout : ¬ ALT_ASTAT a ≤ HWK_SSTAT := Nat.not_le.mpr above
  exact (Table.find_filter _ _ _ fun v => by simp [hout]).trans h

theorem setAllot (h : SStat w s) (a st : Nat) : SStat w (s.setAllot a st) := by
  have hactive {t : State} (ht : SStat w t) : SStat w t.syncActive := ht.setF (by decide) ..
  exact (hactive (h.setF above ..)).altSync a

theorem endAlt (h : SStat w s) (r : Nat) : SStat w (s.endAlt r) := h.setFs (by decide) _

theorem altCreate (h : SStat w s) (a arg : Nat) : SStat w (s.altCreate a arg) := by
  unfold State.altCreate
  extract_lets d v old s1 s2 s3 s4 s5
  have h1 : SStat w s1 := (h.resetContext a).ioInv _
  have h2 : SStat w s2 := h1.setFs above _
  have h3 : SStat w s3 := h2.setFs above _
  have h4 : SStat w s4 := h3.setFs above _
  have h5 : SStat w s5 := (h4.wr above _).wr above _
  exact .ite (h.endAlt 1) (.ite (h.endAlt 3) ((h5.setAllot ..).endAlt 0))

theorem freeJob (h : SStat w s) (slot : Nat) : SStat w (s.freeJob slot) := by
  unfold State.freeJob
  split
  · exact h
  · extract_lets s1
    have h1 : SStat w s1 := h
    clear_value s1
    exact (h1.drop above ..).syncCmp.syncRefs _

theorem altDestroy (h : SStat w s) (a : Nat) : SStat w (s.altDestroy a) := by
  unfold State.altDestroy
  extract_lets s1 s2
  have h1 : SStat w s1 := h.foldl _ fun t slot ht => ht.freeJob slot
  have h2 : SStat w s2 := (h1.resetContext a).ioInv _
  exact .ite (h.endAlt 1) (.ite (h.endAlt 4) ((h2.setAllot ..).endAlt 0))

theorem withQuiescing (h : SStat w s) (q : Option Nat) : SStat w { s with quiescing := q } := h

theorem altRun (h : SStat w s) (op a arg : Nat) : SStat w (s.altRun op a arg) := by
  unfold State.altRun
  refine .ite h (.ite (h.endAlt 6) (.ite (h.endAlt 2) ?_))
  split
  · exact .ite (h.endAlt 5) (h.altCreate ..)
  · exact .ite (h.endAlt 1) ((h.setAllot ..).withQuiescing _)
  · exact .ite (h.endAlt 1) ((h.setAllot ..).endAlt 0)
  · exact h.altDestroy a
  · exact (h.ioInv _).endAlt 0
  · exact (h.ioInv _).endAlt 0
  · exact SStat.endAlt (s := { s with iotlb := [] }) h 0
  · exact h.endAlt 0

theorem altResume (h : SStat w s) : SStat w s.altResume := by
  unfold State.altResume
  split
  · exact SStat.altRun (s := { s with altWait := none }) h ..
  · exact h

/-! Links enabled (R413, R451) -/

theorem enterAN (h : SStat w s) (l : Nat) : SStat w (s.enterAN l) := by
  have hentered : SStat w (s.enterLink l lsAN) := by
    unfold State.enterLink
    exact .ite h (h.setFs above _)
  exact hentered.bump (above_LNK_PCNT _) ..

theorem takeSpare (h : SStat w s) (l k : Nat) : SStat w (s.takeSpare l k) := by
  unfold State.takeSpare
  extract_lets s1 s2 s3
  have h1 : SStat w s1 := (h.setF (above_LNK_PSTAT _) ..).setFs (above_LNK_PSTAT _) _
  have h2 : SStat w s2 := h1.setF (above_LNK_PSTAT _) ..
  have h3 : SStat w s3 := h2.setF above ..
  exact (h3.drop (by decide) ..).repaired ..

theorem linkEnable (h : SStat w s) (l : Nat) : SStat w (s.linkEnable l) := by
  unfold State.linkEnable
  extract_lets s1
  have h1 : SStat w s1 := h.setF above ..
  exact .ite (h1.enterAN l) h1

theorem serveFailed (h : SStat w s) (k : Nat) : SStat w (s.serveFailed k) := by
  unfold State.serveFailed State.substituteLink
  split
  · split
    · exact ((h.takeSpare ..).setF above ..).enterAN _
    · exact h.exhausted
  · exact h

theorem lanesBegin (h : SStat w s) : SStat w s.lanesBegin := by
  unfold State.lanesBegin
  extract_lets s1
  have h1 : SStat w s1 := h.foldl _ fun t l ht => ht.enterAN l
  exact h1.foldl _ fun t k ht => ht.serveFailed k

/-! Islands that change (R380-R386) -/

theorem clkPhase (h : SStat w s) (i : Nat) (c : IslandChange) (p : ClkPhase) : SStat w (s.clkPhase i c p) := h

theorem clkRamp (h : SStat w s) (i : Nat) (c : IslandChange) : SStat w (s.clkRamp i c) := by
  have hfinish (st r : Nat) : SStat w (s.clkFinish i st r) := by
    unfold State.clkFinish
    extract_lets s1 s2
    have h1 : SStat w s1 := h
    have h2 : SStat w s2 := h1.setFs above _
    exact .ite (h2.bump above ..) h2
  unfold State.clkRamp
  exact .ite (hfinish ..) ((h.setF above ..).clkPhase ..)

theorem islandFlush (h : SStat w s) (i target : Nat) : SStat w (s.islandFlush i target) := by
  have hflush {t : State} (ht : SStat w t) (c : Nat) : SStat w (t.flushToRes c) := by
    have hcore {u : State} (hu : SStat w u) (f : Core → Core) : SStat w (u.modCore c f) := hu
    unfold State.flushToRes
    extract_lets k lines t1
    have h1 : SStat w t1 := ht.foldl _ fun u l hu => hu.resInstall ..
    exact hcore h1 _
  unfold State.islandFlush
  extract_lets cs s1
  have h1 : SStat w s1 := h
  exact .ite (.ite (h1.foldl _ fun t c ht => hflush ht c) h1) (.ite h.cleanReservoir h)

theorem withClkFreq (h : SStat w s) (t : Table Nat) : SStat w { s with clkFreq := t } := h

theorem clkBottom (h : SStat w s) (i : Nat) (c : IslandChange) : SStat w (s.clkBottom i c) := by
  have hdrain : SStat w (s.clkDrain i c) := ((h.islandFlush ..).setF above ..).clkPhase ..
  unfold State.clkBottom
  extract_lets s1
  have h1 : SStat w s1 := h.setF above ..
  exact .ite hdrain (.ite (((h1.setF above ..).withClkFreq _).clkPhase ..) (.ite (h1.clkPhase ..) (h1.clkRamp ..)))

theorem clkBegin (h : SStat w s) (i : Nat) (c : IslandChange) : SStat w (s.clkBegin i c) := by
  unfold State.clkBegin
  exact .ite ((h.setF above ..).clkPhase ..)
    (.ite (h.clkRamp ..) (.ite (h.clkBottom ..) ((h.setF above ..).clkPhase ..)))

theorem withStaggerOn (h : SStat w s) (o : Option Nat) : SStat w { s with staggerOn := o } := h

theorem withClkWait (h : SStat w s) (l : List Nat) : SStat w { s with clkWait := l } := h

theorem clkStart (h : SStat w s) (i : Nat) (c : IslandChange) : SStat w (s.clkStart i c) := by
  unfold State.clkStart
  extract_lets s1 still
  have h1 : SStat w s1 := h.setF above ..
  exact .ite (h1.clkBegin ..)
    (.ite ((h1.withStaggerOn _).clkBegin ..) (((h1.setF above ..).withClkWait _).clkPhase ..))

theorem toFull (h : SStat w s) (i : Nat) : SStat w (s.toFull i) := by
  unfold State.toFull
  extract_lets s1
  have h1 : SStat w s1 := h
  exact .ite h (h1.clkStart ..)

end SStat
end Sys2Proof.Machine
end

section
/-!
PROOFS. What begins a start: the pins, the requests, a failed start.
-/

namespace Sys2Proof

/-- A field where a mask takes one word's bits reads as in that word. -/
theorem Fld.get_merge (f : Fld) (x y m : Word) (h : ∀ i < f.w, m.getLsbD (f.lo + i) = true) :
    f.get ((x &&& m) ||| (y &&& ~~~m)) = f.get x := by
  apply Nat.eq_of_testBit_eq
  intro i
  rw [Fld.get_testBit, Fld.get_testBit]
  by_cases hi : i < f.w
  · simp [h i hi]
  · simp [hi]

/-- A field where a mask takes none of one word's bits reads as in the other. -/
theorem Fld.get_merge_out (f : Fld) (x y m : Word) (hw : f.lo + f.w ≤ 64) (h : ∀ i < f.w, m.getLsbD (f.lo + i) = false) :
    f.get ((x &&& m) ||| (y &&& ~~~m)) = f.get y := by
  apply Nat.eq_of_testBit_eq
  intro i
  rw [Fld.get_testBit, Fld.get_testBit]
  by_cases hi : i < f.w
  · have hlt : f.lo + i < 64 := by omega
    have hm := h i hi
    rw [BitVec.getLsbD_eq_getElem hlt] at hm
    simp [hm, hlt]
  · simp [hi]

variable {α β : Type}

section
variable {f : Nat × α → Option (Nat × β)} (hkey : ∀ e e', f e = some e' → e'.1 = e.1) {n : Nat}
include hkey

/-- A key listed, and kept by a map that keeps keys, is listed with what the map makes of its entry. -/
theorem Table.find_filterMap_some {v : α} {v' : β} (hf : f (n, v) = some (n, v')) (t : Table α) (hv : t.find n = some v) :
    Table.find (t.filterMap f) n = some v' := by
  induction t with
  | nil => cases hv
  | cons e t ih =>
    obtain ⟨k, x⟩ := e
    by_cases hk : k = n
    · subst hk
      rw [Table.find, if_pos rfl, Option.some.injEq] at hv
      rw [hv, List.filterMap_cons_some hf, Table.find, if_pos rfl]
    · rw [Table.find, if_neg hk] at hv
      cases he : f (k, x) with
      | none => rw [List.filterMap_cons_none he, ih hv]
      | some e' => rw [List.filterMap_cons_some he, Table.find, if_neg (hkey _ _ he ▸ hk), ih hv]

/-- A key unlisted stays so. -/
theorem Table.find_filterMap_none (t : Table α) (hn : t.find n = none) : Table.find (t.filterMap f) n = none := by
  induction t with
  | nil => rfl
  | cons e t ih =>
    obtain ⟨k, x⟩ := e
    rw [Table.find] at hn
    split at hn
    · cases hn
    · next hk =>
      cases he : f (k, x) with
      | none => rw [List.filterMap_cons_none he, ih hn]
      | some e' => rw [List.filterMap_cons_some he, Table.find, if_neg (hkey _ _ he ▸ hk), ih hn]

/-- What a key is listed with, the map has made of one of its entries. -/
theorem Table.of_find_filterMap (t : Table α) {v' : β} (h : Table.find (t.filterMap f) n = some v') :
    ∃ v, f (n, v) = some (n, v') := by
  induction t with
  | nil => cases h
  | cons e t ih =>
    obtain ⟨k, x⟩ := e
    cases he : f (k, x) with
    | none => exact ih (List.filterMap_cons_none he ▸ h)
    | some e' =>
      obtain ⟨k', x'⟩ := e'
      obtain rfl : k' = k := hkey _ _ he
      rw [List.filterMap_cons_some he, Table.find] at h
      split at h
      · next hk =>
        cases h
        exact ⟨x, hk ▸ he⟩
      · exact ih h

end

end Sys2Proof

namespace Sys2Proof.Machine
open Sys2Proof Csr

theorem csrReset_HWK_SSTAT : csrReset HWK_SSTAT = 0xFF000000 := by decide
theorem csrReset_FLT_STATUS : csrReset FLT_STATUS = 0 := by decide

end Sys2Proof.Machine
end

section
/-!
PROOFS. HWK_SSTAT read and written, PHASE set, and registers written above the collector's.
-/

namespace Sys2Proof.Machine
open Sys2Proof Csr

/-! HWK_SSTAT -/

/-- With HWK_SSTAT listed alike, its fields read alike. -/
theorem SStat.fld_eq {s t : State} (h : SStat (s.csr.find HWK_SSTAT) t) (f : Fld) : t.fld HWK_SSTAT f = s.fld HWK_SSTAT f := by
  have hrd : t.rd HWK_SSTAT = s.rd HWK_SSTAT := congrArg (Option.getD · _) h
  exact congrArg f.get hrd

theorem SStat.self (s : State) : SStat (s.csr.find HWK_SSTAT) s := rfl

/-- A register listed alike reads alike. -/
theorem State.rd_of_find {s t : State} {a : Nat} (h : t.csr.find a = s.csr.find a) : t.rd a = s.rd a :=
  congrArg (Option.getD · _) h

theorem State.fld_of_find {s t : State} {a : Nat} (h : t.csr.find a = s.csr.find a) (f : Fld) : t.fld a f = s.fld a f :=
  congrArg f.get (State.rd_of_find h)

theorem State.find_setF_ne (s : State) {a b : Nat} (f : Fld) (v : Nat) (h : a ≠ b) : (s.setF b f v).csr.find a = s.csr.find a :=
  Table.find_put_ne _ _ _ _ h

theorem State.find_setFs_ne (s : State) {a b : Nat} (l : List (Fld × Nat)) (h : a ≠ b) :
    (s.setFs b l).csr.find a = s.csr.find a := Table.find_put_ne _ _ _ _ h

theorem State.fld_setFs (s : State) (a : Nat) (l : List (Fld × Nat)) (f : Fld) :
    (s.setFs a l).fld a f = f.get (l.foldl (fun w e => e.1.set w e.2) (s.rd a)) := State.fld_wr_self ..

/-! PHASE set (R418, R434) -/

/-- The same state but for registers and what the host is told. -/
def Tells (s t : State) : Prop :=
  ∃ csr out noticed held, t = { s with csr := csr, out := out, noticed := noticed, noticeHeld := held }

theorem Tells.wr (s : State) (a : Nat) (v : Word) : Tells s (s.wr a v) := ⟨_, _, _, _, rfl⟩

theorem Tells.notice {s t : State} (h : Tells s t) (code : Nat) (p : List Byte) : Tells s (t.notice code p) := by
  obtain ⟨csr, out, noticed, held, rfl⟩ := h
  unfold State.notice
  split
  · exact ⟨_, _, _, _, rfl⟩
  · split
    · exact ⟨_, _, _, _, rfl⟩
    · split <;> exact ⟨_, _, _, _, rfl⟩

/-- A change of PHASE leaves the rest of the module. -/
theorem State.setPhase_tells (s : State) (p : Nat) : Tells s (s.setPhase p) := by
  unfold State.setPhase
  split
  · exact ⟨_, _, _, _, rfl⟩
  · exact (Tells.wr s HWK_SSTAT _).notice ..

theorem State.notice_csr (s : State) (code : Nat) (p : List Byte) : (s.notice code p).csr = s.csr := by
  unfold State.notice
  split
  · rfl
  · split
    · rfl
    · split <;> rfl

theorem State.fld_notice (s : State) (code : Nat) (p : List Byte) (a : Nat) (f : Fld) : (s.notice code p).fld a f = s.fld a f :=
  State.fld_of_find (by rw [State.notice_csr]) f

/-- A change of PHASE writes HWK_SSTAT alone. -/
theorem State.setPhase_find (s : State) (p : Nat) {a : Nat} (ha : a ≠ HWK_SSTAT) : (s.setPhase p).csr.find a = s.csr.find a := by
  unfold State.setPhase
  split
  · rfl
  · rw [State.notice_csr]
    exact s.find_setF_ne _ _ ha

theorem State.setPhase_phase (s : State) (p : Nat) (hp : p < 8) : (s.setPhase p).fld HWK_SSTAT HWK_SSTAT.PHASE = p := by
  unfold State.setPhase
  split
  · assumption
  · rw [State.fld_notice, State.fld_setF _ _ _ _ (by decide)]
    exact Nat.mod_eq_of_lt hp

/-- A field of HWK_SSTAT beside PHASE stays. -/
theorem State.setPhase_fld (s : State) (p : Nat) (f : Fld) (hf : 3 ≤ f.lo) :
    (s.setPhase p).fld HWK_SSTAT f = s.fld HWK_SSTAT f := by
  unfold State.setPhase
  split
  · rfl
  · rw [State.fld_notice]
    exact s.fld_setF_apart _ _ _ _ (.inr hf)

/-! Registers written above FLT_STATUS -/

/-- The same state but for registers above FLT_STATUS. -/
structure Wrote (s t : State) : Prop where
  same : t = { s with csr := t.csr }
  find : ∀ a ≤ FLT_STATUS, t.csr.find a = s.csr.find a

namespace Wrote
variable {s t : State}

theorem refl (s : State) : Wrote s s := ⟨rfl, fun _ _ => rfl⟩

theorem wr (h : Wrote s t) {b : Nat} (hb : FLT_STATUS < b) (v : Word) : Wrote s (t.wr b v) :=
  ⟨congrArg (fun u => State.wr u b v) h.same,
    fun a ha => (Table.find_put_ne _ _ _ _ (Nat.lt_of_le_of_lt ha hb).ne).trans (h.find a ha)⟩

theorem setF (h : Wrote s t) {b : Nat} (hb : FLT_STATUS < b) (f : Fld) (v : Nat) : Wrote s (t.setF b f v) := h.wr hb _

theorem setFs (h : Wrote s t) {b : Nat} (hb : FLT_STATUS < b) (l : List (Fld × Nat)) : Wrote s (t.setFs b l) := h.wr hb _

theorem foldl {α : Type} {f : State → α → State} (h : Wrote s t) (l : List α) (hf : ∀ t x, Wrote s t → Wrote s (f t x)) :
    Wrote s (l.foldl f t) :=
  List.foldlRecOn l f h fun t ht x _ => hf t x ht

end Wrote

end Sys2Proof.Machine
end

section
/-!
PROOFS. What a start begins with (R399, R407, R409).
-/

namespace Sys2Proof.Machine
open Sys2Proof Csr

/-! The registers as a start leaves them (R409, R418) -/

/-- The bits of a register that a start leaves as they stand. -/
def startKept (warm : Bool) (a : Nat) : Word :=
  match findReg a with
  | some (r, _) => startMask warm r.name
  | none => 0

/-- What a start makes of one listed register. -/
def startEntry (warm : Bool) (e : Nat × Word) : Option (Nat × Word) :=
  let v := (e.2 &&& startKept warm e.1) ||| (csrReset e.1 &&& ~~~ startKept warm e.1)
  if v = csrReset e.1 then none else some (e.1, v)

theorem State.startCsr_eq (s : State) (warm : Bool) : s.startCsr warm = s.csr.filterMap (startEntry warm) := rfl

theorem startEntry_key (warm : Bool) (e e' : Nat × Word) (h : startEntry warm e = some e') : e'.1 = e.1 := by
  unfold startEntry at h
  extract_lets v at h
  split at h
  · cases h
  · cases h
    rfl

/-- An unlisted register stays so. -/
theorem State.startCsr_find_none (s : State) (warm : Bool) {a : Nat} (h : s.csr.find a = none) :
    Table.find (s.startCsr warm) a = none :=
  Table.find_filterMap_none (startEntry_key warm) _ h

/-- HWK_SSTAT as a start leaves it: the codes and counts of failed starts stay. -/
def startSStat (v : Word) : Word := (v &&& 0xFFF00) ||| (0xFF000000 &&& ~~~ 0xFFF00)

theorem startKept_HWK_SSTAT (warm : Bool) : startKept warm HWK_SSTAT = 0xFFF00 := by
  cases warm <;> rfl

theorem startEntry_HWK_SSTAT (warm : Bool) (v : Word) : startEntry warm (HWK_SSTAT, v) =
    if startSStat v = 0xFF000000 then none else some (HWK_SSTAT, startSStat v) := by
  unfold startEntry startSStat
  dsimp only
  rw [startKept_HWK_SSTAT, csrReset_HWK_SSTAT]

/-- A start begins in PHASE STARTING. -/
theorem SStat.startCsr_phase {w : Option Word} {s t : State} (warm : Bool) (h : SStat w t)
    (hw : Table.find (s.startCsr warm) HWK_SSTAT = w) : t.fld HWK_SSTAT HWK_SSTAT.PHASE = 0 := by
  unfold State.fld State.rd
  rw [h, csrReset_HWK_SSTAT]
  cases w with
  | none => rfl
  | some v =>
    obtain ⟨x, hx⟩ := Table.of_find_filterMap (startEntry_key warm) _ hw
    rw [startEntry_HWK_SSTAT] at hx
    split at hx
    · cases hx
    · cases hx
      exact Fld.get_merge_out _ _ _ _ (by decide) (by decide)

/-- A code of a failed start, and its step, stay as the next start begins. -/
theorem SStat.startCsr_failed {s t : State} (warm : Bool) (h : SStat (Table.find (s.startCsr warm) HWK_SSTAT) t)
    (hfail : s.fld HWK_SSTAT HWK_SSTAT.LASTFAIL ≠ 0) {f : Fld} (hf : f = HWK_SSTAT.LASTFAIL ∨ f = HWK_SSTAT.FAILSTEP) :
    t.fld HWK_SSTAT f = s.fld HWK_SSTAT f := by
  unfold State.fld State.rd at hfail ⊢
  rw [h]
  cases hv : s.csr.find HWK_SSTAT with
  | none =>
    rw [hv, csrReset_HWK_SSTAT] at hfail
    exact absurd rfl hfail
  | some v =>
    rw [hv] at hfail
    have hlast : HWK_SSTAT.LASTFAIL.get (startSStat v) = HWK_SSTAT.LASTFAIL.get v := Fld.get_merge _ _ _ _ (by decide)
    have hstep : HWK_SSTAT.FAILSTEP.get (startSStat v) = HWK_SSTAT.FAILSTEP.get v := Fld.get_merge _ _ _ _ (by decide)
    have hlisted : startSStat v ≠ 0xFF000000 := fun e => hfail (hlast.symm.trans (e ▸ rfl))
    have hentry : startEntry warm (HWK_SSTAT, v) = some (HWK_SSTAT, startSStat v) := by
      rw [startEntry_HWK_SSTAT, if_neg hlisted]
    rw [State.startCsr_eq, Table.find_filterMap_some (startEntry_key warm) hentry _ hv]
    obtain rfl | rfl := hf
    · exact hlast
    · exact hstep

/-! The state in which a start has begun (R399, R407 steps 1 and 2) -/

/-- A start has begun from a state. -/
structure Begun (warm forced : Bool) (s t : State) : Prop where
  inReset : t.inReset = false
  fallow : t.fallow = false
  lanesIdle : t.lanesIdle = true
  startStage : t.startStage = .begun
  cores : t.cores = []
  sessions : t.sessions = []
  live : t.live = []
  iotlb : t.iotlb = []
  kind : t.fld HWK_SSTAT HWK_SSTAT.KIND = b2n warm
  phase : t.fld HWK_SSTAT HWK_SSTAT.PHASE = 0
  forced : t.fld HWK_SSTAT HWK_SSTAT.FORCED = b2n forced
  slots : t.slots = if warm then s.slots else []
  mem : s.dram = [] → t.mem = s.mem
  pins : t.prst = s.prst ∧ t.pwrLow = s.pwrLow ∧ t.vinLow = s.vinLow
  unlisted : ∀ a ≤ FLT_STATUS, a ≠ HWK_SSTAT → s.csr.find a = none → t.csr.find a = none
  failed : s.fld HWK_SSTAT HWK_SSTAT.LASTFAIL ≠ 0 → ∀ f, f = HWK_SSTAT.LASTFAIL ∨ f = HWK_SSTAT.FAILSTEP →
    t.fld HWK_SSTAT f = s.fld HWK_SSTAT f

/-- The identity of a start in HWK_SSTAT, as it is written. -/
theorem State.setFs_kind (s : State) (warm forced : Bool) (m : Nat) :
    let t := s.setFs HWK_SSTAT [(HWK_SSTAT.KIND, b2n warm), (HWK_SSTAT.FORCED, b2n forced), (HWK_SSTAT.BASEMASK, m)]
    t.fld HWK_SSTAT HWK_SSTAT.KIND = b2n warm ∧ t.fld HWK_SSTAT HWK_SSTAT.FORCED = b2n forced
      ∧ ∀ f : Fld, f = HWK_SSTAT.PHASE ∨ f = HWK_SSTAT.LASTFAIL ∨ f = HWK_SSTAT.FAILSTEP →
        t.fld HWK_SSTAT f = s.fld HWK_SSTAT f := by
  intro t
  have hread (f : Fld) : t.fld HWK_SSTAT f =
      f.get (HWK_SSTAT.BASEMASK.set (HWK_SSTAT.FORCED.set (HWK_SSTAT.KIND.set (s.rd HWK_SSTAT) (b2n warm)) (b2n forced)) m) :=
    State.fld_setFs ..
  refine ⟨?_, ?_, fun f hf => ?_⟩
  · rw [hread, Fld.get_set_apart _ _ _ _ (by decide), Fld.get_set_apart _ _ _ _ (by decide), Fld.get_set _ _ _ (by decide)]
    cases warm <;> rfl
  · rw [hread, Fld.get_set_apart _ _ _ _ (by decide), Fld.get_set _ _ _ (by decide)]
    cases forced <;> rfl
  · have hapart (g : Fld) (hg : g = HWK_SSTAT.KIND ∨ g = HWK_SSTAT.FORCED ∨ g = HWK_SSTAT.BASEMASK) :
        f.lo + f.w ≤ g.lo ∨ g.lo + g.w ≤ f.lo := by
      obtain rfl | rfl | rfl := hf <;> obtain rfl | rfl | rfl := hg <;> decide
    rw [hread, Fld.get_set_apart _ _ _ _ (hapart _ (by simp)), Fld.get_set_apart _ _ _ _ (hapart _ (by simp)),
      Fld.get_set_apart _ _ _ _ (hapart _ (by simp))]
    rfl

/-- What is written above FLT_STATUS once a start has begun takes nothing of that back. -/
theorem Begun.wrote {warm forced : Bool} {s t u : State} (h : Begun warm forced s t) (hu : Wrote t u) : Begun warm forced s u := by
  have hfld (f : Fld) : u.fld HWK_SSTAT f = t.fld HWK_SSTAT f := State.fld_of_find (hu.find _ (by decide)) f
  obtain ⟨hsame, hfind⟩ := hu
  exact {
    inReset := (congrArg State.inReset hsame).trans h.inReset
    fallow := (congrArg State.fallow hsame).trans h.fallow
    lanesIdle := (congrArg State.lanesIdle hsame).trans h.lanesIdle
    startStage := (congrArg State.startStage hsame).trans h.startStage
    cores := (congrArg State.cores hsame).trans h.cores
    sessions := (congrArg State.sessions hsame).trans h.sessions
    live := (congrArg State.live hsame).trans h.live
    iotlb := (congrArg State.iotlb hsame).trans h.iotlb
    kind := (hfld _).trans h.kind
    phase := (hfld _).trans h.phase
    forced := (hfld _).trans h.forced
    slots := (congrArg State.slots hsame).trans h.slots
    mem := fun hd => (congrArg State.mem hsame).trans (h.mem hd)
    pins := ⟨(congrArg State.prst hsame).trans h.pins.1, (congrArg State.pwrLow hsame).trans h.pins.2.1,
      (congrArg State.vinLow hsame).trans h.pins.2.2⟩
    unlisted := fun a ha hne hn => (hfind a ha).trans (h.unlisted a ha hne hn)
    failed := fun hf f hff => (hfld f).trans (h.failed hf f hff) }

/-- An indexed register lies above FLT_STATUS where the first of its kind does. -/
theorem aboveCollector {base k : Nat} (h : FLT_STATUS < base := by decide) : FLT_STATUS < base + k := Nat.lt_add_right _ h

/-- What a warm start writes once it has begun lies above FLT_STATUS. -/
theorem Wrote.warmBegin (s : State) (roles : List (Nat × Nat)) :
    let s1 := roles.foldl (fun s r => s.setRole r.1 r.2) s
    let s2 := (List.range 8).foldl (fun s n => s.setF (DRM_SSTAT n) DRM_SSTAT.STATE 1) s1
    let s3 := [8, 9].foldl (fun s b => s.setCis b cisRunning) s2
    Wrote s (s3.setF SES_STAT SES_STAT.RUNNING (s3.fld SES_CFG SES_CFG.RUN)).syncCmp := by
  intro s1 s2 s3
  have h1 : Wrote s s1 := (refl s).foldl _ fun t r ht => ht.setF aboveCollector ..
  have h2 : Wrote s s2 := h1.foldl _ fun t n ht => ht.setF aboveCollector ..
  have h3 : Wrote s s3 := h2.foldl _ fun t b ht => ht.setF aboveCollector ..
  exact (h3.setF (by decide) _ _).setFs (by decide) _

/-- A start begins (R399, R407). -/
theorem State.beginStart_begun (s : State) (warm forced : Bool) : Begun warm forced s (s.beginStart warm forced) := by
  have htells : Tells s (s.setPhase 0) := s.setPhase_tells 0
  have hfind (a : Nat) (ha : a ≠ HWK_SSTAT) : (s.setPhase 0).csr.find a = s.csr.find a := s.setPhase_find 0 ha
  have hfail (f : Fld) (hf : 3 ≤ f.lo) : (s.setPhase 0).fld HWK_SSTAT f = s.fld HWK_SSTAT f := s.setPhase_fld 0 f hf
  unfold State.beginStart
  generalize s.setPhase 0 = s0 at htells hfind hfail ⊢
  extract_lets s1 roles _ s3 s4 s5 s6 s7 s8
  have hsame : s1.slots = s.slots ∧ (s.dram = [] → s1.mem = s.mem)
      ∧ s1.prst = s.prst ∧ s1.pwrLow = s.pwrLow ∧ s1.vinLow = s.vinLow := by
    obtain ⟨csr, out, noticed, held, rfl⟩ := htells
    refine ⟨rfl, fun hd => ?_, rfl, rfl, rfl⟩
    unfold s1 State.loseDirty
    dsimp only
    rw [hd]
    rfl
  have hcsr : s1.csr = s0.csr := rfl
  obtain ⟨hslots, hmem, hpins⟩ := hsame
  clear_value s1
  have hfind1 (a : Nat) (ha : a ≠ HWK_SSTAT) : s1.csr.find a = s.csr.find a := hcsr ▸ hfind a ha
  have hfail1 (f : Fld) (hf : 3 ≤ f.lo) : s1.fld HWK_SSTAT f = s.fld HWK_SSTAT f :=
    (State.fld_of_find (hcsr ▸ rfl) f).trans (hfail f hf)
  have h3 : SStat (Table.find (s1.startCsr warm) HWK_SSTAT) s3 := rfl
  obtain ⟨hkind, hforced, hother⟩ := s3.setFs_kind warm forced (if warm = true then 0 else 255)
  have h4 : Begun warm forced s s4 := {
    inReset := rfl
    fallow := rfl
    lanesIdle := rfl
    startStage := rfl
    cores := rfl
    sessions := rfl
    live := rfl
    iotlb := rfl
    kind := hkind
    phase := (hother _ (by simp)).trans (h3.startCsr_phase warm rfl)
    forced := hforced
    slots := hslots ▸ rfl
    mem := hmem
    pins := hpins
    unlisted := fun a _ hne hn => (s3.find_setFs_ne _ hne).trans (s1.startCsr_find_none warm ((hfind1 a hne).trans hn))
    failed := fun hf f hff => by
      have hlo : 3 ≤ f.lo := by obtain rfl | rfl := hff <;> decide
      rw [← hfail1 _ (by decide)] at hf
      exact ((hother f (.inr hff)).trans (h3.startCsr_failed warm hf hff)).trans (hfail1 f hlo) }
  clear_value s4
  have h5 : Begun warm forced s s5 := h4.wrote ((Wrote.refl s4).setF (by decide) _ _)
  cases warm with
  | false => exact h5
  | true => exact h5.wrote (Wrote.warmBegin s5 roles)

end Sys2Proof.Machine
end

section
/-!
PROOFS. The pins that hold a start back (R399, R421, R448, R465, R466), and requests for a start (R400).
-/

namespace Sys2Proof.Machine
open Sys2Proof Csr

/-! The module held in reset -/

/-- A field set in one register after another reads as set in each of them. -/
theorem State.fld_foldl_setF {reg : Nat → Nat} (hreg : ∀ i j, reg i = reg j → i = j) (f : Fld) (v : Nat) (hf : f.lo + f.w ≤ 64)
    (s : State) (l : List Nat) {n : Nat} (hn : n ∈ l) :
    (l.foldl (fun s n => s.setF (reg n) f v) s).fld (reg n) f = v % 2 ^ f.w := by
  induction l using List.reverseRecOn with
  | nil => cases hn
  | append_singleton l x ih =>
    rw [List.foldl_append]
    by_cases hx : n = x
    · subst hx
      exact State.fld_setF _ _ _ _ hf
    · have hl : n ∈ l := by simpa [hx] using hn
      exact (State.fld_setF_ne _ _ _ _ _ _ fun e => hx (hreg _ _ e)).trans (ih hl)

theorem DRM_SSTAT_inj (i j : Nat) (h : DRM_SSTAT i = DRM_SSTAT j) : i = j := by
  unfold DRM_SSTAT at h
  omega

/-- A pin holds the module in reset, from a state in which the pin is low. -/
structure Held (s t : State) : Prop where
  inReset : t.inReset = true
  fallow : t.fallow = false
  lanesIdle : t.lanesIdle = true
  bypass : t.bypass = true
  startStage : t.startStage = .idle
  collector : t.csr.find FLT_STATUS = none
  mem : t.mem = s.mem
  dram : t.dram = s.dram
  slots : t.slots = s.slots
  refresh : ∀ n, n < 8 → t.fld (DRM_SSTAT n) DRM_SSTAT.STATE = 1
  pins : t.prst = s.prst ∧ t.pwrLow = s.pwrLow ∧ t.vinLow = s.vinLow ∧ t.scanHold = s.scanHold

theorem Held.rd_FLT_STATUS {s t : State} (h : Held s t) : t.rd FLT_STATUS = 0 := by
  unfold State.rd
  rw [h.collector]
  exact csrReset_FLT_STATUS

/-- The collector cleared, FLT_STATUS is unlisted. -/
theorem State.clearCollector_find (s : State) : s.clearCollector.csr.find FLT_STATUS = none :=
  Table.find_filter_none _ _ _ fun _ => rfl

/-- A filter lists no new register. -/
theorem Table.find_filter_unlisted {α : Type} (t : Table α) (p : Nat × α → Bool) {n : Nat} (h : t.find n = none) :
    Table.find (t.filter p) n = none := by
  rw [← List.filterMap_eq_filter]
  refine Table.find_filterMap_none (fun e e' he => ?_) t h
  rw [Option.guard_eq_some_iff] at he
  exact he.1 ▸ rfl

theorem State.pinReset_held (s : State) : Held s s.pinReset := by
  unfold State.pinReset
  extract_lets s1 s2
  have hunlisted : s2.csr.find FLT_STATUS = none := Table.find_filter_unlisted _ _ s.clearCollector_find
  have h2 : s2.inReset = true ∧ s2.fallow = false ∧ s2.lanesIdle = true ∧ s2.bypass = true ∧ s2.startStage = .idle
      ∧ s2.mem = s.mem ∧ s2.dram = s.dram ∧ s2.slots = s.slots
      ∧ s2.prst = s.prst ∧ s2.pwrLow = s.pwrLow ∧ s2.vinLow = s.vinLow ∧ s2.scanHold = s.scanHold :=
    ⟨rfl, rfl, rfl, rfl, rfl, rfl, rfl, rfl, rfl, rfl, rfl, rfl⟩
  clear_value s2
  have hwrote : Wrote s2 ((List.range 8).foldl (fun s n => s.setF (DRM_SSTAT n) DRM_SSTAT.STATE 1) s2) :=
    (Wrote.refl s2).foldl _ fun t n ht => ht.setF aboveCollector ..
  have hrefresh (n : Nat) (hn : n < 8) := State.fld_foldl_setF DRM_SSTAT_inj DRM_SSTAT.STATE 1 (by decide) s2 (List.range 8)
    (List.mem_range.mpr hn)
  generalize (List.range 8).foldl (fun s n => s.setF (DRM_SSTAT n) DRM_SSTAT.STATE 1) s2 = t at hwrote hrefresh ⊢
  obtain ⟨hsame, hfind⟩ := hwrote
  obtain ⟨hreset, hfallow, hidle, hbypass, hstage, hmem, hdram, hslots, hprst, hpwr, hvin, hscan⟩ := h2
  exact {
    inReset := (congrArg State.inReset hsame).trans hreset
    fallow := (congrArg State.fallow hsame).trans hfallow
    lanesIdle := (congrArg State.lanesIdle hsame).trans hidle
    bypass := (congrArg State.bypass hsame).trans hbypass
    startStage := (congrArg State.startStage hsame).trans hstage
    collector := (hfind _ (Nat.le_refl _)).trans hunlisted
    mem := (congrArg State.mem hsame).trans hmem
    dram := (congrArg State.dram hsame).trans hdram
    slots := (congrArg State.slots hsame).trans hslots
    refresh := hrefresh
    pins := ⟨(congrArg State.prst hsame).trans hprst, (congrArg State.pwrLow hsame).trans hpwr,
      (congrArg State.vinLow hsame).trans hvin, (congrArg State.scanHold hsame).trans hscan⟩ }

/-- A register above FLT_STATUS written, the module is held as before. -/
theorem Held.setFs {s t : State} (h : Held s t) {a : Nat} (ha : FLT_STATUS < a) (hd : ∀ n, n < 8 → DRM_SSTAT n ≠ a)
    (l : List (Fld × Nat)) : Held s (t.setFs a l) where
  inReset := h.inReset
  fallow := h.fallow
  lanesIdle := h.lanesIdle
  bypass := h.bypass
  startStage := h.startStage
  collector := (t.find_setFs_ne l ha.ne).trans h.collector
  mem := h.mem
  dram := h.dram
  slots := h.slots
  refresh := fun n hn => (State.fld_of_find (t.find_setFs_ne l (hd n hn)) _).trans (h.refresh n hn)
  pins := h.pins

/-! A start once no pin holds it back -/

theorem State.releaseStart_begun (s : State) (hp : s.prst = false) (hw : s.pwrLow = false) (hv : s.vinLow = false)
    (hh : s.scanHold = false) : Begun false false s s.releaseStart := by
  have hfree : s.releaseStart = s.beginStart false false := by
    unfold State.releaseStart
    rw [hp, hw, hv, hh]
    rfl
  rw [hfree]
  exact s.beginStart_begun false false

theorem State.releaseStart_held (s : State) (h : s.prst = true ∨ s.pwrLow = true ∨ s.vinLow = true ∨ s.scanHold = true) :
    s.releaseStart = s := by
  unfold State.releaseStart
  rw [if_pos]
  obtain h | h | h | h := h <;> simp [h]

/-- The module at POWER_ON, before a start. -/
def State.powered (s : State) : State :=
  ({ s with vinLow := false, scanHold := false, tapIr := 1, wipeAt := none }.pinReset).setFs CIS_SRSTAT
    [(CIS_SRSTAT.WIPING, 0), (CIS_SRSTAT.CAUSE, 0), (CIS_SRSTAT.WIPES, 0)]

theorem State.powerOn_eq (s : State) : s.powerOn = s.powered.releaseStart := rfl

theorem State.powered_held (s : State) :
    Held { s with vinLow := false, scanHold := false, tapIr := 1, wipeAt := none } s.powered := by
  refine (State.pinReset_held _).setFs (by decide) (fun n hn => ?_) _
  unfold DRM_SSTAT CIS_SRSTAT
  omega

/-! Requests (R399, R400) -/

theorem State.startRequest_idle (s : State) (op : Nat) (h : s.inReset = true ∨ s.fallow = true) : s.startRequest op = s := by
  unfold State.startRequest
  rw [if_pos]
  obtain h | h := h <;> simp [h]

/-- A WARM request is refused in STARTING, with a stack at base rate, and while the ledger is not READY. -/
theorem State.warmRefused_iff (s : State) : s.warmRefused = true ↔
    s.fld HWK_SSTAT HWK_SSTAT.PHASE = 0 ∨ s.fld HWK_SSTAT HWK_SSTAT.BASEMASK ≠ 0 ∨ s.fld LGR_STAT LGR_STAT.STATE ≠ 2 := by
  simp [State.warmRefused, or_assoc]

theorem State.startRequest_badOp (s : State) (hr : s.inReset = false) (hf : s.fallow = false) :
    s.startRequest 3 = s.setF HWK_SSTAT HWK_SSTAT.RESULT 2 := by
  simp [State.startRequest, hr, hf]

theorem State.startRequest_cold (s : State) (hr : s.inReset = false) (hf : s.fallow = false) :
    s.startRequest 2 = s.beginStart false false := by
  simp [State.startRequest, hr, hf]

theorem State.startRequest_refused (s : State) (hr : s.inReset = false) (hf : s.fallow = false) (h : s.warmRefused = true) :
    s.startRequest 1 = s.setF HWK_SSTAT HWK_SSTAT.RESULT 1 := by
  simp [State.startRequest, hr, hf, h]

theorem State.startRequest_warm (s : State) (hr : s.inReset = false) (hf : s.fallow = false) (h : ¬ s.warmRefused = true) :
    s.startRequest 1 = s.beginStart true false := by
  simp [State.startRequest, hr, hf, h]

end Sys2Proof.Machine
end

section
/-!
PROOFS. Failed starts (R416, R417), and VIN outside its range (R466).
-/

namespace Sys2Proof.Machine
open Sys2Proof Csr

/-! A start that fails -/

/-- A start has failed with a code at a step. -/
def Failed (code step : Nat) (s : State) : Prop :=
  s.fld HWK_SSTAT HWK_SSTAT.LASTFAIL = code ∧ s.fld HWK_SSTAT HWK_SSTAT.FAILSTEP = step

namespace Failed
variable {code step : Nat} {s t : State}

theorem of_sstat (h : Failed code step s) (ht : SStat (s.csr.find HWK_SSTAT) t) : Failed code step t :=
  ⟨(ht.fld_eq _).trans h.1, (ht.fld_eq _).trans h.2⟩

theorem fault0 (h : Failed code step s) (c m acc : Nat) : Failed code step (s.fault0 c m acc) :=
  h.of_sstat ((SStat.self s).fault0 c m acc)

theorem setCount (h : Failed code step s) {f : Fld} (hf : 16 ≤ f.lo) (v : Nat) : Failed code step (s.setF HWK_SSTAT f v) :=
  ⟨(s.fld_setF_apart _ _ _ _ (.inl (Nat.le_trans (by decide) hf))).trans h.1,
    (s.fld_setF_apart _ _ _ _ (.inl (Nat.le_trans (by decide) hf))).trans h.2⟩

theorem beginStart (h : Failed code step s) (hc : code ≠ 0) (warm forced : Bool) :
    Failed code step (s.beginStart warm forced) := by
  have hb := s.beginStart_begun warm forced
  have hlast : s.fld HWK_SSTAT HWK_SSTAT.LASTFAIL ≠ 0 := h.1 ▸ hc
  exact ⟨(hb.failed hlast _ (.inl rfl)).trans h.1, (hb.failed hlast _ (.inr rfl)).trans h.2⟩

end Failed

/-- LASTFAIL and FAILSTEP set. -/
theorem State.setFs_failed (s : State) {code step : Nat} (hc : code < 16) (hs : step < 16) :
    Failed code step (s.setFs HWK_SSTAT [(HWK_SSTAT.LASTFAIL, code), (HWK_SSTAT.FAILSTEP, step)]) := by
  constructor
  · rw [State.fld_setFs]
    dsimp only [List.foldl]
    rw [Fld.get_set_apart _ _ _ _ (by decide), Fld.get_set _ _ _ (by decide)]
    exact Nat.mod_eq_of_lt hc
  · rw [State.fld_setFs]
    exact (Fld.get_set _ _ _ (by decide)).trans (Nat.mod_eq_of_lt hs)

/-- A failed start gives its code and its step, whatever comes after it (R416, R417). -/
theorem State.startFail_failed (s : State) {code step : Nat} (h0 : code ≠ 0) (hc : code < 16) (hs : step < 16) :
    Failed code step (s.startFail code step) := by
  have h1 := s.setFs_failed hc hs
  unfold State.startFail
  extract_lets s1 s2 s3 n m s4
  have h2 : Failed code step s2 := Failed.of_sstat (s := s1) h1
    (SStat.foldl (s := { s1 with lanesIdle := true }) (SStat.self s1) _ fun t n ht => ht.setF above ..)
  clear_value s2
  have h3 : Failed code step s3 := h2.fault0 ..
  clear_value s3
  have h4 : Failed code step s4 := h3.setCount (by decide) _
  clear_value s4
  split
  · split
    · exact (h3.setCount (by decide) _).beginStart h0 ..
    · exact ((h3.setCount (by decide) _).fault0 ..).beginStart h0 ..
  · split
    · exact h4.beginStart h0 ..
    · exact Failed.fault0 (s := { s4 with startStage := .idle }) h4 ..

/-- A step of a start fits FAILSTEP. -/
theorem State.startStep_lt (s : State) : s.startStep < 16 := by
  unfold State.startStep
  extract_lets warm
  cases warm
  all_goals
    split
    · decide
    · decide
    · split <;> decide

/-! VIN outside its range -/

theorem setBit_same (x : Word) {n : Nat} (hn : n < 64) : bit (setBit x n true) n = true := by
  unfold bit setBit Word.ofNat
  rw [if_pos rfl, BitVec.getLsbD_or, BitVec.getLsbD_ofNat, Nat.one_shiftLeft, Nat.testBit_two_pow_self]
  simp [hn]

/-- An event sets its bit in FLT_STATUS. -/
theorem State.fault_status (s : State) (code m acc : Nat) (addr : Word) (hn : fltSource code < 64)
    (hout : FLT_STATUS ∉ eventRegs (fltSource code)) :
    bit ((s.fault code m acc addr).rd FLT_STATUS) (fltSource code) = true := by
  rw [State.rd_of_find ((s.fault_frame code m acc addr).find _ hout), State.rd_wr_self]
  exact setBit_same _ hn

theorem State.vinOutside (s : State) (high : Bool) :
    let t := s.fault0 (if high then 0xA9 else 0xA8) mstNone accNone
    bit (t.rd FLT_STATUS) 42 = true ∧ t.mem = s.mem ∧ t.inReset = s.inReset := by
  intro t
  have hsource : fltSource (if high then 0xA9 else 0xA8) = 42 := by cases high <;> decide
  have hframe := s.fault_frame (if high then 0xA9 else 0xA8) mstNone accNone 0
  have hbit := s.fault_status (if high then 0xA9 else 0xA8) mstNone accNone 0 (by rw [hsource]; decide) (by rw [hsource]; decide)
  rw [hsource] at hbit
  exact ⟨hbit, hframe.mem, hframe.inReset⟩

end Sys2Proof.Machine
end

section
/-!
PROOFS. BIST passed, the HEADWORKS image is requested (R401 steps 2 and 3, R403, R407 step 3, R453).
-/

namespace Sys2Proof.Machine
open Sys2Proof Csr

/-! Sluice A stands: no record of the repair store makes it FAILED -/

/-- Sluice A is not FAILED, and these islands have failed BIST. -/
structure Stands (bad : List Nat) (s : State) : Prop where
  badIslands : s.badIslands = bad
  sluice : s.sluState false ≠ slFAILED

namespace Stands
variable {bad : List Nat} {s t : State}

theorem of_find (h : Stands bad s) (hb : t.badIslands = s.badIslands) (hf : t.csr.find SLU_STAT = s.csr.find SLU_STAT) :
    Stands bad t :=
  ⟨hb.trans h.badIslands, fun e => h.sluice ((State.fld_of_find hf _).symm.trans e)⟩

theorem wr (h : Stands bad s) {a : Nat} (ha : a ≠ SLU_STAT) (v : Word) : Stands bad (s.wr a v) :=
  h.of_find rfl (Table.find_put_ne _ _ _ _ ha.symm)

theorem setF (h : Stands bad s) {a : Nat} (ha : a ≠ SLU_STAT) (f : Fld) (v : Nat) : Stands bad (s.setF a f v) := h.wr ha _

theorem setFs (h : Stands bad s) {a : Nat} (ha : a ≠ SLU_STAT) (l : List (Fld × Nat)) : Stands bad (s.setFs a l) := h.wr ha _

theorem bump (h : Stands bad s) {a : Nat} (ha : a ≠ SLU_STAT) (f : Fld) (n : Nat) : Stands bad (s.bump a f n) := h.wr ha _

theorem drop (h : Stands bad s) {a : Nat} (ha : a ≠ SLU_STAT) (f : Fld) : Stands bad (s.drop a f) := h.wr ha _

theorem ite {c : Prop} [Decidable c] (hs : Stands bad s) (ht : Stands bad t) : Stands bad (if c then s else t) := by
  split <;> assumption

theorem foldl {α : Type} {f : State → α → State} (h : Stands bad s) (l : List α)
    (hf : ∀ t x, Stands bad t → Stands bad (f t x)) : Stands bad (l.foldl f s) :=
  List.foldlRecOn l f h fun t ht x _ => hf t x ht

/-- A role that sets bit 2 leaves sluice A standing, wherever it is written. -/
theorem setRetired (h : Stands bad s) (u : Nat) : Stands bad (s.setRole u roleRetired) := by
  by_cases hu : TWN_CSTATE u = SLU_STAT
  · refine ⟨h.badIslands, fun e => ?_⟩
    have hread : (s.setRole u roleRetired).sluState false = SLU_STAT.ASTATE.get (TWN_CSTATE.ROLE.set (s.rd (TWN_CSTATE u)) 4) := by
      unfold State.sluState
      rw [← hu]
      exact State.fld_wr_self ..
    have hbit := Fld.get_testBit SLU_STAT.ASTATE (TWN_CSTATE.ROLE.set (s.rd (TWN_CSTATE u)) 4) 0
    rw [← hread, e, Fld.set_getLsbD] at hbit
    cases hbit
  · exact h.setF hu _ _

/-- A role set of a spare's core number is no state of a sluice. -/
theorem setSpareRole (h : Stands bad s) (u r : Nat) : Stands bad (s.setRole (u / 10 * 10 + 9) r) :=
  h.setF (by unfold TWN_CSTATE SLU_STAT; omega) _ _

theorem ne_LNK_PSTAT (l : Nat) : LNK_PSTAT l ≠ SLU_STAT := by
  unfold LNK_PSTAT SLU_STAT
  split <;> omega

theorem ne_LNK_STAT (l : Nat) : LNK_STAT l ≠ SLU_STAT := by
  unfold LNK_STAT SLU_STAT
  omega

theorem ne_DRM_SSTAT (n : Nat) : DRM_SSTAT n ≠ SLU_STAT := by
  unfold DRM_SSTAT SLU_STAT
  omega

theorem ne_CIS_BSTAT (b : Nat) : CIS_BSTAT b ≠ SLU_STAT := by
  unfold CIS_BSTAT SLU_STAT
  omega

theorem ne_CLK_ISTAT (i : Nat) : CLK_ISTAT i ≠ SLU_STAT := by
  unfold CLK_ISTAT SLU_STAT
  omega

theorem withRowsUsed (h : Stands bad s) (t : Table Nat) : Stands bad { s with rowsUsed := t } := h.of_find rfl rfl

theorem withChkRetired (h : Stands bad s) (l : List Nat) : Stands bad { s with chkRetired := l } := h.of_find rfl rfl

/-- One record of the repair store applied (R453). -/
theorem applyRepair (h : Stands bad s) (r : Nat × Nat) : Stands bad (s.applyRepair r) := by
  have hleft : SPR_LEFT ≠ SLU_STAT := by decide
  unfold State.applyRepair
  extract_lets u s0 l s1 b s2 s3 s4
  have h0 : Stands bad s0 := h.drop hleft _
  have h1 : Stands bad s1 := h.setF (ne_LNK_PSTAT _) _ _
  have h2 : Stands bad s2 := h.withRowsUsed _
  have h3 : Stands bad s3 := h.withRowsUsed _
  have h4 : Stands bad s4 := h3.setFs (ne_DRM_SSTAT _) _
  clear_value s0 s1 s2 s3 s4
  refine .ite (((h.setRetired _).setSpareRole _ _).wr hleft _) (.ite (h0.withChkRetired _) (.ite ?_
    (.ite (h2.drop (ne_DRM_SSTAT _) _) (.ite (h4.wr hleft _) (.ite (h.drop (ne_CIS_BSTAT _) _) (.ite ?_ (.ite ?_ (.ite ?_
      (.ite ?_ h)))))))))
  · exact ((h1.setF (ne_LNK_PSTAT _) _ _).setF (ne_LNK_STAT _) _ _).drop hleft _
  · exact (h.drop (by decide) _).drop hleft _
  · exact (h.drop (by decide) _).drop hleft _
  · exact (h.setF (by decide) _ _).setF hleft _ _
  · exact (h.setF (by decide) _ _).setF hleft _ _

/-! The clears of the banks (R234) -/

theorem cisZero (h : Stands bad s) (b : Nat) : Stands bad (s.cisZero b) := by
  unfold State.cisZero
  extract_lets s1
  have h1 : Stands bad s1 := h.of_find rfl rfl
  clear_value s1
  exact .ite (h1.of_find rfl rfl) (.ite (h1.of_find rfl rfl) h1)

theorem cisClearDone (h : Stands bad s) (b : Nat) : Stands bad (s.cisClearDone b) := by
  unfold State.cisClearDone
  exact .ite ((h.cisZero b).setF (ne_CIS_BSTAT _) _ _) ((h.cisZero b).setF (ne_CIS_BSTAT _) _ _)

theorem beginWipe (h : Stands bad s) (cause : Nat) : Stands bad (s.beginWipe cause) := by
  have hevent {u : State} (hu : Stands bad u) : Stands bad (u.fault0 0x4C mstNone accNone) := by
    have hframe := u.fault_frame 0x4C mstNone accNone 0
    exact hu.of_find hframe.badIslands ((hframe.find _ (by decide)).trans (Table.find_put_ne _ _ _ _ (by decide)))
  have hbanks {u : State} (hu : Stands bad u) : Stands bad u.wipeBanks := by
    unfold State.wipeBanks
    exact .ite ((hu.cisZero 8).cisZero 9) hu
  have hsr : CIS_SRSTAT ≠ SLU_STAT := by decide
  have hat {u : State} (hu : Stands bad u) (n : Option Nat) : Stands bad { u with wipeAt := n } := hu.of_find rfl rfl
  unfold State.beginWipe
  extract_lets now s0 s1 s2
  have h0 : Stands bad s0 := h.bump hsr _ _
  clear_value s0
  have h1 : Stands bad s1 := .ite h (hat h0 _)
  clear_value s1
  have h2 : Stands bad s2 := hevent (h1.setF hsr _ _)
  clear_value s2
  exact .ite h2 (hbanks (h2.setF hsr _ _))

end Stands

/-! The request of an image (R410) -/

theorem Tells.refl (s : State) : Tells s s := ⟨_, _, _, _, rfl⟩

theorem Tells.startStage {s t : State} (h : Tells s t) : t.startStage = s.startStage := by
  obtain ⟨csr, out, noticed, held, rfl⟩ := h
  rfl

theorem State.requestImage_stage (s : State) (st : StartStage) (typ : Nat) : (s.requestImage st typ).startStage = st := by
  unfold State.requestImage
  extract_lets req
  exact ((Tells.refl _).notice ..).startStage

/-- BIST passed with an island and a sluice left, a start requests the HEADWORKS image. -/
theorem State.startBist_requests (s : State) (o : StartOutcome) (hlock : s.flag HWK_SSTAT HWK_SSTAT.KIND = false → o.refLock = true)
    (hbist : o.bist = []) (hgood : (List.range 8).all (fun i => s.badIslands.contains i) = false)
    (hslu : s.sluState false ≠ slFAILED) : (s.startBist o).startStage = .image gciHEADWORKS := by
  have h : Stands s.badIslands s := ⟨rfl, hslu⟩
  unfold State.startBist
  extract_lets warm s0 s1 s2 s3 s4
  have h0 : Stands s.badIslands s0 := h.setF (by decide) _ _
  clear_value s0
  have h1 : Stands s.badIslands s1 := by
    have hunlocked {u : State} (hu : Stands s.badIslands u) : Stands s.badIslands { u with bypass := false } := hu.of_find rfl rfl
    exact .ite h (((hunlocked h0).beginWipe 0).foldl _ fun t r ht => ht.applyRepair r)
  clear_value s1
  have h2 : Stands s.badIslands s2 := by
    unfold s2
    rw [hbist]
    exact h1
  clear_value s2
  have h3 : Stands s.badIslands s3 := h2.foldl _ fun t b ht => .ite (ht.cisClearDone b) ht
  clear_value s3
  have h4 : Stands s.badIslands s4 := h3.foldl _ fun t i ht => ht.setFs (Stands.ne_CLK_ISTAT i) _
  clear_value s4
  have hlocked : ¬ (!warm && !o.refLock) = true := by
    cases hw : warm with
    | true => simp
    | false => simp [hlock hw]
  have hpassed : ¬ (o.bist.contains BistFail.vital || (List.range 8).all (fun i => s4.badIslands.contains i)) = true := by
    rw [hbist, h4.badIslands, hgood]
    decide
  have hstands : ¬ (s4.sluState false = slFAILED && s4.sluState true = slFAILED) = true := by
    simp [h4.sluice]
  rw [if_neg hlocked, if_neg hpassed, if_neg hstands]
  exact s4.requestImage_stage _ _

end Sys2Proof.Machine
end

section
/-!
PROOFS. Trickle service entered, and what goes on under it (R401, R404-R407, R412-R414).
-/

namespace Sys2Proof.Machine
open Sys2Proof Csr

/-! PHASE through what follows its change -/

/-- PHASE of HWK_SSTAT. -/
def PhaseIs (p : Nat) (s : State) : Prop := s.fld HWK_SSTAT HWK_SSTAT.PHASE = p

namespace PhaseIs
variable {p : Nat} {s t : State}

theorem of_sstat (h : PhaseIs p s) (ht : SStat (s.csr.find HWK_SSTAT) t) : PhaseIs p t := (ht.fld_eq _).trans h

theorem setPhase (s : State) (hp : p < 8) : PhaseIs p (s.setPhase p) := s.setPhase_phase p hp

theorem setTime (h : PhaseIs p s) (f : Fld) (v : Nat) : PhaseIs p (s.setF HWK_STIME f v) :=
  (s.fld_setF_ne _ _ _ _ _ (by decide)).trans h

theorem clearCounts (h : PhaseIs p s) : PhaseIs p s.clearCounts := by
  unfold PhaseIs State.clearCounts
  rw [State.fld_setFs]
  dsimp only [List.foldl]
  rw [Fld.get_set_apart _ _ _ _ (by decide), Fld.get_set_apart _ _ _ _ (by decide), Fld.get_set_apart _ _ _ _ (by decide),
    Fld.get_set_apart _ _ _ _ (by decide)]
  exact h

theorem withStage (h : PhaseIs p s) (st : StartStage) : PhaseIs p { s with startStage := st } := h

end PhaseIs

/-! Trickle service (R401, R407, R412) -/

theorem State.trickle_phase (s : State) (us : Nat) : PhaseIs 1 (s.trickle us) := by
  unfold State.trickle
  extract_lets entry s1 s2 s3 s4 s5 s6 s7
  have h5 : PhaseIs 1 s5 := .setPhase s4 (by decide)
  clear_value s5
  have h6 : PhaseIs 1 s6 := (h5.withStage _).setTime _ _
  clear_value s6
  have h7 : PhaseIs 1 s7 := by
    unfold s7
    split
    · exact h6.clearCounts
    · exact h6
  exact h7.of_sstat ((SStat.self s7).grantTurn _)

/-- Without a channel that failed, base training of a stack passes. -/
theorem State.baseTrain_passes (s : State) (n : Nat) : ∃ t, s.baseTrain [] n = some t := by
  unfold State.baseTrain
  extract_lets bad chans spared used live
  have hlive : live.eraseDups = [] := rfl
  rw [hlive]
  dsimp only
  split
  · exact ⟨_, rfl⟩
  · exact ⟨_, rfl⟩

theorem State.baseTrain_foldl_passes (l : List Nat) (s : State) :
    ∃ t, l.foldl (fun (r : Option State) n => r.bind (fun t => t.baseTrain [] n)) (some s) = some t := by
  induction l generalizing s with
  | nil => exact ⟨s, rfl⟩
  | cons n l ih =>
    obtain ⟨t, ht⟩ := s.baseTrain_passes n
    obtain ⟨u, hu⟩ := ih t
    refine ⟨u, ?_⟩
    rw [List.foldl_cons, Option.bind_some, ht]
    exact hu

theorem State.coldFinish_phase (s : State) (o : StartOutcome) (h : o.baseFail = []) : PhaseIs 1 (s.coldFinish o) := by
  obtain ⟨t, ht⟩ := s.baseTrain_foldl_passes (List.range 8)
  unfold State.coldFinish
  rw [h, ht]
  dsimp -zeta only
  extract_lets t1 t2
  generalize t2.setFs LGR_STAT [(LGR_STAT.STATE, 2), (LGR_STAT.FREE, 4194304)] = u
  have hu := u.trickle_phase o.us.toNat
  generalize u.trickle o.us.toNat = v at hu ⊢
  exact hu.of_sstat (SStat.self v).keyResume.altResume

theorem State.warmFinish_phase (s : State) (o : StartOutcome) (h : o.dramFail = []) : PhaseIs 1 (s.warmFinish o) := by
  unfold State.warmFinish
  rw [if_neg (by rw [h]; decide)]
  exact State.trickle_phase _ _

/-! Loopback (R401, R403) -/

theorem contains_insertNat (l : List Nat) (n : Nat) : (insertNat l n).contains n = true := by
  induction l with
  | nil => simp [insertNat]
  | cons k l ih =>
    unfold insertNat
    split
    · simp
    · split
      · next h => simp [h]
      · rw [List.contains_cons, ih, Bool.or_true]

/-- A lane's test ends, and with a lane that no link needs a spare for, that is all (R403). -/
theorem execLaneLoopbackEnd_done (s : State) (lane : Fin 288) (pass : Bool) (hr : s.inReset = false) (hf : s.fallow = false)
    (hphase : s.fld HWK_SSTAT HWK_SSTAT.PHASE ≠ 3) (h : pass = true ∨ 256 ≤ s.fld (LNK_PSTAT lane.val) LNK_PSTAT.CARRIES) :
    ∃ t, execLaneLoopbackEnd lane pass s = .next t ∧ t.loopDone.contains lane.val = true := by
  unfold execLaneLoopbackEnd
  refine ⟨_, rfl, ?_⟩
  by_cases hdone : s.loopDone.contains lane.val = true
  · rw [if_pos (by rw [hdone, Bool.or_true])]
    exact hdone
  · have hgoes : ¬ (s.fld HWK_SSTAT HWK_SSTAT.PHASE = 3 || s.inReset || s.fallow || s.loopDone.contains lane.val) = true := by
      rw [hr, hf, Bool.not_eq_true _ |>.mp hdone, decide_eq_false hphase]
      decide
    rw [if_neg hgoes]
    cases pass with
    | true => exact contains_insertNat _ _
    | false =>
      have hcarries : 256 ≤ s.fld (LNK_PSTAT lane.val) LNK_PSTAT.CARRIES := h.resolve_left (by decide)
      extract_lets s1 s2 l
      have hl : ¬ l < 256 := Nat.not_lt.mpr hcarries
      rw [if_neg (by decide), if_neg hl]
      exact contains_insertNat _ _

/-! Full-rate training (R404, R406) -/

/-- A channel's training ends, passed or not: it does not come again. -/
theorem execFullRateTraining_done (s : State) (n : Fin 8) (ch : Fin 17) (ok : Bool)
    (hphase : s.fld HWK_SSTAT HWK_SSTAT.PHASE = 1) (hnext : s.nextTrain n.val = some ch.val)
    (hmask : (s.fld HWK_SSTAT HWK_SSTAT.BASEMASK).testBit n.val = true) :
    ∃ t, execFullRateTraining n ch ok s = .next t ∧ t.fullRate.contains (n.val * 32 + ch.val) = true := by
  unfold execFullRateTraining
  refine ⟨_, rfl, ?_⟩
  rw [if_neg (by simp [hphase, hnext, hmask])]
  extract_lets s1 s2
  have h1 : s1.fullRate.contains (n.val * 32 + ch.val) = true := contains_insertNat _ _
  clear_value s1
  have h2 : s2.fullRate.contains (n.val * 32 + ch.val) = true := by
    unfold s2
    split
    · exact h1
    · have hkept : (s1.fault0 0x39 mstDram accNone).fullRate = s1.fullRate := (s1.fault_frame 0x39 mstDram accNone 0).fullRate
      exact hkept ▸ h1
  clear_value s2
  split <;> exact h2

/-! The transition (R413, R414) -/

theorem State.transitBegin_phase (s : State) : PhaseIs 2 s.transitBegin := by
  have h0 : PhaseIs 2 (s.setPhase 2) := .setPhase s (by decide)
  unfold State.transitBegin
  extract_lets s1 s2 s3 s4
  have h1 : PhaseIs 2 s1 := h0
  clear_value s1
  have h2 : SStat (s1.csr.find HWK_SSTAT) s2 := (SStat.self s1).foldl _ fun t i ht => ht.toFull i
  clear_value s2
  have h3 : SStat (s1.csr.find HWK_SSTAT) s3 := h2.foldl _ fun t b ht => .ite (ht.setSlu ..) ht
  clear_value s3
  have h4 : SStat (s1.csr.find HWK_SSTAT) s4 := h3
  clear_value s4
  exact h1.of_sstat (h4.foldl _ fun t l ht => ht.linkEnable l).lanesBegin

theorem State.transitEnd_phase (s : State) (bistOk : Bool) (us : Nat) : PhaseIs 3 (s.transitEnd bistOk us) := by
  unfold State.transitEnd
  extract_lets s1
  have h1 : PhaseIs 3 (s1.setPhase 3) := .setPhase s1 (by decide)
  exact ((h1.setTime _ _).clearCounts).of_sstat (SStat.self _).restartSwap

theorem execTransition_begins (s : State) (bistOk : Bool) (us : BitVec 32) (hr : s.inReset = false) (hf : s.fallow = false)
    (hphase : s.fld HWK_SSTAT HWK_SSTAT.PHASE = 1) (hmay : s.mayTransit = true) :
    execTransition bistOk us s = .next s.transitBegin := by
  simp [execTransition, hr, hf, hphase, hmay]

theorem execTransition_ends (s : State) (bistOk : Bool) (us : BitVec 32) (hr : s.inReset = false) (hf : s.fallow = false)
    (hphase : s.fld HWK_SSTAT HWK_SSTAT.PHASE = 2) (hclk : s.clkChange = []) :
    execTransition bistOk us s = .next (s.transitEnd bistOk us.toNat) := by
  have hstill : ([12, 13] ++ List.range 8).all (fun i => (s.clkChange.find i).isNone) = true := by
    rw [hclk]
    rfl
  simp only [execTransition, hr, hf, hphase, hstill, Bool.or_self, Bool.false_eq_true, if_false, if_true]

end Sys2Proof.Machine
end

section
/-!
PROOFS. Starts begin as R399 and R465 give.
-/

namespace Sys2Proof.Machine
open Sys2Proof Csr

/-- What shows that a start has begun, from a state that agrees on what the module keeps. -/
theorem Begun.shown {warm : Bool} {s s' t : State} (h : Begun warm false s' t) (hslots : s'.slots = s.slots)
    (hdram : s'.dram = s.dram) (hmem : s'.mem = s.mem) :
    t.inReset = false ∧ t.fallow = false ∧ t.lanesIdle = true ∧ t.startStage = .begun
      ∧ t.cores = [] ∧ t.sessions = [] ∧ t.live = [] ∧ t.iotlb = [] ∧ t.fld HWK_SSTAT HWK_SSTAT.KIND = b2n warm
      ∧ t.fld HWK_SSTAT HWK_SSTAT.PHASE = 0 ∧ t.fld HWK_SSTAT HWK_SSTAT.FORCED = 0
      ∧ t.slots = (if b2n warm = 1 then s.slots else []) ∧ (s.dram = [] → t.mem = s.mem) := by
  have hkept : t.slots = if b2n warm = 1 then s.slots else [] := by
    rw [h.slots, hslots]
    cases warm <;> rfl
  exact ⟨h.inReset, h.fallow, h.lanesIdle, h.startStage, h.cores, h.sessions, h.live, h.iotlb, h.kind, h.phase, h.forced, hkept,
    fun hd => (h.mem (hdram.trans hd)).trans hmem⟩

/-- What shows that a pin holds the module, from a state that agrees on what the module keeps. -/
theorem Held.shown {s s' t : State} (h : Held s' t) (hmem : s'.mem = s.mem) (hslots : s'.slots = s.slots) :
    t.inReset = true ∧ t.fallow = false ∧ t.lanesIdle = true ∧ t.bypass = true ∧ t.startStage = .idle
      ∧ t.rd FLT_STATUS = 0 ∧ t.mem = s.mem ∧ t.slots = s.slots ∧ ∀ n, n < 8 → t.fld (DRM_SSTAT n) DRM_SSTAT.STATE = 1 :=
  ⟨h.inReset, h.fallow, h.lanesIdle, h.bypass, h.startStage, h.rd_FLT_STATUS, h.mem.trans hmem, h.slots.trans hslots, h.refresh⟩

/-! A start under way goes on (R401, R407) -/

theorem State.flag_of_fld {s : State} {a : Nat} {f : Fld} {b : Bool} (h : s.fld a f = b2n b) : s.flag a f = b := by
  unfold State.flag
  rw [h]
  cases b <;> rfl

theorem State.starting_of {s : State} (hr : s.inReset = false) (hf : s.fallow = false) (hs : s.startStage ≠ .idle) :
    s.starting = true := by
  simp [State.starting, hr, hf, hs]

theorem execColdStart_goesOn (s : State) (o : StartOutcome) (h : s.starting = true) (hk : s.fld HWK_SSTAT HWK_SSTAT.KIND = 0) :
    execColdStart o s = .next (s.startOn o) := by
  unfold execColdStart
  rw [if_pos (by rw [h, State.flag_of_fld (b := false) hk]; rfl)]

theorem execWarmStart_goesOn (s : State) (o : StartOutcome) (h : s.starting = true) (hk : s.fld HWK_SSTAT HWK_SSTAT.KIND = 1) :
    execWarmStart o s = .next (s.startOn o) := by
  unfold execWarmStart
  rw [if_pos (by rw [h, State.flag_of_fld (b := true) hk]; rfl)]

theorem State.startOn_begun {s : State} (h : s.startStage = .begun) (o : StartOutcome) : s.startOn o = s.startBist o := by
  unfold State.startOn
  rw [h]

theorem State.startOn_loaded {s : State} (h : s.startStage = .loaded) (o : StartOutcome) :
    s.startOn o = if s.flag HWK_SSTAT HWK_SSTAT.KIND then s.warmFinish o else s.coldFinish o := by
  unfold State.startOn
  rw [h]

/-- A start under way fails with a code of LASTFAIL. -/
theorem execStartFail_failed (s : State) (code step : BitVec 4) (h : s.starting = true) (h1 : 1 ≤ code.toNat) (h7 : code.toNat ≤ 7) :
    ∃ t, execStartFail code step s = .next t ∧ Failed code.toNat step.toNat t := by
  refine ⟨_, ?_, s.startFail_failed (Nat.ne_of_gt h1) code.isLt step.isLt⟩
  unfold execStartFail
  rw [if_neg (by omega), if_pos h]

theorem execStartDeadline_failed (s : State) (hr : s.inReset = false) (hf : s.fallow = false) (hs : s.startStage ≠ .idle)
    (hp : s.fld HWK_SSTAT HWK_SSTAT.PHASE = 0) :
    ∃ t, execStartDeadline s = .next t ∧ Failed 7 s.startStep t := by
  refine ⟨_, ?_, s.startFail_failed (by decide) (by decide) s.startStep_lt⟩
  simp [execStartDeadline, hr, hf, hs, hp]

theorem execImageReqTimeout_failed (s : State) (typ : Nat) (h : s.starting = true) (hs : s.startStage = .image typ)
    (hi : s.imageIn.full = false) : ∃ t, execImageReqTimeout s = .next t ∧ Failed 4 s.startStep t := by
  refine ⟨_, ?_, s.startFail_failed (by decide) (by decide) s.startStep_lt⟩
  simp [execImageReqTimeout, hs, hi, h]

/-- At POWER_ON with no pin low a cold start begins, the collector clear. -/
theorem State.powerOn_begun (s : State) (hp : s.prst = false) (hw : s.pwrLow = false) :
    Begun false false s.powered s.powerOn ∧ s.powerOn.vinLow = false ∧ s.powerOn.rd FLT_STATUS = 0 := by
  have hheld := s.powered_held
  obtain ⟨hprst, hpwr, hvin, hscan⟩ := hheld.pins
  have hbegun := s.powered.releaseStart_begun (hprst.trans hp) (hpwr.trans hw) hvin hscan
  have hnone : s.powerOn.csr.find FLT_STATUS = none := hbegun.unlisted _ (Nat.le_refl _) (by decide) hheld.collector
  refine ⟨hbegun, hbegun.pins.2.2.trans hvin, ?_⟩
  unfold State.rd
  rw [hnone]
  exact csrReset_FLT_STATUS

/-- At POWER_ON with a pin low the module stays held. -/
theorem State.powerOn_held (s : State) (h : s.prst = true ∨ s.pwrLow = true) :
    Held { s with vinLow := false, scanHold := false, tapIr := 1, wipeAt := none } s.powerOn := by
  have hheld := s.powered_held
  obtain ⟨hprst, hpwr, -⟩ := hheld.pins
  have hlow : s.powered.prst = true ∨ s.powered.pwrLow = true := h.imp hprst.trans hpwr.trans
  rw [State.powerOn_eq, State.releaseStart_held _ (hlow.imp id .inl)]
  exact hheld

/-- A pin released, a cold start begins unless another holds the module. -/
theorem execPrstRelease_low {s : State} (h : s.prst = true) : execPrstRelease s = .next { s with prst := false }.releaseStart := by
  unfold execPrstRelease
  rw [if_pos h]

theorem execPwrGoodHigh_low {s : State} (h : s.pwrLow = true) :
    execPwrGoodHigh s = .next { s with pwrLow := false }.releaseStart := by
  unfold execPwrGoodHigh
  rw [if_pos h]

theorem execVinOutsideRange_kept {s : State} (h : s.vinLow = false) (high : Bool) :
    execVinOutsideRange high s = .next (s.fault0 (if high then 0xA9 else 0xA8) mstNone accNone) := by
  unfold execVinOutsideRange
  rw [if_neg (by simp [h])]

/-- Settles O51: it holds; each command's own lemma gives its clause. -/
theorem startsBeginAsR399AndR465Give : Obligations.StartsBeginAsR399AndR465Give := by
  unfold Obligations.StartsBeginAsR399AndR465Give
  intro s high o code step lane n ch ok us
  dsimp only
  refine ⟨?powerOn, ?prstLow, ?pwrLow, ?vinLow, ?prstIdle, ?prstBegins, ?prstHeld, ?pwrIdle, ?pwrBegins, ?pwrHeld, ?powerOnHeld,
    ?vinIdle, ?vinOutside, ?idle, fun hr hf => ?_⟩
  case powerOn =>
    intro hp hw
    obtain ⟨hbegun, hvin, hstatus⟩ := s.powerOn_begun hp hw
    have hheld := s.powered_held
    exact ⟨_, rfl, hbegun.shown hheld.slots hheld.dram hheld.mem, hvin, hstatus⟩
  case prstLow =>
    have hheld := State.pinReset_held { s with prst := true }
    exact ⟨_, rfl, hheld.shown rfl rfl, hheld.pins.1⟩
  case pwrLow =>
    have hheld := State.pinReset_held { s with pwrLow := true }
    exact ⟨_, rfl, hheld.shown rfl rfl, hheld.pins.2.1⟩
  case vinLow =>
    have hheld := State.pinReset_held { s with vinLow := true }
    exact ⟨_, rfl, hheld.shown rfl rfl, hheld.pins.2.2.1⟩
  case prstIdle =>
    intro hp
    exact congrArg _ (if_neg (by simp [hp]))
  case prstBegins =>
    intro hp hw hv hh
    have hbegun := State.releaseStart_begun { s with prst := false } rfl hw hv hh
    exact ⟨_, execPrstRelease_low hp, hbegun.shown rfl rfl rfl, hbegun.pins.1⟩
  case prstHeld =>
    intro hp h
    exact (execPrstRelease_low hp).trans (congrArg _ (State.releaseStart_held { s with prst := false } (.inr h)))
  case pwrIdle =>
    intro hw
    exact congrArg _ (if_neg (by simp [hw]))
  case pwrBegins =>
    intro hw hp hv hh
    have hbegun := State.releaseStart_begun { s with pwrLow := false } hp rfl hv hh
    exact ⟨_, execPwrGoodHigh_low hw, hbegun.shown rfl rfl rfl, hbegun.pins.2.1⟩
  case pwrHeld =>
    intro hw h
    exact (execPwrGoodHigh_low hw).trans
      (congrArg _ (State.releaseStart_held { s with pwrLow := false } (h.imp id .inr)))
  case powerOnHeld =>
    intro h
    have hheld := s.powerOn_held h
    exact ⟨_, rfl, hheld.shown rfl rfl, hheld.pins.2.2.1⟩
  case vinIdle =>
    intro hv
    exact congrArg _ (if_pos hv)
  case vinOutside =>
    intro hv
    exact ⟨_, execVinOutsideRange_kept hv high, s.vinOutside high⟩
  case idle =>
    intro h
    exact ⟨congrArg _ (s.startRequest_idle 1 h), congrArg _ (s.startRequest_idle 2 h), congrArg _ (s.startRequest_idle 3 h)⟩
  have hstarting (hs : s.startStage ≠ .idle) : s.starting = true := State.starting_of hr hf hs
  refine ⟨congrArg _ (s.startRequest_badOp hr hf), ?refused, ?warm, ?cold, ?bist, ?loaded, ?timeout, ?fails, ?lane, ?train,
    ?begins, ?ends⟩
  case refused =>
    intro h
    exact congrArg _ (s.startRequest_refused hr hf (s.warmRefused_iff.mpr h))
  case warm =>
    intro h
    have hrequest := s.startRequest_warm hr hf fun hw => h (s.warmRefused_iff.mp hw)
    exact ⟨_, congrArg Host.Outcome.next hrequest, (s.beginStart_begun true false).shown rfl rfl rfl⟩
  case cold =>
    exact ⟨_, congrArg Host.Outcome.next (s.startRequest_cold hr hf), (s.beginStart_begun false false).shown rfl rfl rfl⟩
  case bist =>
    intro hs hbist hgood hslu
    have hgo := hstarting (by rw [hs]; decide)
    refine ⟨fun hk hlock => ⟨_, execColdStart_goesOn s o hgo hk, ?_⟩, fun hk => ⟨_, execWarmStart_goesOn s o hgo hk, ?_⟩⟩
    · rw [State.startOn_begun hs]
      exact s.startBist_requests o (fun _ => hlock) hbist hgood hslu
    · rw [State.startOn_begun hs]
      refine s.startBist_requests o (fun hcold => ?_) hbist hgood hslu
      rw [State.flag_of_fld (b := true) hk] at hcold
      cases hcold
  case loaded =>
    intro hs
    have hgo := hstarting (by rw [hs]; decide)
    refine ⟨fun hk hbase => ⟨_, execColdStart_goesOn s o hgo hk, ?_⟩, fun hk hdram => ⟨_, execWarmStart_goesOn s o hgo hk, ?_⟩⟩
    · rw [State.startOn_loaded hs, State.flag_of_fld (b := false) hk]
      exact s.coldFinish_phase o hbase
    · rw [State.startOn_loaded hs, State.flag_of_fld (b := true) hk]
      exact s.warmFinish_phase o hdram
  case timeout =>
    intro typ hs hi
    exact execImageReqTimeout_failed s typ (hstarting (by rw [hs]; simp)) hs hi
  case fails =>
    intro hs hp
    exact ⟨execStartDeadline_failed s hr hf hs hp, execStartFail_failed s code step (hstarting hs)⟩
  case lane => exact execLaneLoopbackEnd_done s lane ok hr hf
  case train => exact execFullRateTraining_done s n ch ok
  case begins =>
    intro hp hmay
    exact ⟨_, execTransition_begins s ok us hr hf hp hmay, s.transitBegin_phase⟩
  case ends =>
    intro hp hclk
    exact ⟨_, execTransition_ends s ok us hr hf hp hclk, s.transitEnd_phase ok us.toNat⟩

end Sys2Proof.Machine
end
